-- ==== Sys2Proof/Word.lean ====
section
/-!
DEFINITION. The machine's words: registers are 32-bit (R2), memory is bytes, and sparse data is held as a table of
(key, value) pairs in rising key order.
-/
namespace Sys2Proof

/-- A register or memory word, 32 bits. -/
abbrev Word := BitVec 32
/-- One byte. -/
abbrev Byte := BitVec 8
/-- Sparse data: (key, value) pairs, keys strictly rising, no entry equal to the default of its key. -/
abbrev Tbl (α : Type) := List (Nat × α)

end Sys2Proof
end

