-- ==== Sys2Proof/Syntax.lean ====
section
/-!
DEFINITION. The commands of the block: one constructor per row of the opcode table, in the table's order. An operand of
type `Fin n` names one of n like objects (a head, a slice, a channel, an engine, a ring); an operand of type `BitVec n` is
what a write delivers; `t` is the instant of an event in units of 1/256 ns; the other operands are what a pin, a measurement
or a link brings to the chip. The meanings say what each operand stands for.
-/
namespace Sys2Proof

/-- A command: an access from outside, an event on a pin or a link, a measurement, or a moment of the chip's own machinery
at which a rule says that something happens. -/
inductive Instr where
  /-- REGISTER_WRITE (R5): A write to a register that has no row of its own sets its fields, subject to the access codes and the enable rule. -/
  | registerWrite (o : BitVec 24) (w : BitVec 32) (word : Bool) (fw : Bool)
  /-- BASE_HI_WRITE (R404): A write of the HI half of a 64-bit base completes the new base, which is checked as a whole and takes effect or is refused. -/
  | baseHiWrite (o : BitVec 24) (w : BitVec 32) (fw : Bool)
  /-- TICK_ENABLE (R38): Setting TICK_CTL.EN makes the first tick edge at once under sources 0 and 2, or arms the generator for the first FSYNC_IN pulse under source 1. -/
  | tickEnable
  /-- TIMER_TICK (R403): The internal timer reaches its period and makes a tick edge on the nearest core clock edge. -/
  | timerTick
  /-- FSYNC_IN_PULSE (R23): An FSYNC_IN edge of the selected polarity is accepted inside the window and makes the tick, or is ignored and counted. -/
  | fsyncInPulse (t : Nat)
  /-- FSYNC_WINDOW_MISS (R23): The FSYNC_IN window ends without a pulse, and the device makes a flywheel tick itself and counts the miss. -/
  | fsyncWindowMiss
  /-- TICK_SOURCE_LOST (R23): The 16th consecutive missed tick raises a tick-source-lost event once. -/
  | tickSourceLost
  /-- FSYNC_OUT_PULSE_END (R25): The FSYNC_OUT pulse ends after TICK_OUT_WIDTH × 10 ns. -/
  | fsyncOutPulseEnd
  /-- COMMIT_POINT (R29): The commit point, TICK_GUARD_US before a tick edge, is reached; later requests go to the next tick and unfinished work is overrun. -/
  | commitPoint
  /-- ENGINE_BARRIER_RELEASE (R33): The end-of-tick barrier releases after the last engine arrives, or closes without the late ones after the commit point. -/
  | engineBarrierRelease
  /-- TSYNC_IN_EDGE (R36): A TSYNC_IN edge of the selected polarity captures POWERED_NS, or is counted in TSYNC_MISS if it comes within 10 µs of the last capture. -/
  | tsyncInEdge (t : Nat)
  /-- TICK_POWERED_NS_LO_READ (R35): A read of TICK_POWERED_NS_LO latches the upper half into TICK_POWERED_NS_HI. -/
  | tickPoweredNsLoRead
  /-- HDET_N_CHANGE (R59): The HDET_N input changes level and starts its filter. -/
  | hdetNChange (h : Fin 4) (high : Bool) (t : Nat)
  /-- PRESENCE_ACCEPTED (R59): A filtered HDET_N level becomes stable and changes HEAD_STATUS.PRESENT, raising a presence event. -/
  | presenceAccepted (h : Fin 4)
  /-- HEAD_PWR_SETTLE_ELAPSED (R61): HEAD_PWR_SETTLE expires after HPEN rises, and the biases start to ramp to their codes. -/
  | headPwrSettleElapsed (h : Fin 4)
  /-- BIAS_RAMP_DONE (R61): The bias ramp completes, so the head can have its timing started. -/
  | biasRampDone (h : Fin 4)
  /-- HEAD_TIMING_START (R61): HEAD_CTL.CLK is set and the timing starts at the next tick whose TICK_COUNT modulo N equals P; the head becomes idle. -/
  | headTimingStart (h : Fin 4)
  /-- HEAD_BIAS_WRITE (R47): A write to HEAD_BIASk.CODE is checked against HEAD_BIAS_MAXk and held for the next tick edge, or taken at once while the tick does not run. -/
  | headBiasWrite (h : Fin 4) (k : Fin 8) (code : BitVec 16)
  /-- BIAS_FAULT (R48): A bias output held in its 20 mA limit for 100 µs raises a bias-fault event and removes the head as an unplanned detach. -/
  | biasFault (h : Fin 4) (k : Fin 8)
  /-- HEAD_CLK_START (R55): A write of HEAD_CTL.CLK = 1 starts the head timing, or is refused while HPEN is low. -/
  | headClkStart (h : Fin 4)
  /-- HEAD_CLK_STOP (R406): A write of HEAD_CTL.CLK = 0 stops the timing at once, truncates the frame in progress, clears RUN and leaves the head in powering. -/
  | headClkStop (h : Fin 4)
  /-- HEAD_CTL_RUN_START (R62): A write of HEAD_CTL.RUN = 1 requests a head start, bound to a tick. -/
  | headCtlRunStart (h : Fin 4)
  /-- HEAD_CTL_RUN_DETACH (R63): A write of HEAD_CTL.RUN = 0 requests a planned detach, bound to a tick. -/
  | headCtlRunDetach (h : Fin 4)
  /-- HEAD_START_COMMIT (R62): At its commit point a start request is checked cause by cause and either refused or the head set to running. -/
  | headStartCommit (h : Fin 4)
  /-- DETACH_COMMIT (R63): At its tick a planned detach lets the frame in progress finish and puts the head into draining, or powers an idle head down at once. -/
  | detachCommit (h : Fin 4)
  /-- DRAIN_COMPLETE (R63): When the head's in-flight work is delivered, the biases ramp to 0 V, the timing stops and HPEN drops. -/
  | drainComplete (h : Fin 4)
  /-- DETACH_COMPLETE (R63): The biases reach 0 V with HPEN low and the head is in the present state, which completes the detach. -/
  | detachComplete (h : Fin 4)
  /-- HEAD_FRAME_START (R26): A head starts a frame every N ticks at phase P, raising its frame number and asserting HFSYNC. -/
  | headFrameStart (h : Fin 4)
  /-- REFERENCE_EVALUATION (R57): The reference window of a frame is summed into T_fpa and accepted, or rejected as implausible. -/
  | referenceEvaluation (h : Fin 4)
  /-- ACODE_LOAD (R74): At P / 64 after the previous sample, the pixel's ACODE loads into the offset-cancel DAC if its record is usable. -/
  | acodeLoad (h : Fin 4) (r : Nat) (c : Nat)
  /-- PIXEL_CONVERSION (R74): The slice samples the pixel, converts it, and delivers the code and status to the pipeline. -/
  | pixelConversion (h : Fin 4) (r : Nat) (j : Nat) (k : Fin 36) (v : Int) (o : Int) (err : Bool)
  /-- CAL_ROW (R76): In a calibration row each working slice converts its calibration inputs and returns to its tap with the DAC at 8192. -/
  | calRow (h : Fin 4) (r : Nat) (codes : List (Nat × List (Nat × Bool))) (stand : List (Nat × Nat × List Nat))
  /-- CAL_RESULT (R79): After 2^CAL_AVG calibration rows a measurement result is formed, checked against the limits, and accepted or refused. -/
  | calResult (h : Fin 4) (l : Fin 38)
  /-- SLICE_FAILING (R81): FAILRUN reaching FAIL_LIM sets FAILING and raises a slice-failing event. -/
  | sliceFailing (h : Fin 4) (l : Fin 38)
  /-- SPARE_CAL_RESULT (R82): A spare completes a background measurement and applies its trims at once. `codes`: its conversions,
  `errs`: which of them ended with an error. -/
  | spareCalResult (h : Fin 4) (l : Fin 38) (codes errs : List Nat)
  /-- HARD_FAULT_DETECTED (R83): More than HARD_LIM status-2 conversions of a slice in one row declare a hard fault. -/
  | hardFaultDetected (h : Fin 4) (l : Fin 38)
  /-- STUCK_DETECTED (R83): A video-tap slice returning the same code for 4096 consecutive conversions is declared stuck. -/
  | stuckDetected (h : Fin 4) (l : Fin 38)
  /-- TAKEOVER (R84): The fault manager assigns the lowest free spare, connects it to the tap, and delivers the failing slice's codes with status 2. -/
  | takeover (h : Fin 4)
  /-- SPARE_TAKES_TAP (R84): From the first tap period 0 at least two periods after connection, the spare takes the tap's ACODE stream and delivers its codes. -/
  | spareTakesTap (h : Fin 4) (l : Fin 38) (r : Nat)
  /-- REQUALIFY_DONE (R85): Requalification of a retired slice ends, at instant `t`, and returns it as a spare or leaves it retired. -/
  | requalifyDone (h : Fin 4) (l : Fin 38) (t : Nat)
  /-- TRAINING_START (R405): A training run starts over the taps in use, at attach, on command, or after a takeover. -/
  | trainingStart (h : Fin 4)
  /-- THRESHOLD_TRAINING_RESULT (R87): Comparator threshold training sets CTRIM to the centre of its valid window, or is refused. -/
  | thresholdTrainingResult (h : Fin 4) (l : Fin 38) (errs : List (List Bool)) (lost : Bool)
  /-- PHASE_TRAINING_RESULT (R88): Phase training sets the tap's SPHASE to the centre of its valid window at the next frame start, or is refused. -/
  | phaseTrainingResult (h : Fin 4) (tap : Fin 36) (steps : List (List (Nat × Nat))) (lost : Bool)
  /-- TRAINING_DONE (R89): A training run ends, with its accepted and refused taps reported. -/
  | trainingDone (h : Fin 4)
  /-- AFE_CMD_TRAIN (R92): AFE_GRP_CMD OP 1 requests a training run in the group. -/
  | afeCmdTrain (g : Fin 4)
  /-- AFE_CMD_SWAP (R92): AFE_GRP_CMD OP 2 requests a takeover of the named working slice. -/
  | afeCmdSwap (g : Fin 4) (l : Fin 64)
  /-- AFE_CMD_REQUALIFY (R92): AFE_GRP_CMD OP 3 requests requalification of the named retired slice. -/
  | afeCmdRequalify (g : Fin 4) (l : Fin 64)
  /-- ROW_FETCH_ISSUE (R96): At the first sample of row q − LEAD, or at the frame's commit point, the pipeline issues the record fetches of row q. -/
  | rowFetchIssue (h : Fin 4) (no : Nat) (q : Nat)
  /-- ROW_FETCH_DONE (R97): Fetched records arrive in their slot, with ECC and GEN4 checks applied when used. -/
  | rowFetchDone (h : Fin 4) (q : Nat)
  /-- PIXEL_CORRECTION (R104): The pipeline takes the returned code and handles the pixel by the first case that applies, computing V, C and the outputs. -/
  | pixelCorrection (h : Fin 4) (r : Nat) (c : Nat)
  /-- LATE_FILL_DONE (R99): The previous-frame value read for a late pixel arrives and is written to the derived formats. -/
  | lateFillDone (h : Fin 4) (r : Nat) (c : Nat)
  /-- ROW_COMPLETE (R100): At the last sample of a row, its slot is freed and its line status word is written. -/
  | rowComplete (h : Fin 4) (r : Nat)
  /-- FRAME_LANDED (R13): Every output of a frame is in DRAM, and the frame is offered for host delivery. -/
  | frameLanded (h : Fin 4)
  /-- CORR_LOFF_WRITE (R113): A write of CORR_LOFF commits it with the current CORR_INV_EPS as one pair for the next frame start. -/
  | corrLoffWrite (h : Fin 4) (v : BitVec 32)
  /-- CORR_BANK_GEN_WRITE (R120): A write of CORR_BANKb_GEN is refused when its low 4 bits equal those of either bank's generation. -/
  | corrBankGenWrite (h : Fin 4) (b : Fin 2) (gen : BitVec 16)
  /-- CAL_CMD_REQUEST (R123): CAL_CMD OP 1 requests a shutter event for the head. -/
  | calCmdRequest (h : Fin 4)
  /-- CAL_CMD_ABORT (R135): CAL_CMD OP 2 aborts the running shutter event, or is refused after L's commit point. -/
  | calCmdAbort (h : Fin 4)
  /-- CAL_CMD_LOAD_OPEN (R119): CAL_CMD OP 3 opens a load on the inactive bank, invalidating it and setting LOCK. -/
  | calCmdLoadOpen (h : Fin 4) (b : Fin 2)
  /-- CAL_CMD_LOAD_CLOSE (R119): CAL_CMD OP 4 closes the load, clearing LOCK and making the bank valid. -/
  | calCmdLoadClose (h : Fin 4) (b : Fin 2)
  /-- CAL_CMD_ACTIVATE (R121): CAL_CMD OP 5 requests activation of a named bank and generation, bound to a tick. -/
  | calCmdActivate (h : Fin 4) (b : Fin 2) (gen : BitVec 16)
  /-- LUT_REFILL_DONE (R121): The on-chip copy of the named bank's radiometric part finishes refilling. -/
  | lutRefillDone (h : Fin 4)
  /-- ACTIVATION_COMMIT (R122): At its commit point an activation is checked and switches the head's bank at the tick, or is refused or deferred. -/
  | activationCommit (h : Fin 4)
  /-- CAL_INTERVAL_TRIGGER (R123): INTERVAL seconds of powered time since the last event make an automatic shutter request. -/
  | calIntervalTrigger (h : Fin 4)
  /-- CAL_REQUEST_COMMIT (R124): At its commit point a shutter request is checked and refused or accepted. -/
  | calRequestCommit (h : Fin 4)
  /-- CAL_CLOSING_START (R125): At the starting tick of F0 the close profile starts on the shutter channel. -/
  | calClosingStart (h : Fin 4)
  /-- CAL_CLOSING_END (R125): Closing ends when the close profile has ended and, if required, the position reads closed. -/
  | calClosingEnd (h : Fin 4)
  /-- CAL_POSITION_TIMEOUT (R125): The position does not read closed within a frame period after the close profile, and the event is abandoned with result 2. -/
  | calPositionTimeout (h : Fin 4)
  /-- CAL_SETTLE_DONE (R125): SETTLE frames have passed and averaging begins at the next frame start. -/
  | calSettleDone (h : Fin 4)
  /-- CAL_AVERAGE_FRAME (R128): In an averaged frame each usable status-0 pixel adds its term to the accumulator. -/
  | calAverageFrame (h : Fin 4) (r : Nat) (c : Nat)
  /-- CAL_BUILD_FRAME_START (R134): The build frame starts; the new generation is written to the inactive bank and the open profile starts. -/
  | calBuildFrameStart (h : Fin 4)
  /-- CAL_VERDICT (R131): With the build outputs in DRAM, the build is accepted and activation requested, or refused. -/
  | calVerdict (h : Fin 4)
  /-- CAL_OPENING_END (R125): Opening ends when the open profile has ended and, if required, the position reads open. -/
  | calOpeningEnd (h : Fin 4)
  /-- CAL_OPEN_SETTLE_DONE (R125): OPEN_SETTLE frames have passed after opening. -/
  | calOpenSettleDone (h : Fin 4)
  /-- CAL_LIVE_FRAME (R126): The live frame L starts, held frames end and the event returns to idle. -/
  | calLiveFrame (h : Fin 4)
  /-- ABANDON_HOLD_EXPIRED (R135): ABANDON_HOLD frames pass after an abandonment with a faulted channel, and held frames end. -/
  | abandonHoldExpired (h : Fin 4)
  /-- TABLE_REPAIR (R137): A record read with an uncorrectable error is rewritten from the golden copy, or as a bad pixel, within 1 ms. -/
  | tableRepair (h : Fin 4) (b : Fin 2) (idx : Nat)
  /-- RADIOMETRIC_REPAIR (R138): An uncorrectable error in a bank's radiometric part is rewritten from the on-chip copy, or invalidates the inactive bank. -/
  | radiometricRepair (h : Fin 4) (b : Fin 2)
  /-- ACT_CMD_START (R147): ACT_CH_CMD OP 1 starts a profile slot on the channel at once or at a tick, after the refusal checks. -/
  | actCmdStart (c : Fin 8) (slot : Fin 4) (atTick : Bool)
  /-- ACT_CMD_STOP (R158): ACT_CH_CMD OP 2 takes the running phase to slow decay at 0 and then coasts, or cancels a wait. -/
  | actCmdStop (c : Fin 8)
  /-- ACT_CMD_CLEAR (R154): ACT_CH_CMD OP 3 clears the channel's fault, or is refused while the condition persists. -/
  | actCmdClear (c : Fin 8)
  /-- ACT_START_AT_TICK (R147): A start with AT_TICK takes effect at its tick edge and is checked then. -/
  | actStartAtTick (c : Fin 8)
  /-- ACT_MINOFF_ELAPSED (R148): The minimum off time since the last profile ends, and a waiting start proceeds to the total-current check. -/
  | actMinoffElapsed (c : Fin 8)
  /-- ACT_QUEUE_RELEASE (R152): A queued start runs once the sum of running profile peaks allows it. -/
  | actQueueRelease
  /-- ACT_PHASE_END (R143): A profile phase reaches its duration and the next phase begins. `r`: the channel, the peak and valley samples, the charge since the last report. -/
  | actPhaseEnd (r : Fin 8 × (Int × Int) × Nat)
  /-- ACT_PROFILE_END (R146): After the last phase the channel coasts and the profile ends once the current is below 10 mA. `i`: the samples of a period and the instant it ends, `q`: the charge. -/
  | actProfileEnd (c : Fin 8) (i : (Int × Int) × Nat) (q : Nat)
  /-- ACTUATOR_FAULT (R153): A fault condition stops the channel within 1 µs, abandons the profile and records the cause. `m`: the channel's last PWM periods, VACT, the current summed over all channels in the last periods, and the instant of the newest. -/
  | actuatorFault (c : Fin 8) (m : List (Bool × Int × Int) × Nat × List Nat × Nat)
  /-- APOS_CHANGE (R155): The filtered position input changes and raises a position event. `x`: a level of APOSk and its samples in a row. -/
  | aposChange (c : Fin 8) (x : Bool × Nat)
  /-- SENSE_ZERO_CAL (R156): Each second an idle enabled channel measures its sense zero and accepts or refuses it. -/
  | senseZeroCal (c : Fin 8) (v : Int)
  /-- CHARGE_BIN_ADVANCE (R149): The charge budget window advances by one bin. -/
  | chargeBinAdvance (c : Fin 8) (q : Nat) (i : Int × Int)
  /-- ACT_PHASE_WRITE (R143): A write of a phase word is checked and stored, or refused. -/
  | actPhaseWrite (c : Fin 8) (slot : Fin 4) (p : Fin 8) (w : BitVec 32)
  /-- ENG_NOP (R165): The NOP instruction does nothing. -/
  | engNop (e : Fin 192)
  /-- ADD (R165): ADD writes A + B′ with wrap. -/
  | engAdd (e : Fin 192)
  /-- SUB (R165): SUB writes A − B′ with wrap. -/
  | engSub (e : Fin 192)
  /-- MUL (R165): MUL writes the low 32 bits of A × B′. -/
  | engMul (e : Fin 192)
  /-- AND (R165): AND writes the bitwise and. -/
  | engAnd (e : Fin 192)
  /-- OR (R165): OR writes the bitwise or. -/
  | engOr (e : Fin 192)
  /-- XOR (R165): XOR writes the bitwise exclusive or. -/
  | engXor (e : Fin 192)
  /-- SHL (R165): SHL shifts A left by B′[4:0]. -/
  | engShl (e : Fin 192)
  /-- SHR (R165): SHR shifts A logically right by B′[4:0]. -/
  | engShr (e : Fin 192)
  /-- SRA (R165): SRA shifts A arithmetically right by B′[4:0]. -/
  | engSra (e : Fin 192)
  /-- SLT (R165): SLT writes 1 if A is less than B′, signed or unsigned. -/
  | engSlt (e : Fin 192)
  /-- LI (R165): LI loads the immediate. -/
  | engLi (e : Fin 192)
  /-- RSHR (R165): RSHR divides by a power of two with round half even. -/
  | engRshr (e : Fin 192)
  /-- SAT (R165): SAT limits A to a signed or unsigned width. -/
  | engSat (e : Fin 192)
  /-- LD (R165): LD loads 1, 2 or 4 bytes from memory. -/
  | engLd (e : Fin 192)
  /-- ST (R165): ST stores 1, 2 or 4 bytes to memory. -/
  | engSt (e : Fin 192)
  /-- AMO (R165): AMO performs an atomic add, max or swap on a shared-memory word. -/
  | engAmo (e : Fin 192)
  /-- FENCE (R165): FENCE waits until earlier shared stores and AMOs are visible to the mire. -/
  | engFence (e : Fin 192)
  /-- BR (R165): BR branches on a condition of A and B. -/
  | engBr (e : Fin 192)
  /-- CALL (R165): CALL saves PC + 1 and jumps. -/
  | engCall (e : Fin 192)
  /-- JR (R165): JR jumps to the address in A. -/
  | engJr (e : Fin 192)
  /-- LOOP (R165): LOOP repeats the next X instructions a counted number of times. -/
  | engLoop (e : Fin 192)
  /-- CSR (R165): CSR reads a special register. -/
  | engCsr (e : Fin 192)
  /-- DONE (R165): DONE waits for every tag and ends the tile. -/
  | engDone (e : Fin 192)
  /-- TRAP (R165): TRAP raises engine fault cause 4 with a code. -/
  | engTrap (e : Fin 192)
  /-- BLKGET (R168): BLKGET starts a block transfer from a window into local memory. -/
  | engBlkget (e : Fin 192)
  /-- BLKPUT (R168): BLKPUT starts a block transfer from local memory to a window. -/
  | engBlkput (e : Fin 192)
  /-- WAIT (R165): WAIT waits for one tag or every tag. -/
  | engWait (e : Fin 192)
  /-- VLD (R165): VLD loads 16 aligned bytes into a vector register. -/
  | engVld (e : Fin 192)
  /-- VST (R165): VST stores a vector register to 16 aligned bytes. -/
  | engVst (e : Fin 192)
  /-- VADD (R165): VADD adds per lane with wrap or saturation. -/
  | engVadd (e : Fin 192)
  /-- VSUB (R165): VSUB subtracts per lane with wrap or saturation. -/
  | engVsub (e : Fin 192)
  /-- VMULR (R165): VMULR multiplies per lane with rounding and saturation. -/
  | engVmulr (e : Fin 192)
  /-- VMAC (R165): VMAC accumulates lane products into an accumulator. -/
  | engVmac (e : Fin 192)
  /-- VACC (R165): VACC reads an accumulator rounded and saturated, optionally clearing it. -/
  | engVacc (e : Fin 192)
  /-- VMINMAX (R165): VMINMAX takes the per-lane minimum or maximum. -/
  | engVminmax (e : Fin 192)
  /-- VLOGIC (R165): VLOGIC applies a per-lane logic operation. -/
  | engVlogic (e : Fin 192)
  /-- VCMP (R165): VCMP writes a per-lane compare mask. -/
  | engVcmp (e : Fin 192)
  /-- VSH (R165): VSH shifts each lane. -/
  | engVsh (e : Fin 192)
  /-- VSPLAT (R165): VSPLAT copies a scalar into every lane. -/
  | engVsplat (e : Fin 192)
  /-- VRED (R165): VRED reduces the lanes to a sum, minimum or maximum. -/
  | engVred (e : Fin 192)
  /-- VPERM (R165): VPERM permutes lanes. -/
  | engVperm (e : Fin 192)
  /-- VLUT (R165): VLUT looks up each lane in a local table. -/
  | engVlut (e : Fin 192)
  /-- VHIST (R165): VHIST increments a local histogram word for each lane. -/
  | engVhist (e : Fin 192)
  /-- VEXT (R165): VEXT extracts one lane to a scalar. -/
  | engVext (e : Fin 192)
  /-- ILLEGAL_INSTRUCTION (R164): An instruction with an unassigned opcode or bad field raises engine fault cause 1. -/
  | illegalInstruction (e : Fin 192)
  /-- TILE_START (R170): The scheduler writes the tile descriptor and the engine starts the tile at the task's entry. -/
  | tileStart (e : Fin 192)
  /-- BLOCK_TRANSFER_DONE (R168): A block transfer completes and frees its tag. -/
  | blockTransferDone (e : Fin 192) (tag : Nat)
  /-- ENGINE_FAULT (R179): An engine fault stops the engine within 2 µs and is handled as a program or hardware fault. -/
  | engineFault (e : Fin 192) (cause : Fin 16)
  /-- TASK_DROPPED (R180): A task with program faults in 16 consecutive ticks is dropped from the schedule. -/
  | taskDropped (i : Fin 64)
  /-- ENGINE_RESTART (R181): Within 1 ms the fault manager restarts the faulted tile on a spare engine with RETRY 1. -/
  | engineRestart (e : Fin 192)
  /-- GOVERNOR_BUNDLE (R178): Every bundle the governor recomputes A and parks or resumes engines. -/
  | governorBundle
  /-- TASK_DECLARE (R173): A write of ENG_TASK_CNT declares the task table, bound to a tick. -/
  | taskDeclare (n : Fin 128)
  /-- TASK_DECLARE_COMMIT (R173): At its commit point the declared table is read and checked, and it takes effect or is refused. -/
  | taskDeclareCommit
  /-- ENG_CMD_RELOAD (R184): ENG_MIRE_CMD OP 1 requests a reload of the mire's image, starting its staging. -/
  | engCmdReload (m : Fin 8)
  /-- ENG_CMD_REQUALIFY (R183): ENG_MIRE_CMD OP 2 starts the built-in test of a retired engine. -/
  | engCmdRequalify (m : Fin 8) (j : Fin 32)
  /-- IMAGE_STAGED (R184): The image is staged and its header and CRC are checked. -/
  | imageStaged (m : Fin 8)
  /-- RELOAD_COMMIT (R184): At the commit point a staged image is copied into the program memories, or the reload is deferred or refused. -/
  | reloadCommit (m : Fin 8)
  /-- ENGINE_REQUALIFY_DONE (R183): The engine test ends and returns the engine as a spare or leaves it retired. -/
  | engineRequalifyDone (e : Fin 192) (pass : Bool)
  /-- ENG_BCAST_GO (R186): A write of ENG_BCAST_GO requests a broadcast to the masked mires, bound to a tick. -/
  | engBcastGo (mask : BitVec 8)
  /-- BROADCAST_COMMIT (R186): At its commit point the broadcast is checked and runs through the tree before the edge. -/
  | broadcastCommit
  /-- MEMORY_PATH_FRAME (R192): At the tick after its tasks ran, the memory path starts compositing a frame. -/
  | memoryPathFrame (h : Fin 4)
  /-- COMPOSITE_DONE (R192): The composited display frame is complete and offered for delivery and transmission. -/
  | compositeDone (h : Fin 4)
  /-- INLINE_LINE (R195): A line of the in-line head arrives from its pipeline and is composited for the transmitter. -/
  | inlineLine
  /-- VID_INLINE_WRITE (R196): A write of VID_CTL.INLINE requests a change of in-line head, bound to a tick. -/
  | vidInlineWrite (h : Fin 4) (en : Bool)
  /-- INLINE_CHANGE_APPLY (R196): At the first edge where the new head starts a frame and the old has none in progress, the in-line head changes. -/
  | inlineChangeApply
  /-- INLINE_FALLBACK (R197): After a loss, the lowest running head becomes in-line at the next commit point. -/
  | inlineFallback
  /-- VID_HEAD_CTL_WRITE (R193): A write of VID_HEAD_CTL is checked for video load, input format and transmitter load. -/
  | vidHeadCtlWrite (h : Fin 4) (w : BitVec 32)
  /-- PALETTE_WRITE (R201): A palette write is refused if a running enabled head selects that palette. -/
  | paletteWrite (p : Fin 8) (i : Fin 256) (v : BitVec 32)
  /-- RX_PACKET (R202): A CSI-2 packet is received, its header ECC corrected and payload CRC checked. -/
  | rxPacket (dt : Nat) (vc : Nat) (ecc : Nat) (crcOk : Bool) (data : List Nat)
  /-- RX_FRAME_END (R203): A visible frame ends and is accepted or discarded whole. -/
  | rxFrameEnd
  /-- VISIBLE_TIMEOUT (R203): No visible frame for TIMEOUT ticks sets VIS_STALE and drops L1. -/
  | visibleTimeout
  /-- L3_COMMIT (R209): A write of VID_L3_HI commits the host graphics buffer for the next tick. -/
  | l3Commit (h : Fin 4) (hi : BitVec 32)
  /-- L3_COPY_DONE (R209): The copy of the host buffer into the staging slot completes. -/
  | l3CopyDone (h : Fin 4)
  /-- TX_FRAME (R212): The transmitter sends a head's frame with its short packets, metadata line and lines. -/
  | txFrame (h : Fin 4)
  /-- DRAM_BURST (R217): A requester burst of 16 to 256 bytes is granted and carried to its channel. -/
  | dramBurst (ch : Fin 2) (arr : List (Fin 8 × Bool × Nat × Nat × List (Byte))) (cut : Option Nat) (t : Nat)
  /-- REFRESH (R222): The controller refreshes a bank at the refresh interval, taking the grant at the end of a unit. -/
  | refresh
  /-- DEBUG_ACCESS (R223): A debug port access takes the grant at the end of the current unit. -/
  | debugAccess (wr : Bool) (a : Nat) (n : Nat) (data : List (Byte))
  /-- STARVATION (R230): A requester's waiting timer exceeds its limit; the bit is set and a starvation event raised. -/
  | starvation (i : Fin 16) (t : Nat)
  /-- REBALANCE (R407): Firmware moves tickets to the starved requester and clears its bit. -/
  | rebalance (i : Fin 16)
  /-- TICKET_WRITE (R228): A write of MEM_ARB_TICKETSi applies from the next decision. -/
  | ticketWrite (i : Fin 16) (v : BitVec 8)
  /-- INHERIT_WRITE (R234): A change of MEM_CTL.INHERIT switches ticket inheritance and repeats the admission test. -/
  | inheritWrite (b : Bool)
  /-- ETKT_WRITE (R232): A change of MEM_ARB_ETKT repeats the admission test. -/
  | etktWrite (v : BitVec 4)
  /-- REQUESTER_RESET (R235): MEM_REQ_RST resets a requester, ending its burst harmlessly and dropping waiting bursts. -/
  | requesterReset (mask : BitVec 16)
  /-- SCRUB_BLOCK (R236): The scrubber reads a 256-byte block when it falls due. -/
  | scrubBlock (table : Bool)
  /-- MEM_RGN_KIND_WRITE (R239): A write of MEM_RGNk_KIND commits the region entry, or refuses it. -/
  | memRgnKindWrite (k : Fin 32) (v : BitVec 32)
  /-- DMA_DOORBELL (R254): A doorbell arms an idle channel, re-reads the end of an at-end channel, or sets DBPEND. -/
  | dmaDoorbell (c : Fin 16) (fw : Bool)
  /-- DMA_HEAD_WRITE (R255): A write of DMA_CHc_HEAD is accepted while idle or at end, returning the channel to idle. -/
  | dmaHeadWrite (c : Fin 16) (hi : BitVec 32) (fw : Bool)
  /-- DMA_CMD_ABORT (R256): DMA_CHc_CMD OP 1 aborts the channel after its current chunk. -/
  | dmaCmdAbort (c : Fin 16) (fw : Bool)
  /-- DMA_HALT_CLR (R257): A write of DMA_HALT_CLR returns every channel to idle. -/
  | dmaHaltClr
  /-- CHANNEL_SELECT (R252): The free engine takes the armed channel of lowest PRIO, round robin within a level. -/
  | channelSelect
  /-- DESCRIPTOR_CHECK (R250): The engine reads a descriptor and checks it before any data access. -/
  | descriptorCheck
  /-- DMA_CHUNK (R246): The engine issues all reads of a chunk and then all its writes. -/
  | dmaChunk
  /-- DESCRIPTOR_COMPLETE (R253): A descriptor completes, is written back, and notifies. -/
  | descriptorComplete
  /-- BUS_ERROR (R257): An error response to a Sluice access halts every channel. -/
  | busError (cause : Fin 4) (a : Nat)
  /-- SQ_TAIL_DOORBELL (R268): A submission ring tail doorbell is checked and updates the tail. -/
  | sqTailDoorbell (q : Fin 8) (w : BitVec 32) (word : Bool)
  /-- CQ_HEAD_DOORBELL (R268): A completion ring head doorbell releases consumed entries. -/
  | cqHeadDoorbell (c : Fin 8) (w : BitVec 32) (word : Bool)
  /-- BQ_TAIL_DOORBELL (R268): A buffer ring tail doorbell posts buffers. -/
  | bqTailDoorbell (b : Fin 8) (w : BitVec 32) (word : Bool)
  /-- DQ_HEAD_DOORBELL (R268): A delivery ring head doorbell releases consumed headers. -/
  | dqHeadDoorbell (d : Fin 8) (w : BitVec 32) (word : Bool)
  /-- RING_ENABLE (R270): Enabling a ring sets its head and tail to 0 and its expected phase to 1. -/
  | ringEnable (k : Fin 32)
  /-- COMMAND_FETCH (R272): The device fetches the next submission entry of a ring and starts the command unless FENCE holds it. -/
  | commandFetch (q : Fin 8)
  /-- UNKNOWN_OPCODE (R285): A command with an unlisted opcode completes with STATUS 0x05. -/
  | unknownOpcode (src : Fin 10)
  /-- COMPLETION_WRITE (R273): A completion entry is written in order once the ring has room. -/
  | completionWrite (c : Fin 8) (src : Fin 11)
  /-- MSIX_COALESCE_TIMEOUT (R269): COAL_US after the oldest unread entry, the ring fires its vector. -/
  | msixCoalesceTimeout (k : Fin 16)
  /-- CQ_STALL (R276): A wait of more than 1 ms on a full completion ring is counted. -/
  | cqStall (c : Fin 8)
  /-- EVENT_WRITE (R280): A queued event is written to completion ring 0. -/
  | eventWrite
  /-- FRAME_DELIVERY (R284): Firmware copies an offered frame into the next buffer and writes its header. -/
  | frameDelivery (i : Nat) (torn : Bool)
  /-- NODATA_HEADER (R284): No buffer arrives before the slot is rewritten, so a NODATA header is written. -/
  | nodataHeader (i : Nat)
  /-- STREAM_BIND_COMMIT (R282): A stream bind takes effect at its tick. -/
  | streamBindCommit (h : Fin 4)
  /-- PCIE_RESET (R288): A hot reset, function-level reset or link-down disables every ring and unbinds every stream. -/
  | pcieReset
  /-- LINK_RESTORED (R288): The link comes up and a link-restored event is queued. -/
  | linkRestored (width : BitVec 4) (rate : BitVec 4)
  /-- BAR4_ACCESS (R267): A BAR4 access reaches device DRAM through the current window. `x`: what the host reaches (0 BAR4,
  1 BAR2, 2 configuration space, 3 BAR0) and where in it. -/
  | bar4Access (wr : Bool) (x : Fin 4 × BitVec 28) (n : Nat) (data : List (Byte))
  /-- HOST_MBX_GO (R289): A write of HOST_MBX_GO submits the mailbox entry, or is refused while BUSY. -/
  | hostMbxGo
  /-- HOST_MBX_CPL3_READ (R289): A read of HOST_MBX_CPL3 clears CPL. -/
  | hostMbxCpl3Read
  /-- HOST_MBX_EVT3_READ (R289): A read of HOST_MBX_EVT3 takes the next event from the queue. -/
  | hostMbxEvt3Read
  /-- NOP (R285): The NOP command completes at once. -/
  | cmdNop (src : Fin 10)
  /-- IDENTIFY (R285): IDENTIFY writes the identity record and returns the firmware version and image. -/
  | identify (src : Fin 10)
  /-- REG_READ (R285): REG_READ returns a register value. -/
  | regRead (src : Fin 10)
  /-- REG_WRITE (R285): REG_WRITE writes masked register bits and returns the value read back. -/
  | regWrite (src : Fin 10)
  /-- TICK_SET (R285): TICK_SET sets the tick source, period, guard and enable. -/
  | tickSet (src : Fin 10)
  /-- HEAD_CONFIG (R285): HEAD_CONFIG writes the head geometry, cadence, gain, reference and biases. -/
  | headConfig (src : Fin 10)
  /-- HEAD_ATTACH (R61): HEAD_ATTACH attaches a present head and completes once it is idle with an accepted reference. -/
  | headAttach (src : Fin 10)
  /-- HEAD_START (R62): HEAD_START requests a head start, bound to a tick. -/
  | headStart (src : Fin 10)
  /-- HEAD_DETACH (R63): HEAD_DETACH requests a planned detach. -/
  | headDetach (src : Fin 10)
  /-- HEAD_LINK (R305): HEAD_LINK runs a head-link queue. -/
  | headLink (src : Fin 10)
  /-- AFE_TRAIN (R92): AFE_TRAIN runs tap timing training on the head. -/
  | afeTrain (src : Fin 10)
  /-- AFE_SWAP (R92): AFE_SWAP replaces a slice by a spare. -/
  | afeSwap (src : Fin 10)
  /-- AFE_REQUALIFY (R92): AFE_REQUALIFY requalifies a retired slice. -/
  | afeRequalify (src : Fin 10)
  /-- TABLE_OPEN (R119): TABLE_OPEN opens a load on the inactive bank. -/
  | tableOpen (src : Fin 10)
  /-- TABLE_CLOSE (R119): TABLE_CLOSE writes GEN and Tcal and closes the load. -/
  | tableClose (src : Fin 10)
  /-- TABLE_ACTIVATE (R121): TABLE_ACTIVATE requests activation of a bank, bound to a tick. -/
  | tableActivate (src : Fin 10)
  /-- SHUTTER (R124): SHUTTER requests a shutter event and completes at L, refusal or abandonment. -/
  | shutter (src : Fin 10)
  /-- SHUTTER_ABORT (R135): SHUTTER_ABORT aborts a running shutter event. -/
  | shutterAbort (src : Fin 10)
  /-- OUTPUT_SET (R285): OUTPUT_SET writes CORR_FMT and CORR_CTL. -/
  | outputSet (src : Fin 10)
  /-- EMISSIVITY (R112): EMISSIVITY computes and writes LOFF and INV_EPS from ε and T_refl. -/
  | emissivity (src : Fin 10)
  /-- ACT_SETUP (R285): ACT_SETUP writes the basic close and open profiles and enables the channel. -/
  | actSetup (src : Fin 10)
  /-- ACT_START (R147): ACT_START starts a profile slot and completes at its end. -/
  | actStart (src : Fin 10)
  /-- ACT_STOP (R157): ACT_STOP stops the channel. -/
  | actStop (src : Fin 10)
  /-- ACT_CLEAR (R154): ACT_CLEAR clears a channel fault. -/
  | actClear (src : Fin 10)
  /-- ENG_RELOAD (R184): ENG_RELOAD reloads a mire's image. -/
  | engReload (src : Fin 10)
  /-- ENG_DECLARE (R173): ENG_DECLARE declares a task table. -/
  | engDeclare (src : Fin 10)
  /-- ENG_REQUALIFY (R183): ENG_REQUALIFY tests a retired engine. -/
  | engRequalify (src : Fin 10)
  /-- ENG_BROADCAST (R186): ENG_BROADCAST copies a block into the shared memories of the masked mires. -/
  | engBroadcast (src : Fin 10)
  /-- TASK_WISOA (R189): TASK_WISOA declares the chosen Wisoa tasks for a head. -/
  | taskWisoa (src : Fin 10)
  /-- VID_INLINE (R196): VID_INLINE names the in-line head. -/
  | vidInline (src : Fin 10)
  /-- VID_TONE (R199): VID_TONE sets the tone map and palette of a head. -/
  | vidTone (src : Fin 10)
  /-- VID_LAYERS (R206): VID_LAYERS sets the layer enables and drop bits. -/
  | vidLayers (src : Fin 10)
  /-- VID_L3 (R209): VID_L3 commits a host graphics buffer. -/
  | vidL3 (src : Fin 10)
  /-- VID_OUT (R213): VID_OUT sets the head's display and transmitter output. -/
  | vidOut (src : Fin 10)
  /-- VID_RX (R202): VID_RX configures the visible camera receiver. -/
  | vidRx (src : Fin 10)
  /-- MEM_TICKETS (R232): MEM_TICKETS writes all requester tickets and returns the deficit mask. -/
  | memTickets (src : Fin 10)
  /-- DMA_COPY (R285): DMA_COPY runs a descriptor chain on a host channel and completes at its end mark. -/
  | dmaCopy (src : Fin 10)
  /-- DMA_ABORT (R256): DMA_ABORT aborts a Sluice channel. -/
  | dmaAbort (src : Fin 10)
  /-- STREAM_BIND (R282): STREAM_BIND binds a stream to a delivery ring and a buffer ring. -/
  | streamBind (src : Fin 10)
  /-- STREAM_UNBIND (R285): STREAM_UNBIND removes a stream binding after its last header. -/
  | streamUnbind (src : Fin 10)
  /-- THERM_CAP (R326): THERM_CAP sets the host's engine power cap ceiling. -/
  | thermCap (src : Fin 10)
  /-- PEAT_READ (R344): PEAT_READ moves data from a peat store partition to memory. -/
  | peatRead (src : Fin 10)
  /-- PEAT_WRITE (R339): PEAT_WRITE writes data into a partition and then stores. -/
  | peatWrite (src : Fin 10)
  /-- FW_STAGE (R362): FW_STAGE copies and checks an image into the slot not running. -/
  | fwStage (src : Fin 10) (fail : Bool)
  /-- FW_SWITCH (R363): FW_SWITCH hands over to the staged image. -/
  | fwSwitch (src : Fin 10)
  /-- FREEZE (R370): FREEZE sets the freeze latch. -/
  | freeze (src : Fin 10)
  /-- THAW (R370): THAW clears the freeze latch and completes after the thaw. -/
  | thaw (src : Fin 10)
  /-- MGMT_READ (R296): A management read frame returns the words of the page from INDEX upward: `f` holds how many complete words
  it clocks, which of them were not ready in time, whether it ends by a timeout, and, if a freeze falls in it, how many went before that,
  plus 1. -/
  | mgmtRead (idx : Fin 64) (f : Nat × List Nat × Bool × Nat)
  /-- MGMT_WRITE (R299): A management write frame applies its words after MSEL_N rises, or is rejected. `data`: its bytes, and
  whether a freeze falls in it. -/
  | mgmtWrite (idx : Fin 64) (data : List (Byte) × Bool)
  /-- MGMT_PAGE_SET (R298): A page-set frame sets SPI_MGMT_PAGE, or is rejected; `data` as in MGMT_WRITE. -/
  | mgmtPageSet (idx : Fin 64) (data : List (Byte) × Bool)
  /-- MGMT_AO_READ (R294): An OP 3 frame with INDEX 0 to 31 reads always-on words; `f` as in MGMT_READ. -/
  | mgmtAoRead (w : Fin 32) (f : Nat × List Nat × Bool × Nat)
  /-- MGMT_AO_WRITE (R378): An OP 3 frame with INDEX 32 to 63 writes an always-on word. -/
  | mgmtAoWrite (w : Fin 32) (data : List (Byte))
  /-- MGMT_TIMEOUT (R301): MSEL_N low for 1 ms without an MSCK edge aborts the frame. -/
  | mgmtTimeout
  /-- MGMT_SELLOW_CLEAR (R301): MSEL_N high for 40 ns after a timeout clears SELLOW. -/
  | mgmtSellowClear
  /-- SPI_HL_QGO (R305): A write of SPI_HLn_QGO starts the head-link queue, at once or at a tick. -/
  | spiHlQgo (n : Fin 4) (w : BitVec 2)
  /-- HL_ENTRY (R305): A head-link queue entry runs its words after any SYNC wait: the words received, and, where a stop falls in it,
  how many words are complete and whether the next one is cut. -/
  | hlEntry (n : Fin 4) (rx : List (BitVec 32) × Option (Nat × Bool))
  /-- HL_QUEUE_DONE (R305): After the last entry's DELAY the queue completes. -/
  | hlQueueDone (n : Fin 4)
  /-- FLASH_GO (R310): A write of SPI_FL_GO starts a direct flash frame, with an optional poll after: the bytes read, the instant of
  the write, and, where a freeze cuts the frame, how many bytes it has read. -/
  | flashGo (w : BitVec 2) (rx : List (Byte) × Nat × Option Nat)
  /-- FLASH_POLL (R311): A poll frame reads the status byte and repeats while busy. -/
  | flashPoll (status : BitVec 8)
  /-- FLASH_POLL_TIMEOUT (R311): A poll that lasts TO ms ends with CAUSE 4 and a flash-poll-timeout event. -/
  | flashPollTimeout
  /-- XIP_READ (R312): An XIP read is served from the prefetch buffer or by an XIP frame. -/
  | xipRead (ctrl : Bool) (a : Nat) (n : Nat)
  /-- THERM_SAMPLE (R320): A sensor is sampled, checked for failure and against the limits. -/
  | thermSample (k : Fin 16) (v : Int) (t : Nat)
  /-- SENSOR_RECOVERED (R321): A failed sensor that reads plausibly for 1 s is no longer failed. -/
  | sensorRecovered (k : Fin 16)
  /-- THROTTLE_STEP (R324): Every STEP_MS while throttling, THERM_CAP falls by 500 mW. -/
  | throttleStep
  /-- CAP_RECOVER_STEP (R325): Every RECOV_MS after cooling, THERM_CAP rises by 500 mW toward the host ceiling. -/
  | capRecoverStep
  /-- RISE_EPISODE_END (R323): Masked sensors below the rise limit for 1 s end the rise episode. -/
  | riseEpisodeEnd
  /-- THERM_CAP_HOST_WRITE (R326): A write of THERM_CAP_HOST sets the ceiling and lowers the cap at once if below it. -/
  | thermCapHostWrite (v : BitVec 14)
  /-- HW_SHUTDOWN (R328): A sensor at 150 °C stops the hot blocks in hardware. -/
  | hwShutdown
  /-- SHUTDOWN_RESTART (R330): All sensors below 120 °C for 1 s restart the device and the running heads. -/
  | shutdownRestart
  /-- COMP_UPDATE (R332): A compensation table trim moves one LSB toward its interpolated value. -/
  | compUpdate (osc : Bool)
  /-- THERM_CMP_GO (R333): A write of THERM_CMP_GO checks and applies the named written tables. -/
  | thermCmpGo (w : BitVec 6)
  /-- OSC_LEARN (R334): Each second the oscillator error is measured and the nearest table entry updated. -/
  | oscLearn (e : Int)
  /-- PEAT_CMD_STORE (R339): PEAT_CMD OP 1 requests a store. -/
  | peatCmdStore
  /-- PEAT_CMD_SET_PASSWORD (R345): PEAT_CMD OP 2 sets a partition password from PEAT_PWNEW. -/
  | peatCmdSetPassword (p : Fin 4) (write : Bool)
  /-- PEAT_CMD_CLEAR_LOG (R348): PEAT_CMD OP 3 clears the log. -/
  | peatCmdClearLog
  /-- PEAT_CMD_UNLOCK (R345): PEAT_CMD OP 4 checks PEAT_KEY and opens the partition to PEAT_DATA. -/
  | peatCmdUnlock (p : Fin 4) (write : Bool)
  /-- PEAT_CMD_LOCK (R345): PEAT_CMD OP 5 closes the partition to PEAT_DATA. -/
  | peatCmdLock (p : Fin 4) (write : Bool)
  /-- STORE_COMPLETE (R340): The copy and its completion mark are written and a store-complete event is queued. -/
  | storeComplete (t : Nat)
  /-- AUTOSTORE_TIMER (R339): PEAT_AUTO minutes after the last store, an autostore is requested. -/
  | autostoreTimer
  /-- PFAIL_N_FALL (R343): A PFAIL_N fall low for 1 µs starts one store and locks the trigger. -/
  | pfailNFall (t : Nat)
  /-- PFAIL_UNLOCK (R343): PFAIL_N high for 10 ms unlocks the trigger. `x`: an instant, and whether `PFAIL_N` has been high for
  10 ms by then or rises at it. -/
  | pfailUnlock (x : Nat × Bool)
  /-- PFAIL_HELD (R343): PFAIL_N low for 100 ms raises a pfail-held event. -/
  | pfailHeld
  /-- PEAT_DATA_ACCESS (R352): An access to PEAT_DATA reads or writes the word at PEAT_ADDR and adds 4. -/
  | peatDataAccess (wr : Bool) (v : BitVec 32)
  /-- PEAT_LOCKOUT_END (R344): A partition lockout ends after 60 s of powered time. -/
  | peatLockoutEnd (p : Fin 4)
  /-- LIFE_SECOND (R347): POWERED_NS passing a multiple of 10^9 ns raises LIFE_S. -/
  | lifeSecond
  /-- VIO33_RISE (R354): VIO33 above 2.9 V releases the always-on domain, which starts a power-up attempt. -/
  | vio33Rise
  /-- VIO33_POR (R354): VIO33 below 2.7 V resets the always-on domain. -/
  | vio33Por
  /-- PGOOD_RISE (R354): PGOODg rises and the domain waits SETTLE before the next group. -/
  | pgoodRise (g : Fin 4) (t : Nat)
  /-- PEN_SETTLE_ELAPSED (R354): SETTLE expires and the next regulator group is enabled. -/
  | penSettleElapsed
  /-- PGOOD_TIMEOUT (R354): PGOODg does not rise within PG_TO and the attempt fails. -/
  | pgoodTimeout
  /-- BACKOFF_ELAPSED (R355): The back-off time ends and a new attempt starts. -/
  | backoffElapsed
  /-- CRYSTAL_WINDOW (R354): A 1 ms crystal count window ends, confirming the crystal after two good windows. -/
  | crystalWindow (n : Nat)
  /-- XTAL_TIMEOUT (R354): The crystal is not confirmed within XTAL_TO and the attempt fails. -/
  | xtalTimeout
  /-- BOOT (R361): After the recall the system controller boots, choosing and checking an image. -/
  | boot (errD : Bool) (errA : Bool) (errB : Bool) (sfdp : List (Byte))
  /-- RESET_N_LOW (R359): An accepted RESET_N low drops the rails, HPEN and biases. -/
  | resetNLow (t : Nat)
  /-- RESET_N_RELEASE (R358): Release of RESET_N starts a new attempt 1. -/
  | resetNRelease (t : Nat)
  /-- AO_CMD_RESTART (R358): AO_CMD 1 restarts the device as a new attempt 1. -/
  | aoCmdRestart
  /-- AO_CMD_FREEZE (R370): AO_CMD 2 sets the freeze latch. -/
  | aoCmdFreeze
  /-- AO_CMD_THAW (R370): AO_CMD 3 clears the freeze latch. -/
  | aoCmdThaw
  /-- PGOOD_LOST (R357): A PGOOD fall lasting 100 µs sets SYS_PGOOD.LOST and raises a pgood-lost event. -/
  | pgoodLost (mask : BitVec 4)
  /-- FW_SWITCH_READY (R363): The new image reports ready, clears TRIAL and resumes command processing. -/
  | fwSwitchReady
  /-- FW_SWITCH_TIMEOUT (R363): Without ready in 800 µs the control pair returns to the old image. -/
  | fwSwitchTimeout
  /-- LOCKSTEP_MISMATCH (R366): A compare mismatch stops both control cores and restarts them from the checkpoint. -/
  | lockstepMismatch (t : Nat)
  /-- LOCKSTEP_RESTART_DONE (R366): The restarted control pair resumes and a lockstep-restart event is raised. -/
  | lockstepRestartDone (t : Nat)
  /-- CRYSTAL_LOSS (R368): No crystal edge for 200 ns switches the PLLs to holdover. -/
  | crystalLoss
  /-- CRYSTAL_RETURN (R368): A good crystal for 100 ms is taken back at the next tick edge. -/
  | crystalReturn
  /-- FAULT_PIN_SAMPLE (R369): The FAULT_N read-back filter detects an external assertion or a stuck pin. -/
  | faultPinSample (high : Bool)
  /-- FREEZE_N_LOW (R370): FREEZE_N low for 100 ns freezes the device. -/
  | freezeNLow
  /-- FREEZE_N_HIGH (R370): FREEZE_N rising with the latch clear thaws the device. -/
  | freezeNHigh
  /-- THAW_HEAD_RESUME (R376): At the first suitable tick after thaw each running head starts its next frame with CONT_BREAK. -/
  | thawHeadResume (h : Fin 4)
  /-- SYS_FREEZE_REQ (R370): A write of SYS_FREEZE.REQ sets the freeze latch. -/
  | sysFreezeReq
  /-- SYS_FREEZE_THAW (R370): A write of SYS_FREEZE.THAW clears the freeze latch. -/
  | sysFreezeThaw
  /-- EXTEST (R375): The EXTEST instruction takes the balls for boundary scan. -/
  | extest
  /-- SAMPLE_PRELOAD (R375): The SAMPLE/PRELOAD instruction samples the boundary-scan chain. -/
  | samplePreload (bits : Nat)
  /-- IDCODE (R375): The IDCODE instruction returns 0x1514_494B. -/
  | idcode
  /-- SNAPSHOT (R374): The SNAPSHOT instruction streams the snapshot on TDO. -/
  | snapshot (n : Nat)
  /-- DEBUG_READ_WORD (R375): The DEBUG register's read operation reads a device word at Update-DR. `a`:
  the address, and for the operations 0 and 3 the data word shifted in and whether it is 3. -/
  | debugReadWord (a : BitVec 64 × Option (BitVec 32 × Bool))
  /-- DEBUG_WRITE_WORD (R375): The DEBUG register's write operation writes a device word at Update-DR. -/
  | debugWriteWord (a : BitVec 64) (v : BitVec 32)
  /-- BYPASS (R375): The BYPASS instruction selects the bypass register. -/
  | bypass
  /-- AO_SNAP_DATA_READ (R378): After word 31 of AO_SNAP_DATA is sent, AO_SNAP_ADDR rises by 64. -/
  | aoSnapDataRead
  /-- AO_POWERED_NS_LO_READ (R378): A read of AO_POWERED_NS_LO latches AO_POWERED_NS_HI. -/
  | aoPoweredNsLoRead
  /-- TEST_LOGIC_RESET (R375): TRST_N low puts the JTAG TAP into Test-Logic-Reset, which selects IDCODE and ends the instruction in force. -/
  | testLogicReset
  /-- VHOLD_MEASUREMENT (R352): Every 1 s the housekeeping ADC measures VHOLD and updates PEAT_VHOLD. -/
  | vholdMeasurement (mv : Nat)
  /-- VACT_MEASUREMENT (R159): Every 1 ms the device measures VACT and updates ACT_VACT. -/
  | vactMeasurement (mv : Nat)
  deriving DecidableEq, Repr

end Sys2Proof
end

