-- ==== Sys2Proof/Decode.lean ====
section
/-!
DEFINITION. The opcode table gives no row any bits: commands arrive as accesses and events, not as words. So no word spells
a command.
-/
namespace Sys2Proof

/-- The command that a word of the opcode table spells: none, as no row of the table has bits. -/
def decodeTableWord (_nbits _w : Nat) : Option Instr := none

end Sys2Proof
end

