-- ==== Sys2Proof/Config.lean ====
section
/-!
DEFINITION. The free values: what the specification leaves open although the machine goes on. Each is opaque, so no
statement can rest on a value of it. Most take the model's counter `freeCtr`, which every use advances.
-/
namespace Sys2Proof.Config

/-- Whether a quotient whose rounding the manual does not give is rounded up (R77). -/
opaque freeUp : Int → Int → Bool
/-- The code a slice delivers with a status 2 or 3 conversion (R71): no code is stated. -/
opaque freeCode : Nat → BitVec 16
/-- Which of several equal candidates is taken where no rule names one (R87, R88, R181). -/
opaque runChoice : Nat → Nat
/-- Cycles an engine instruction waits beyond its issue cost (R166): contention and latencies are not fixed. -/
opaque stall : Nat → Nat
/-- How many of an engine's shared-memory stores become visible before its next instruction (R167). -/
opaque drain : Nat → Nat
/-- The old or the new value of a 16-byte block under transfer (R168). -/
opaque newBlock : Nat → Bool
/-- A lane whose index the lane form does not have, or an accumulator lane read in the other form (R165). -/
opaque freeLane : Nat → Nat
/-- Descriptor words of a task that Wisoa firmware declares from its own measurements: PROG_ID, word (R189). -/
opaque wisoaWord : Nat → Nat → Nat
/-- A value that a rule names without giving (each use says which). -/
opaque freeVal : Nat → Nat

end Sys2Proof.Config
end

