-- ==== Sys2Proof/Machine/State.lean ====
section
/-!
DEFINITION. The machine's state: everything the RL5144 specification names, as plain data. Registers are held in one
register file keyed by BAR0 offset (R381); what a rule needs beside the registers stands in one structure per block.
Instants are counted in 1/256 ns since VIO33 power-up (`now`), the resolution of `TICK_PERIOD_FRAC` (R21).
-/
namespace Sys2Proof.Machine

/-- A field of a BAR0 register: offset, lowest bit, length in bits. -/
structure Fld where
  off : Nat
  lo : Nat
  len : Nat
  deriving DecidableEq, Repr

/-- The access codes of R2; `err` is an error register, cleared by writing 1 to bit 31 (R384). -/
inductive Acc where
  | rw | ro | w1c | w1s | wo | rwl | err
  deriving DecidableEq, Repr

/-- One row of a block's register table: `count` registers from `off` at `stride`, bits [lo + len - 1 : lo], the access
code, the reset value and the range `min` to `max` that R4 checks. -/
structure RegRow where
  off : Nat
  stride : Nat
  count : Nat
  lo : Nat
  len : Nat
  acc : Acc
  reset : Nat
  min : Nat
  max : Nat
  deriving DecidableEq, Repr

/-- The tick generator (R21 to R38) beside its registers. Settings in force are latched at a tick edge (R32, R42). -/
structure TickS where
  ctl : Nat := 0x10          -- TICK_CTL in force
  period : Nat := 0x00FE502A * 256 + 0xAB  -- programmed period in force, 1/256 ns
  guard : Nat := 0x12C       -- guard in force, us
  tol : Nat := 0x64
  width : Nat := 0x64
  first : Bool := true       -- no edge yet since power-up or RESET_N (R38)
  armed : Bool := false      -- source 1, waiting for the first pulse (R23)
  edge : Nat := 0            -- instant of the last edge
  ideal : Nat := 0           -- ideal instant of the last edge (R403)
  committed : Bool := false  -- the next edge's commit point has passed
  missRun : Nat := 0         -- consecutive missed ticks (R23)
  lostSent : Bool := false   -- tick-source-lost raised in this run of misses
  fsyncOut : Bool := false   -- FSYNC_OUT pulse active (R25)
  fsyncPin : Bool := false   -- level on FSYNC_OUT
  captT : Option Nat := none -- last captured TSYNC_IN instant (R36)
  deriving DecidableEq, Repr, Inhabited

/-- One bias output (R47): it ramps from code `src` at `t0` to code `tgt`. -/
structure Bias where
  src : Nat := 0
  tgt : Nat := 0
  t0 : Nat := 0
  deriving DecidableEq, Repr, Inhabited

/-- A head frame from its start (R26) until its data has left the device. -/
structure Frame where
  no : Nat := 0
  tick : Nat := 0
  edge : Nat := 0        -- instant of the tick edge that started it
  slot : Nat := 0        -- R111
  prev : Nat := 0        -- slot of the head's previous frame (R99, R127)
  bank : Nat := 0        -- table bank in use (R98)
  gen : Nat := 0
  tcal : Nat := 0
  tfpa : Nat := 0        -- R58
  refStale : Bool := false
  loff : Nat := 0        -- committed pair of R113
  inv : Nat := 0x10000
  emap : Bool := false
  noisyBad : Bool := false
  suspectBad : Bool := false
  satRepl : Bool := false
  wrap : Bool := false
  fly : Bool := false
  holdover : Bool := false
  contBreak : Bool := false
  src : Nat := 0         -- tick source of the starting tick
  held : Bool := false   -- R127
  heldNo : Nat := 0      -- frame F0 - 1
  repaired : Bool := false
  truncated : Bool := false
  sliceChg : Bool := false
  sliceRows : List Nat := []  -- rows first sampled by a spare (R84, R100)
  genNew : Bool := false
  avg : Nat := 0         -- 1 for the first averaged frame, 2, ... ; 0 not averaged
  build : Bool := false  -- the build frame (R125)
  cut : Nat := 0         -- trailing rows cut (R28)
  rows : Nat := 0        -- read rows complete
  line : Nat := 0        -- line status bits of the row in progress (R100)
  nLate : Nat := 0
  lateRow : Nat := 0
  nRepl : Nat := 0
  nSusp : Nat := 0
  nLim : Nat := 0
  nGen : Nat := 0
  genRow : Nat := 0
  drift : Bool := false
  tStart : Nat := 0      -- ns
  tRead : Nat := 0       -- ns
  landTick : Nat := 0    -- landing tick (R13)
  landed : Bool := false
  layerStale : Nat := 0  -- R210
  comp : Nat := 0        -- memory path: 0 not reached, 1 taken, 2 composited, 3 not composited
  inl : Bool := false    -- it took the in-line path (R195)
  deriving DecidableEq, Repr, Inhabited

/-- Why a head is draining (R63, R64, R406). -/
inductive DrainWhy where
  | none | detach | removal | stop
  deriving DecidableEq, Repr, Inhabited

/-- One head port beside its registers. -/
structure Head where
  hdet : Bool := true            -- raw HDET_N level
  hdetT : Nat := 0               -- instant of its last change
  hpen : Bool := false           -- HPEN
  pwrT : Nat := 0                -- instant HPEN rose
  settled : Bool := false        -- HEAD_PWR_SETTLE has elapsed
  ramped : Bool := false         -- the attach ramp of the biases is complete
  biases : List Bias := List.replicate 8 {}
  biasPend : Bool := false       -- a code waits for the tick edge (R47)
  configured : Bool := false     -- HEAD_CONFIG has completed since reset (R285)
  timing : Bool := false         -- head timing runs
  div : Nat := 0                 -- ticks since the last frame period began
  due : Bool := false            -- this tick starts a frame period
  startTick : Nat := 0           -- tick at which the timing started
  periods : Nat := 0             -- frame periods begun since the timing started
  edges : List (Nat × Nat) := [] -- tick edges and cut rows of the frame periods whose outputs are due, newest first; the timing outputs
                                 -- follow them (R52)
  nextNo : Nat := 0              -- number of the next frame (R37)
  wrapNext : Bool := false
  contBreak : Bool := true       -- the next frame carries CONT_BREAK
  nextSlot : Nat := 0
  lastSlot : Nat := 0            -- slot of the frame that started last (R111, R127)
  frames : List Frame := []      -- oldest first
  idleP : Option Frame := none   -- frame period of a head that is not running
  idleOld : Option Frame := none -- such a period whose last rows are read after the edge that ended it (R52)
  attach : Nat := 0              -- step of R61 in progress, 0 none
  attachCmd : Option Nat := none
  startCmd : Option Nat := none
  drain : DrainWhy := .none
  detachCmd : Option Nat := none
  detachTick : Nat := 0
  ramp0 : Bool := false          -- biases ramp to 0 V at the end of a detach
  rampDue : Bool := false        -- that ramp begins at the tick edge to come (R63, R406)
  edgeDue : Bool := false        -- the tick of effect of a planned detach has not come (R63, R406)
  again : Bool := false          -- accepted as present again while its work still drained
  everAcc : Bool := false        -- a reference was accepted since power-up or RESET_N (R57)
  refOk : Bool := false          -- a full frame period with an accepted reference since the timing started (R58)
  refSum : Int := 0
  refN : Nat := 0
  refBad : Bool := false         -- a sample of 0x0000 or 0xFFFF
  refL : List Nat := List.replicate 17 0  -- HEAD_REF_Lk in force
  rejRun : Nat := 0              -- rejected frames of the run (unsaturated)
  firstStart : Option Nat := none -- instant of the head's first start since power-up or RESET_N (R123)
  everStarted : Bool := false    -- a first frame has started since the last head start
  genNew : Bool := false         -- the next frame is the effective frame of an activation (R122)
  resume : Bool := false         -- running head waits for its first frame after thaw or thermal restart (R376, R330)
  deriving DecidableEq, Repr, Inhabited

/-- One converter slice beside its registers. -/
structure Slice where
  dac : Nat := 8192              -- offset-cancel DAC code
  wUse : Nat := 0x4000           -- weight in force for the slice's pixels (R79)
  wPrev : Nat := 0x4000          -- the weight of the frame before, whose last rows are read after the frame start (R52, R79)
  meas : Nat := 0                -- measurement in rotation: 0 offset, 1 gain, 2 weight (R77)
  rows : Nat := 0                -- calibration rows accumulated
  sumA : Int := 0                -- codes of the first kind (offset, step up, +k)
  nA : Nat := 0
  sumB : Int := 0                -- codes of the second kind (step down, -k)
  nB : Nat := 0
  bad : Bool := false            -- a conversion of the accumulation had status 2
  holdG : Int := 0               -- held GTRIM step: -1, 0, 1 (R79)
  holdC : Int := 0
  rowNo : Nat := 0               -- row of the last conversion
  rowErr : Nat := 0              -- status-2 conversions in that row (R83)
  stuckD : Nat := 0              -- last code with status 0
  stuckN : Nat := 0              -- its run length
  phNext : Option Nat := none    -- SPHASE to apply at the next frame start (R88)
  train : Bool := false          -- training runs on the slice
  rot : Nat := 0                 -- results a spare still owes before it counts as free (R330)
  rqThr : Bool := false          -- the threshold training of its requalification has ended (R85)
  rqN : Nat := 0                 -- results of its requalification so far
  deriving DecidableEq, Repr, Inhabited

/-- A takeover in progress (R84). -/
structure Takeover where
  failing : Nat        -- local slice
  spare : Nat
  tap : Nat            -- INPUT code
  case : Nat           -- case of R83
  cmd : Option Nat := none
  t0 : Nat := 0        -- instant of connection
  deriving DecidableEq, Repr, Inhabited

/-- One head group of the analogue front end beside its registers. -/
structure Group where
  decl : List (Nat × Nat × Option Nat) := []   -- declared replacements: local slice, case of R83, command
  takes : List Takeover := []
  trainReq : Nat := 0            -- 0 none, 1 attach, 2 command, 3 takeover
  trainTaps : List Nat := []     -- taps taken over whose phase training waits, for trainReq 3
  trainKind : Nat := 0           -- kind of the running training
  trainCmd : Option Nat := none
  trainThr : List Nat := []      -- local slices whose threshold training is open
  trainPh : List Nat := []       -- taps (INPUT codes) whose phase training is open
  trainAcc : Nat := 0
  trainRef : Nat := 0
  requal : List (Nat × Option Nat) := []   -- local slices under requalification, commands
  stand : List (Nat × Nat) := [] -- reference taps and the spares that stand in for their slices in training (R73, R87)
  rqBad : List Nat := []         -- those of them with a refused result (R85)
  deriving DecidableEq, Repr, Inhabited

/-- One row slot of a pipeline's prefetch buffer (R96): the record of each column and whether its read was free of
uncorrectable errors. -/
structure Slot where
  row : Nat := 0
  frame : Nat := 0               -- number of the frame it was fetched for
  bank : Nat := 0                -- bank it was fetched from
  issued : Bool := false
  arrived : Bool := false
  recs : List (Nat × Bool) := [] -- 128-bit record, read without uncorrectable error
  deriving DecidableEq, Repr, Inhabited

/-- One pixel between its due instant and its correction. -/
structure Pix where
  have_ : Bool := false          -- converted
  d : Nat := 0                   -- ADC code
  a : Nat := 8192                -- code the DAC held
  w : Nat := 0                   -- slice weight in force
  st : Nat := 0                  -- R71
  late : Bool := true            -- record not usable at the due instant (R97)
  recOk : Bool := false          -- record was in its slot
  ue : Bool := false             -- its read carried an uncorrectable error
  rec_ : Nat := 0                -- record bits
  done : Bool := false           -- corrected
  c22 : Int := 0                 -- C as the pipeline passes it on, replacement included (R101, R106)
  deriving DecidableEq, Repr, Inhabited

/-- One correction pipeline beside its registers. -/
structure Pipe where
  active : Option Nat := none    -- active bank; none when the head has no active bank
  slots : Tbl Slot := []
  pix : Tbl Pix := []            -- key: row * 2048 + column, of the frame being sampled
  lut0 : List Nat := []          -- on-chip copies of the radiometric parts (8704 words), empty when not loaded
  lut1 : List Nat := []
  refill : Option (Nat × Nat) := none  -- bank and instant of a refill in progress (R121)
  filled : List Nat := []        -- banks whose copy is complete for their pending activation
  actNext : Option (Nat × Nat × Option Nat × Bool) := none  -- activation checked and due at the next edge: bank, generation,
                                                           -- command, asked for by the sequencer (R122, R126)
  loff : Nat := 0                -- committed pair (R113)
  inv : Nat := 0x10000
  emisCmds : List Nat := []      -- EMISSIVITY commands waiting for the first frame using the pair
  lateFill : List (Nat × Nat × Nat × Int) := []  -- late pixels whose previous-frame reads are outstanding: frame, row, column
                                                 -- and the value of method 2 (R99)
  deriving DecidableEq, Repr, Inhabited

/-- One calibration sequencer beside its registers. -/
structure Cal where
  lockBank : Nat := 0            -- bank of the open load
  reqSrc : Nat := 0              -- pending request: 0 none, 1 interval or temperature, 2 takeover, 3 host
  reqCmds : List Nat := []       -- SHUTTER commands merged into the request
  takeoverNext : Bool := false   -- a takeover's request waits for the event to end (R136)
  f0 : Nat := 0                  -- number of F0
  accepted : Bool := false       -- an accepted request waits for F0
  closed : Bool := false         -- closing has ended; settling begins at the next frame start
  avgNext : Bool := false        -- settling is over; averaging begins at the next frame start
  opened : Bool := false         -- opening has ended
  osDone : Bool := false         -- open settle is over
  cnt : Nat := 0                 -- frames counted in the phase
  closeDone : Bool := false      -- the close profile has ended
  closeT : Nat := 0
  openRun : Bool := false        -- the open profile has been started
  openDone : Bool := false
  openWait : Bool := false       -- the open profile is to run at the next tick edge (R135)
  openNow : Bool := false        -- it starts at this edge, once the starts of lower channels have gone (R152)
  bank : Nat := 0                -- bank being built
  gen : Nat := 0
  building : Bool := false       -- a bank is being built and not yet decided
  verdict : Nat := 0             -- 0 none, 1 accepted, 2 refused
  lDone : Bool := false          -- the activation of L is committed
  tMin : Nat := 0
  tMax : Nat := 0
  tLast : Nat := 0               -- T_fpa of the last averaged frame
  anyStale : Bool := false
  respBad : Bool := false
  nCount : Nat := 0              -- counted pixels of the build
  nFail : Nat := 0
  nPass : Nat := 0
  sumDres : Int := 0
  restartNext : Bool := false    -- the accumulator restarts at the next frame start (R136)
  abandoned : Bool := false
  lastEnd : Option Nat := none   -- instant of the end of the last event
  loaded : List Nat := []        -- banks that hold a set the host loaded (R132)
  repairs : List (Nat × Nat) := []  -- (bank, record index) found bad and not yet repaired (R137)
  builds : List (Nat × Nat × Nat × Bool) := []  -- (source bank, Tcal, record index, GEN4 only): builds that wait for a golden read (R314)
  deriving DecidableEq, Repr, Inhabited

/-- Who started a profile. -/
inductive ActSrc where
  | host | close | openP
  deriving DecidableEq, Repr, Inhabited

/-- What a bridge does (R144): high impedance, all switches off, both low-side switches on, or a target it regulates to, in
slow or fast decay, that moves from `src` to `tgt` over the phase. Targets are currents from Ak_OA to Ak_OB (R142). -/
inductive Bridge where
  | highZ | coast | brake
  | regulate (fast : Bool) (src tgt : Int)
  deriving DecidableEq, Repr, Inhabited

/-- One actuator channel beside its registers. -/
structure Act where
  src : ActSrc := .host
  cmd : Option Nat := none
  phaseT : Nat := 0              -- instant the running phase began
  profT : Nat := 0               -- instant the profile began
  last : Bool := false           -- the last phase has ended; the channel coasts (R146)
  stopping : Bool := false       -- slow decay at 0 after a stop
  lastEnd : Option Nat := none   -- instant of the end of the last profile (R148)
  bins : List Nat := []          -- charge of the finished bins, newest first, at most 63 (R149)
  cur : Nat := 0                 -- charge of the current bin
  binT : Option Nat := none      -- instant the current bin began; none before the first one of the power-up ends
  rsvClose : Option Nat := none  -- reserved planned charges (R151), in 1/200 mA ms
  rsvOpen : Option Nat := none
  bridge : Bridge := .highZ      -- outputs Ak_OA and Ak_OB
  peakI : Int := 0               -- samples of the last PWM period, mA (R145)
  valleyI : Int := 0
  posRun : Nat := 0              -- samples of APOSk in a row at level posLvl (R155)
  posLvl : Bool := false
  posHigh : Bool := false        -- filtered level of APOSk
  zero : Int := 0                -- accepted sense zero (R156)
  zeroRej : Nat := 0             -- consecutive refusals
  deriving DecidableEq, Repr, Inhabited


/-- An accumulator of an engine (R160): lane values in the form last written; all zero when cleared. -/
structure EAcc where
  form : Nat := 0
  lanes : List Int := []
  deriving DecidableEq, Repr, Inhabited

/-- A block transfer in progress (R168). -/
structure Xfer where
  tag : Nat := 0
  put : Bool := false
  far : Nat := 0        -- device address of the first far line
  len : Nat := 0        -- line length
  lines : Nat := 1
  stride : Nat := 0
  loc : Nat := 0        -- local address
  done : Nat := 0       -- bytes its requests have moved through the mire's port (R233)
  since : Nat := 0      -- instant its next request began to wait
  lost : Bool := false  -- a reset of the port dropped its waiting request (R235)
  touched : List (Nat × List Byte) := []  -- local 16-byte blocks the engine wrote meanwhile, with their earlier content
  deriving DecidableEq, Repr, Inhabited

/-- A tile of a task in the schedule of a tick (R175). -/
structure Tile where
  task : Nat := 0
  tile : Nat := 0
  retry : Nat := 0
  deriving DecidableEq, Repr, Inhabited

/-- One engine beside its registers: its architectural state (R160), its tile and the tiles assigned to it. -/
structure Eng where
  sregs : Tbl Word := []
  vregs : Tbl Nat := []        -- 128-bit values
  accs : Tbl EAcc := []
  pc : Nat := 0
  loops : List (Nat × Nat × Nat) := []   -- innermost first: first and last body instruction, repetitions left
  xfers : List Xfer := []
  ue : Nat := 0                -- CSR 3
  cyc : Nat := 0               -- cycles of the tile
  stores : List (Nat × List Byte) := []  -- stores to shared memory not yet visible to the mire, oldest first
  cur : Option Tile := none    -- tile in progress
  budget : Nat := 0            -- CYC of its task
  fault : Option (Nat × Nat) := none     -- cause and TRAP code of a fault not yet handled
  queue : List Tile := []      -- tiles assigned and not started
  ran : Nat := 0               -- tiles ended this tick
  busy : Nat := 0              -- cycles busy this tick
  deriving DecidableEq, Repr, Inhabited

/-- A restart waiting on a spare (R181). -/
structure Restart where
  eng : Nat := 0
  spare : Nat := 0
  tile : Option Tile := none   -- none when only the remaining tiles move
  rest : List Tile := []
  t : Nat := 0
  deriving DecidableEq, Repr, Inhabited

/-- One mire beside its registers. -/
structure Mire where
  staging : Option (Nat × Option Nat) := none  -- image address and command of a reload in progress
  staged : Option (Bool × List Byte) := none   -- staged image and the verdict of its check
  copied : Option (List Byte) := none          -- image copied since the commit point, kept until the edge (R188)
  redo : Bool := false                         -- a fault fell in a copy, which is to be repeated (R188)
  entries : List Nat := []                     -- ENTRY0 to ENTRY7 of the loaded image
  requal : List (Nat × Option Nat) := []       -- engines under test with their commands
  port : Nat := 23             -- engine whose request the DRAM port served last (R233)
  newSpares : Bool := false    -- SPARES was written since the last tick edge (R190)
  deriving DecidableEq, Repr, Inhabited

/-- A declared task (R172) and its part in the schedule. -/
structure Task where
  idx : Nat := 0
  ws : List Nat := []          -- the 16 words of its descriptor
  dropped : Bool := false
  runs : Bool := false         -- runs this tick
  no : Nat := 0                -- frame of the run
  held : Bool := false
  repaired : Bool := false
  done : Nat := 0              -- tiles finished in this run
  total : Nat := 0
  stale : Bool := false
  fault : Bool := false        -- a program fault in this tick
  faultRun : Nat := 0          -- consecutive ticks in which it ran with program faults
  offered : Bool := false      -- the run's result is offered
  skip : Bool := false         -- it skips the held frame `no` of this tick (R174)
  resNo : Option Nat := none   -- frame of the last complete result
  resHeld : Bool := false
  resRepaired : Bool := false
  deriving DecidableEq, Repr, Inhabited

/-- The engine array beside its registers. -/
structure Array_ where
  tasks : List Task := []
  next : Option (List (List Nat) × Option Nat × Option Nat) := none  -- accepted declaration waiting for its edge: descriptors,
                               -- command, and for TASK_WISOA the mask of its task indices
  joined : List Nat := []      -- heads whose tasks are in the schedule
  refused : List Nat := []     -- heads whose join was refused
  recheck : Bool := false      -- capacity was lost: the check runs over the remaining engines (R182)
  regain : Bool := false       -- capacity returned: dropped tasks are tried again (R182)
  droppedQ : List Nat := []    -- tasks dropped under R182, latest first
  restarts : List Restart := []
  assigned : Nat := 0          -- engines the schedule gave tiles
  parkedL : List (Nat × Nat) := []  -- parked engines with the roles they go back to, latest first
  deficitA : Nat := 192        -- A at the last power-deficit event, or above it since (R178)
  released : Bool := true      -- the end-of-tick barrier has released
  stopped : Bool := false      -- the commit point has stopped the engines
  bcast : List (Nat × Option Nat) := []   -- broadcasts run before the edge: command
  reloads : List (Nat × Nat × Option Nat) := []  -- reloads done before the edge: mire, PROG_ID, command
  ecc : Tbl Nat := []          -- error state of the groups of the engines' memories, by first device address / 4: 1
                               -- correctable, 2 uncorrectable (R160)
  deriving DecidableEq, Repr, Inhabited

/-- A tone mapping in use (R199, R200). -/
inductive ToneMap where
  | window (lo hi : Nat)
  | plateau (bins : List Nat)
  deriving DecidableEq, Repr

/-- A marker entry (R208). -/
structure Marker where
  x0 : Nat
  y0 : Nat
  x1 : Nat
  y1 : Nat
  color : Nat
  width : Nat
  deriving DecidableEq, Repr, Inhabited

/-- The layers a frame is composited with: each layer's content, none when it is left out or transparent (R206, R210). -/
structure Layers where
  l1 : Option (Nat × Nat) := none  -- address and stride of the edge strengths
  l2 : Option (Nat × Nat) := none  -- address and stride of the indices
  l3 : Option Nat := none      -- address of the staged copy
  l4 : List Marker := []
  deriving DecidableEq, Repr, Inhabited

/-- One CSI-2 packet sent: data identifier and payload bytes (short packets carry their 16-bit value as two bytes); or a skew
calibration in the blanking, which carries none (R212). -/
structure Pkt where
  di : Nat
  data : List Nat
  skew : Bool := false        -- a skew calibration, no packet (R212)
  deriving DecidableEq, Repr, Inhabited

/-- A frame on the memory path (R192): its layers and mapping as they were at its edge, and how far it is composited. -/
structure Comp where
  no : Nat
  slot : Nat
  layers : Layers
  map : ToneMap
  stale : Nat := 0             -- layers not ready, bit k - 1 for Lk (R210)
  started : Bool := false
  late : Bool := false         -- it missed its commit point (R194)
  row : Nat := 0               -- rows composited
  bad : Bool := false          -- a read was poisoned (R220)
  lines : List (List Nat) := []  -- its lines for the transmitter
  deriving DecidableEq, Repr

/-- A frame on the in-line path (R195): the content ready at the edge that started it, and the lines its pipeline has handed
over and that are not yet composited. -/
structure InFrame where
  head : Nat
  no : Nat
  layers : Layers
  map : ToneMap
  layerNo : Nat                -- frame the content belongs to
  next : Nat := 0              -- next line
  rows : List (List Nat) := []
  deriving DecidableEq, Repr

/-- One head's part of the video pipeline beside its registers. -/
structure VidHead where
  tone : Nat := 0x301          -- VID_TONE in force
  win : Nat := 0x90007000
  layers : Nat := 0            -- VID_LAYER_EN and DROP in force (offset 0x14)
  next : Nat × Nat × Nat := (0x301, 0x90007000, 0)  -- the three words at the last commit point, for the edge to come (R29)
  lo : Nat := 0x7000           -- window in use
  hi : Nat := 0x9000
  map : Option ToneMap := none -- mapping of the previous frame
  histSent : Bool := false     -- histogram-missing raised since the head's start
  ready : Layers := {}         -- last ready content of L1, L2 and L4 since the head started
  readyNo : Option Nat := none -- frame whose tasks ran last (R195)
  work : List Comp := []       -- frames on the memory path, oldest first
  txq : List (List Pkt) := []  -- packets of the composited frames that wait for the transmitter
  l3slot : Option Nat := none  -- staging slot in use
  l3copy : Option (Nat × Nat × Bool) := none  -- copy in progress: slot, host address, complete
  l3late : Bool := false       -- the copy was not complete at the commit point of its tick of effect (R210)
  l3stale : Bool := false      -- L3 is not ready in this tick (R210)
  deriving DecidableEq, Repr, Inhabited

/-- A visible frame being received (R202, R203). -/
structure RxFrame where
  lines : List (List Nat) := []
  bad : Bool := false
  doubt : Bool := false        -- known from a dropped packet alone: it may have been a frame start (R203)
  ended : Bool := false
  deriving DecidableEq, Repr, Inhabited

/-- The shared part of the video pipeline beside its registers. -/
structure Vid where
  inline : Option Nat := some 0  -- in-line head in force
  pend : Option (Nat × Bool × Option Nat) := none  -- in-line change bound and pending: head, INLINE_EN, command
  lost : Nat := 0              -- the in-line head was lost (R197): 1 no commit point since, 2 no edge since that, 3 its tick has come
  turn : Nat := 3              -- head whose slice the memory path composited last (R192)
  rx : Option RxFrame := none
  visAge : Nat := 0            -- ticks since the last accepted visible frame
  luma : Nat := 0              -- luma buffer completed last
  lumaEdge : Nat := 0          -- the one completed last before the tick edge
  lumaAny : Bool := false
  rxM : List Nat := []         -- matrix and affine words in force for the frame in reception
  rxA : List Nat := []
  tx : List Pkt := []          -- packets of the last frame sent, in-line or from the memory path
  inls : List InFrame := []    -- in-line frames not yet sent whole, oldest first
  deriving DecidableEq, Repr, Inhabited

/-- A binding of a stream (R281, R282). -/
structure Stream where
  head : Nat := 0
  kind : Nat := 0
  task : Nat := 0
  dq : Nat := 0
  bq : Nat := 0
  tick : Nat := 0              -- tick of effect
  bound : Bool := false        -- in effect
  ending : Bool := false       -- removed after the last header
  endCmd : Option Nat := none
  lastNo : Nat := 0            -- last frame delivered
  gap : Nat := 0               -- frames skipped since the last one offered
  deriving DecidableEq, Repr, Inhabited

/-- A frame or result offered to a stream (R13, R284). -/
structure Offer where
  head : Nat := 0
  kind : Nat := 0
  task : Nat := 0
  no : Nat := 0
  slot : Nat := 0
  ws : List Nat := []          -- the 16 header words, without buffer, gap and phase
  addr : Nat := 0              -- where the data lies
  bytes : Nat := 0
  t : Nat := 0                 -- instant of the offer
  gap : Nat := 0               -- frames of the stream skipped just before it
  deriving DecidableEq, Repr, Inhabited

/-- One assertion of a select of a head link (R304): the SPI mode of its clock (R302), the line, its active level, the HSCK periods
that pass at least since the release before it, those from it to the first clock edge, the words clocked, and those from the last
edge to its release. -/
structure Select where
  idleHigh : Bool := false     -- level of HSCK between clocks: low in modes 0 and 1, high in 2 and 3
  trailing : Bool := false     -- bits are sampled on the second edge of each clock: modes 1 and 3
  line : Nat := 0
  high : Bool := false
  gap : Nat := 0
  lead : Nat := 0
  words : Nat := 0
  inner : Nat := 0             -- idle periods between them (R303)
  lag : Nat := 0
  deriving DecidableEq, Repr, Inhabited

/-- One head link beside its registers (R302 to R307). -/
structure Hl where
  run : Bool := false          -- a queue runs
  attach : Bool := false       -- it is the attach queue
  addr : Nat := 0
  cnt : Nat := 0
  idx : Nat := 0               -- entry in turn
  go : Bool := false           -- its first entry may start
  sawTick : Bool := false      -- a tick edge since the entry came in turn
  sawFrame : Bool := false     -- a frame start of the head since then
  cmd : Option Nat := none
  sent : List Nat := []        -- words the last entry sent
  sels : List Select := []     -- its assertions of the select, in order
  cut : Bool := false          -- a freeze cut a word of it (R316)
  selEnd : Nat := 0            -- instant its last select is released
  freeAt : Nat := 0            -- instant its DELAY ends (R303)
  deriving DecidableEq, Repr, Inhabited

/-- One phase of a flash frame (R309): its lanes, whether it runs in DDR, and the bit groups sent, bit b of a group on lane b. -/
structure FlPhase where
  lanes : Nat := 1
  ddr : Bool := false
  groups : List Nat := []
  deriving DecidableEq, Repr, Inhabited

/-- A flash frame (R309): the phases the port drives, in order, the dummy clocks after the mode bits, and the data it reads. -/
structure FlFrame where
  phases : List FlPhase := []
  dummy : Nat := 0
  read : Nat := 0              -- bytes read
  rdPhase : FlPhase := {}      -- their lanes and rate
  dqs : Bool := false          -- captured on FDQS
  cut : Bool := false          -- a freeze cut it, FCS_N is released (R316)
  deriving DecidableEq, Repr, Inhabited

/-- The flash port beside its registers (R308 to R315). -/
structure Flash where
  lines : List Nat := []       -- prefetch lines held, most recently used first (R312)
  polling : Bool := false
  pollT : Nat := 0             -- instant the poll began
  frames : List FlFrame := []  -- frames of the last use of the port, in order
  busyTo : Nat := 0            -- instant the direct frame ends
  waits : List (Bool × Nat × Nat) := []  -- XIP reads that wait, in arrival order: controller's, address, length (R312, R314)
  frst : Bool := true          -- FRST_N is held low (R308)
  deriving DecidableEq, Repr, Inhabited

/-- The management port beside its registers (R293 to R301). -/
structure Mgmt where
  err : Bool := false          -- ERR of the next status byte
  miso : List Nat := []        -- bytes the last frame sent
  deaf : Bool := false         -- after a timeout, until MSEL_N has been high (R301)
  deriving DecidableEq, Repr, Inhabited

/-- One update the device makes to the peat store by itself (R341). -/
inductive PeatUpd where
  | count (off : Nat)
  | log (ns code seq obj p0 p1 : Nat)
  | put (off : Nat) (bytes : List Byte)
  deriving DecidableEq, Repr

/-- One of the two shadow copies (R337): its bytes, the error state of its groups as in the SRAM, its passwords, and the store
count of its completion mark; none when the copy is not complete. -/
structure PCopy where
  bytes : Tbl Byte := []
  ecc : Tbl Nat := []
  mark : Option Nat := none
  deriving DecidableEq, Repr, Inhabited

/-- A store in progress (R340): the copy it writes (false A, true B), the snapshot, and the commands that wait for it. -/
structure PStore where
  toB : Bool := false
  bytes : Tbl Byte := []
  ecc : Tbl Nat := []          -- error state of the groups of the snapshot (R337)
  pws : Tbl Nat := []
  count : Nat := 0
  trig : Nat := 0
  cmds : List Nat := []
  deriving DecidableEq, Repr, Inhabited

/-- An update of the SRAM that waits for a store to end (R341). -/
inductive PWait where
  | write (off : Nat) (bytes : List Byte) (cmd : Option Nat)
  | clearLog
  deriving DecidableEq, Repr

/-- The peat store beside its registers (R336 to R352). -/
structure Peat where
  sram : Tbl Byte := []
  ecc : Tbl Nat := []          -- error state per 4-byte group: 1 single-bit, 2 uncorrectable
  storing : Bool := false
  queue : List PeatUpd := []   -- the device's own updates waiting (R341)
  waits : List PWait := []     -- other writes waiting
  store : Option PStore := none
  pend : Option (Nat × List Nat) := none   -- pending store request: trigger, commands
  copyA : PCopy := {}
  copyB : PCopy := {}
  otp : List Byte := [0x44, 0x51]  -- factory identity record; bytes it does not list are zero (R346)
  otpEcc : Tbl Nat := []       -- error state of its 4-byte groups (R337)
  pws : Tbl Nat := []          -- passwords in force, key 2 * partition + kind
  pwsNv : Tbl Nat := []        -- passwords in the shadow array
  pwsEcc : Tbl Nat := []       -- error state of their 4-byte groups: 2 * key for the low half, 2 * key + 1 for the high half (R337)
  wrong : Tbl Nat := []        -- consecutive wrong passwords per partition
  locks : List (Nat × Nat) := []   -- locked-out partitions and the instants their lockouts end
  lastStore : Nat := 0         -- instant of the last completed store
  autoN : Nat := 0             -- autostores asked for since then
  vhold : Nat := 5000          -- level on VHOLD, mV
  pfailLow : Bool := false     -- PFAIL_N is low
  pfailT : Nat := 0            -- instant of its last change
  heldSent : Bool := false     -- pfail-held raised in this lock
  deriving DecidableEq, Repr, Inhabited

/-- A requester burst (R217): 16 to 256 bytes in one aligned 256-byte block; `since` is the instant it began to wait, `eng`
the engine, tag and position of a block transfer's request (R233). -/
structure Burst where
  req : Nat := 0
  wr : Bool := false
  addr : Nat := 0
  len : Nat := 16
  data : List Byte := []
  since : Nat := 0
  eng : Option (Nat × Nat × Nat) := none
  sent : Nat := 0              -- bytes of the units carried before it was interrupted (R223)
  off : Bool := false          -- its requester was reset: the rest has no effect (R235)
  got : List Byte := []        -- data read so far
  bad : Bool := false          -- of it, some was poisoned
  deriving DecidableEq, Repr, Inhabited

/-- An answer to a requester: 0 data, 1 poisoned data, 2 an error response (R218, R220). -/
structure Answer where
  req : Nat := 0
  kind : Nat := 0
  data : List Byte := []
  deriving DecidableEq, Repr, Inhabited

/-- An access of device DRAM from outside that waits: of BAR4 (requester 7), of the debug port (16), or of its DEBUG register
(17). -/
structure Held where
  req : Nat := 7
  wr : Bool := false
  addr : Nat := 0
  len : Nat := 0
  data : List Byte := []
  deriving DecidableEq, Repr, Inhabited

/-- The memory system beside its registers (R217 to R242): the arbiters of the two channels, the scrubber, the committed
region entries. -/
structure MemS where
  lfsr0 : Nat := 0xACE12469    -- R225
  lfsr1 : Nat := 0x531EDB96
  rr0 : Nat := 15              -- last requester served round robin on each channel
  rr1 : Nat := 15
  owner0 : Option Nat := none  -- owner of the last grant, on whom the grant may park (R226)
  owner1 : Option Nat := none
  run0 : Option Burst := none  -- interrupted burst of each channel (R223)
  run1 : Option Burst := none
  waits : List Burst := []     -- waiting bursts, oldest first
  answers : List Answer := []  -- answers of the last DRAM_BURST
  timed : List (Nat × Nat) := []  -- requesters and instants of oldest bursts that have exceeded their limit already
  scrub : Nat := 0             -- next 256-byte block of the full pass
  tscrub : Nat := 0            -- next block of the table walker, counted over the table regions
  rgns : Tbl (Nat × Nat × Nat) := []  -- committed entries: base, length, kind (R239)
  held : List Held := []       -- accesses from outside held until the memory system runs, oldest first (R329, R371)
  deriving DecidableEq, Repr, Inhabited

/-- A Sluice descriptor in progress (R243): its words as read and checked, its address, and the stream positions done. -/
structure Desc where
  addr : Nat := 0
  ws : List Nat := []
  pos : Nat := 0
  poison : Bool := false       -- poisoned data was moved
  told : Bool := false         -- a poisoned byte of its source has raised its event (R258)
  cmp : Nat := 0               -- mismatches of a compare
  first : Option Nat := none   -- destination address of the first
  half : Bool := false         -- the half notification has been posted
  xip : Nat := 0               -- size of flash XIP space at the check (R249)
  rdw : Option (Nat × Nat) := none  -- register word read last: its index in the stream, its value
  rdd : Option (Nat × Nat) := none  -- the same on the destination side of a compare
  wrw : List (Nat × Option Byte) := []  -- stream positions and bytes of a register word not yet complete; none, poisoned
  deriving DecidableEq, Repr, Inhabited

/-- A Sluice channel beside its registers. -/
structure Chan where
  next : Nat := 0              -- descriptor to read next
  desc : Option Desc := none
  mid : Option Bool := none    -- a chunk of it is under way; whether an abort came in it (R256)
  cmd : Option Nat := none     -- DMA_COPY command
  done : Nat := 0              -- descriptors completed for that command
  deriving DecidableEq, Repr, Inhabited

/-- A Sluice notification waiting for its completion ring (R253, R275). -/
structure Note where
  chan : Nat := 0
  tag : Nat := 0
  code : Nat := 0
  full : Bool := false
  w2 : Nat := 0
  w3 : Nat := 0
  cq : Nat := 0
  deriving DecidableEq, Repr, Inhabited

/-- Sluice beside its registers (R243 to R264). -/
structure Dma where
  chans : Tbl Chan := []
  run : Option Nat := none     -- channel that holds the engine
  last : Tbl Nat := []         -- channel last served at each PRIO
  notes : List Note := []
  fwHalt : Bool := false       -- the halt in force came while a firmware channel ran (R288)
  deriving DecidableEq, Repr, Inhabited

/-- A ring the device writes: completion rings 0 to 7, delivery rings 8 to 15 (R269, R270). -/
structure Ring where
  phase : Bool := true         -- phase of the next entry
  times : List Nat := []       -- instants of the unread entries since the last fire, oldest first
  full : Option Nat := none    -- instant a write began to wait for room
  stalled : Bool := false      -- that wait has been counted
  deriving DecidableEq, Repr, Inhabited

/-- The host port beside its registers (R265 to R292). -/
structure Host_ where
  rings : Tbl Ring := []
  msix : List Nat := []        -- vectors signalled, oldest first
  table : Tbl Byte := []       -- MSI-X table, 64 entries of 16 bytes (R268); the mask bits stand in `masked`
  masked : List Nat := List.range 64  -- masked vectors and the pending bits (R269)
  pendBits : List Nat := []
  msixEn : Bool := false       -- MSI-X enable and function mask
  msixMask : Bool := false
  bars : List (Nat × Nat) := []  -- host addresses and sizes of the device's own BARs
  linkUp : Bool := false
  mps : Nat := 0               -- Device Control: code of Max_Payload_Size, of Max_Read_Request_Size, Relaxed Ordering (R265)
  mrrs : Nat := 2
  ro : Bool := true
  d3 : Bool := false           -- power state D3hot
  frameRo : Bool := false      -- the last frame data write carried Relaxed Ordering
  aer : Nat := 0               -- AER uncorrectable error status (R265)
  ep : Bool := false           -- the last BAR read's completion carried the EP bit (R267)
  lastSq : Nat := 7            -- submission ring served last (R272)
  mbxBusy : Bool := false
  deriving DecidableEq, Repr, Inhabited

/-- Thermal management beside its registers (R320 to R334). Temperatures in 1/16 degree C. -/
structure Therm where
  raw : Tbl Int := []          -- last raw reading of each sensor; unlisted, not sampled since the core came up
  seen : List Nat := []        -- sensors with a good reading since power-up
  hist : Tbl (List (Nat × Int)) := []  -- plausible readings of the last 256 ms and the one before, newest first
  okT : Tbl Nat := []          -- instant + 1 since when a failed sensor reads plausibly
  riseOk : Option Nat := none  -- instant since when every masked sensor is below the rise limit
  stepT : Option Nat := none   -- instant of the last throttle step while throttling
  belowT : Option Nat := none  -- instant since when every masked sensor is below the recovery limit (R325)
  capWas : Option (Nat × Nat) := none  -- instant of the host's last lowering of the cap, and the cap before it (R331)
  coolT : Option Nat := none   -- instant since when every sensor reads below 120 degrees C (R330)
  who : Nat := 0               -- sensor concerned by the throttling
  downHeads : List Nat := []   -- heads that were running at the shutdown
  startsDue : Bool := false    -- after a restart firmware still owes their start requests (R330, R367)
  tab : Tbl Int := []          -- tables in force, key 16 * table + entry (BG, ADC0 to ADC3, OSC)
  pend : Tbl (List Int) := []  -- entries of the tables named by a GO, waiting for their next update
  trim : Tbl Int := []         -- applied trims
  starts : List (Nat × Nat) := []  -- channels and slots of actuator starts that wait for the restart (R329)
  rsPend : List Nat := []      -- restarted heads whose start is not yet decided (R330)
  rsOk : Nat := 0              -- masks of the heads started and of those refused
  rsNo : Nat := 0
  deriving DecidableEq, Repr, Inhabited

/-- Steps of a power-up attempt (R354, R355). -/
inductive PwrStep where
  | off | reset | waitPg (g : Nat) | settle (g : Nat) | crystal | boot | running | backoff | held
  deriving DecidableEq, Repr, Inhabited

/-- The always-on domain (R353 to R378), the freeze requests, the control pair and the JTAG port. -/
structure AO where
  step : PwrStep := .off
  t0 : Nat := 0                -- instant the step began
  stat : Nat := 1              -- STAT code (R356), as the always-on word 0 resets
  tries : Nat := 0
  pen : Nat := 0               -- PEN0 to PEN3 as driven from the instant the step began
  penOld : Nat := 0            -- those that were high when the rails were dropped last
  penT : Nat := 0              -- instant of that drop
  pgood : Nat := 0             -- PGOOD0 to PGOOD3
  xtal : Bool := false         -- crystal confirmed and not lost
  xtalOk : Nat := 0            -- good 1 ms windows in a row
  xtalBack : Bool := false     -- the crystal is taken back at the next tick edge (R368)
  holdGroup : Nat := 0
  holdBoot : Nat := 0
  pgTo : Nat := 0x0A
  settleMs : Nat := 0x01
  xtalTo : Nat := 0x14
  seqIn : Nat × Nat × Nat := (0x0A, 0x01, 0x14)  -- timeouts of the attempt in progress
  rstCause : Nat := 0
  nsHi : Nat := 0              -- latched upper half (word 6)
  snapAddr : Nat := 0
  rstLow : Bool := false       -- RESET_N is held low
  up : Bool := false           -- the core domain is up and booted
  ran : Bool := false          -- STAT has read 0 since power-up (R355)
  pin : Bool := false          -- FREEZE_N is low
  latch : Bool := false        -- freeze latch
  frozen : Bool := false
  shut : Bool := false         -- hardware thermal shutdown
  thawCmds : List Nat := []    -- THAW commands waiting
  frzHeads : List Nat := []    -- heads that were running at the freeze
  pgT : Nat := 0               -- instant of the last PGOOD rise
  recalled : Bool := false     -- the peat store has been recalled since power-up
  pinLvl : Bool := false       -- FAULT_N level read back, filtered
  pinWas : Bool × Bool := (false, true)  -- last sample of it, and whether the device drove the pin low then
  pinRun : Nat := 0            -- samples in a row equal to it
  lsT : List Nat := []         -- instants of the mismatches of the last 60 s
  lsStop : Option Nat := none  -- the pair is stopped since this instant, restarting (R366)
  failed : Bool := false       -- control pair failed (R367)
  slot : Nat := 0              -- image slot running
  staged : Option Nat := none  -- slot staged since boot
  stage : Option (Nat × Nat × Bool × List Byte) := none  -- FW_STAGE in progress: command, slot, flash failure, image (R362)
  sw : Option (Option Nat) := none  -- switch in progress and its command (R363)
  prefWas : Nat := 0           -- PREF before the switch
  faults : List (Nat × Nat) := []  -- faults detected and not yet absorbed, oldest first: row of R365, which (R364)
  keyHash : List (List Byte) := []  -- one-time-programmed hashes of the key slots
  revoked : List Nat := []     -- revoked key slots
  svnMin : Nat := 0
  edgeWait : Bool := false     -- no commit point has come since the thaw or the thermal restart (R330, R376)
  ir : Nat := 2                -- JTAG instruction in force
  debug : Nat := 0             -- 104-bit DEBUG register
  chain : Nat := 0             -- boundary-scan samples taken
  deriving DecidableEq, Repr, Inhabited

/-- The kinds of tick-bound work (R29). -/
inductive ReqKind where
  | headStart | headDetach | activation | shutter | taskDeclare | reload | broadcast | inlineChange
  | seqActivation | tone | layers | layer3 | actStart | hlQueue | bind | tickSet | thaw
  deriving DecidableEq, Repr, Inhabited

/-- A request for tick-bound work (R29, R30): what it is, on which object, its parameters, the command that waits for it
and whether its commit point has passed. -/
structure Req where
  kind : ReqKind := .headStart
  obj : Nat := 0
  p0 : Nat := 0
  p1 : Nat := 0
  p2 : Nat := 0
  cmd : Option Nat := none
  committed : Bool := false
  deriving DecidableEq, Repr, Inhabited

/-- A command of the ring command set in progress (R272, R289). -/
structure Cmd where
  uid : Nat := 0
  src : Nat := 0                 -- submission ring 0 to 7, 8 the mailbox, 9 one that a reset cut off
  home : Nat := 0                -- the source it was fetched from
  fence : Bool := false          -- it waits for every earlier command of that ring (R271)
  cid : Nat := 0
  opc : Nat := 0
  obj : Nat := 0
  ps : List Nat := []            -- P0 to P13
  phase : Nat := 0               -- 0 fetched, 1 in progress, 2 complete
  status : Nat := 0
  cause : Nat := 0
  r0 : Nat := 0
  r1 : Nat := 0
  deriving DecidableEq, Repr, Inhabited

/-- An event waiting for completion ring 0 (R277, R280). -/
structure Ev where
  code : Nat := 0
  seq : Nat := 0
  obj : Nat := 0
  p0 : Nat := 0
  p1 : Nat := 0
  deriving DecidableEq, Repr, Inhabited


/-- Reasons the machine stops with a fault. No command of this block stops the machine: the specification gives every one
of them an effect, and where it leaves a value open that value is free. -/
inductive Fault where
  /-- Raised by nobody; kept so that the type is not empty. Safe: no run ends in it. -/
  | never
  deriving DecidableEq, Repr

/-- Reasons the machine has no meaning for a command. -/
inductive Refusal where
  /-- Raised by an arm of `exec` whose command has no meaning yet; no arm is left with it. Safe: such a run stops. -/
  | notModelled (mnemonic : String)
  deriving DecidableEq, Repr

/-- The machine. -/
structure State where
  now : Nat := 0               -- POWERED_NS with eight fraction bits (R34)
  regs : Tbl Word := []        -- registers by BAR0 offset; an unlisted one holds its reset word (R385)
  baseLo : Tbl Word := []      -- LO halves in effect of 64-bit bases (R404)
  mem : Tbl Byte := []         -- device addresses and, with bit 63 set, host addresses (R20, R243)
  ecc : Tbl Nat := []          -- error state of 8-byte DRAM groups (R219, R220)
  tick : TickS := {}
  heads : Tbl Head := []       -- 0 to 3
  slices : Tbl Slice := []     -- 0 to 151
  groups : Tbl Group := []     -- 0 to 3
  pipes : Tbl Pipe := []       -- 0 to 3
  cals : Tbl Cal := []         -- 0 to 3
  acts : Tbl Act := []         -- 0 to 7
  actQ : List Nat := []        -- channels queued for the total current, in order (R152)
  engs : Tbl Eng := []         -- 0 to 191
  mires : Tbl Mire := []       -- 0 to 7
  arr : Array_ := {}
  vids : Tbl VidHead := []     -- 0 to 3
  vid : Vid := {}
  msys : MemS := {}
  dma : Dma := {}
  host : Host_ := {}
  streams : List Stream := []
  backlog : Tbl (List (List Nat)) := []  -- headers waiting for a delivery ring (R284)
  hls : Tbl Hl := []           -- 0 to 3
  flash : Flash := {}
  mgmt : Mgmt := {}
  therm : Therm := {}
  ao : AO := {}
  peat : Peat := {}
  events : List Ev := []       -- queue of 256 (R280)
  evtLost : Nat := 0           -- events lost since the last events-lost event
  cmds : List Cmd := []        -- commands fetched and not yet completed at their ring
  reqs : List Req := []        -- tick-bound requests in arrival order (R29)
  offers : List Offer := []    -- frames and results offered for delivery (R284)
  freeCtr : Nat := 0           -- the model's own: index of the next free value
  reply : List Nat := []       -- words the last read returned
  nextUid : Nat := 0           -- the model's own: name of the next command
  pending : List Instr := []   -- the model's own: commands waiting, first in first out
  deriving DecidableEq, Repr

/-- The machine right after reset: unpowered, every register at its reset value, nothing in memory.
(DESIGN CHOICE, log entry 9) -/
def State.reset : State := {}

end Sys2Proof.Machine
end

