-- ==== Sys2Proof/Machine/RegMap.lean ====
section
/-!
DEFINITION. The register map (R383, R385, and the register tables of R42, R43, R67, R90, R91, R117, R139, R158, R159,
R190, R191, R215, R216, R241, R263, R264, R290, R291, R317 to R319, R335, R352, R379, R380): one `Fld` per field of a
BAR0 register, and per block the rows a generic write checks (access code of R2, range of R4, reset value).
-/
namespace Sys2Proof.Machine.R

def tickCtlEn : Fld := ⟨0x10000, 0, 1⟩
def tickCtlSrc : Fld := ⟨0x10000, 1, 2⟩
def tickCtlFsyncEdge : Fld := ⟨0x10000, 3, 1⟩
def tickCtlFsyncOutEn : Fld := ⟨0x10000, 4, 1⟩
def tickCtlFsyncOutPol : Fld := ⟨0x10000, 5, 1⟩
def tickPeriodNs : Fld := ⟨0x10004, 0, 30⟩
def tickPeriodFrac : Fld := ⟨0x10008, 0, 8⟩
def tickGuardUs : Fld := ⟨0x1000c, 0, 14⟩
def tickTolUs : Fld := ⟨0x10010, 0, 16⟩
def tickOutWidth : Fld := ⟨0x10014, 0, 16⟩
def tickStatus : Fld := ⟨0x10018, 0, 3⟩
def tickCount : Fld := ⟨0x1001c, 0, 32⟩
def tickPoweredNsLo : Fld := ⟨0x10020, 0, 32⟩
def tickPoweredNsHi : Fld := ⟨0x10024, 0, 32⟩
def tsyncCtl : Fld := ⟨0x10028, 0, 2⟩
def tsyncCaptLo : Fld := ⟨0x1002c, 0, 32⟩
def tsyncCaptHi : Fld := ⟨0x10030, 0, 32⟩
def tsyncMiss : Fld := ⟨0x10034, 0, 16⟩
def tickFsyncErr : Fld := ⟨0x10038, 0, 16⟩
def tickOverrun : Fld := ⟨0x1003c, 0, 16⟩
def tickErr : Fld := ⟨0x10040, 0, 32⟩
def headCtlClk (h : Nat) : Fld := ⟨0x40000 + 0x10000 * h, 0, 1⟩
def headCtlRun (h : Nat) : Fld := ⟨0x40000 + 0x10000 * h, 1, 1⟩
def headCtlPwr (h : Nat) : Fld := ⟨0x40000 + 0x10000 * h, 2, 1⟩
def headCtlAuto (h : Nat) : Fld := ⟨0x40000 + 0x10000 * h, 3, 1⟩
def headColsCols (h : Nat) : Fld := ⟨0x40004 + 0x10000 * h, 0, 11⟩
def headColsBlind (h : Nat) : Fld := ⟨0x40004 + 0x10000 * h, 11, 7⟩
def headColsBlindPos (h : Nat) : Fld := ⟨0x40004 + 0x10000 * h, 18, 1⟩
def headRowsAct (h : Nat) : Fld := ⟨0x40008 + 0x10000 * h, 0, 11⟩
def headRowsBlank (h : Nat) : Fld := ⟨0x40008 + 0x10000 * h, 11, 8⟩
def headTapsNtap (h : Nat) : Fld := ⟨0x4000c + 0x10000 * h, 0, 2⟩
def headTapsMap (h : Nat) : Fld := ⟨0x4000c + 0x10000 * h, 2, 1⟩
def headCadDiv (h : Nat) : Fld := ⟨0x40010 + 0x10000 * h, 0, 7⟩
def headCadPhase (h : Nat) : Fld := ⟨0x40010 + 0x10000 * h, 8, 6⟩
def headClkMult (h : Nat) : Fld := ⟨0x40014 + 0x10000 * h, 0, 1⟩
def headClkPol (h : Nat) : Fld := ⟨0x40014 + 0x10000 * h, 1, 4⟩
def headSyncFsLead (h : Nat) : Fld := ⟨0x40018 + 0x10000 * h, 0, 8⟩
def headSyncPipeLat (h : Nat) : Fld := ⟨0x40018 + 0x10000 * h, 8, 6⟩
def headSyncLsWidth (h : Nat) : Fld := ⟨0x40018 + 0x10000 * h, 16, 4⟩
def headSyncFsWidth (h : Nat) : Fld := ⟨0x40018 + 0x10000 * h, 20, 4⟩
def headIntCtlMode (h : Nat) : Fld := ⟨0x4001c + 0x10000 * h, 0, 2⟩
def headIntWin (h : Nat) : Fld := ⟨0x40020 + 0x10000 * h, 0, 32⟩
def headRefCtlRefA (h : Nat) : Fld := ⟨0x40024 + 0x10000 * h, 0, 2⟩
def headRefCtlRefB (h : Nat) : Fld := ⟨0x40024 + 0x10000 * h, 2, 2⟩
def headRefCtlDiff (h : Nat) : Fld := ⟨0x40024 + 0x10000 * h, 4, 1⟩
def headRefCtlRefAcode (h : Nat) : Fld := ⟨0x40024 + 0x10000 * h, 16, 14⟩
def headRefWin (h : Nat) : Fld := ⟨0x40028 + 0x10000 * h, 0, 22⟩
def headRefStep (h : Nat) : Fld := ⟨0x4002c + 0x10000 * h, 0, 16⟩
def headRefL (h : Nat) (k : Nat) : Fld := ⟨0x40030 + 0x10000 * h + 0x4 * k, 0, 20⟩
def headFpaTT (h : Nat) : Fld := ⟨0x40080 + 0x10000 * h, 0, 20⟩
def headFpaTStaleRun (h : Nat) : Fld := ⟨0x40080 + 0x10000 * h, 20, 8⟩
def headFpaTStale (h : Nat) : Fld := ⟨0x40080 + 0x10000 * h, 31, 1⟩
def headBiasCode (h : Nat) (k : Nat) : Fld := ⟨0x40100 + 0x10000 * h + 0x4 * k, 0, 16⟩
def headBiasMax (h : Nat) (k : Nat) : Fld := ⟨0x40120 + 0x10000 * h + 0x4 * k, 0, 16⟩
def headBiasSlew (h : Nat) : Fld := ⟨0x40140 + 0x10000 * h, 0, 10⟩
def headPwrSettle (h : Nat) : Fld := ⟨0x40150 + 0x10000 * h, 0, 10⟩
def headStatusState (h : Nat) : Fld := ⟨0x40154 + 0x10000 * h, 0, 3⟩
def headStatusPresent (h : Nat) : Fld := ⟨0x40154 + 0x10000 * h, 3, 1⟩
def headStatusRowsCut (h : Nat) : Fld := ⟨0x40154 + 0x10000 * h, 8, 8⟩
def headNeed (h : Nat) : Fld := ⟨0x40158 + 0x10000 * h, 0, 16⟩
def headErr (h : Nat) : Fld := ⟨0x4015c + 0x10000 * h, 0, 32⟩
def afeSliceCtlInput (i : Nat) : Fld := ⟨0x80000 + 0x100 * i, 0, 6⟩
def afeSliceCtlRole (i : Nat) : Fld := ⟨0x80000 + 0x100 * i, 6, 2⟩
def afeSliceCtlBgcalEn (i : Nat) : Fld := ⟨0x80000 + 0x100 * i, 8, 1⟩
def afeSlicePhaseSphase (i : Nat) : Fld := ⟨0x80004 + 0x100 * i, 0, 6⟩
def afeSliceTrimGtrim (i : Nat) : Fld := ⟨0x80008 + 0x100 * i, 0, 8⟩
def afeSliceTrimCtrim (i : Nat) : Fld := ⟨0x80008 + 0x100 * i, 8, 6⟩
def afeSliceW (i : Nat) : Fld := ⟨0x8000c + 0x100 * i, 0, 20⟩
def afeSliceOffs (i : Nat) : Fld := ⟨0x80010 + 0x100 * i, 0, 16⟩
def afeSliceGerr (i : Nat) : Fld := ⟨0x80014 + 0x100 * i, 0, 16⟩
def afeSliceStatFailrun (i : Nat) : Fld := ⟨0x80018 + 0x100 * i, 0, 8⟩
def afeSliceStatPhaseOk (i : Nat) : Fld := ⟨0x80018 + 0x100 * i, 8, 1⟩
def afeSliceStatCompOk (i : Nat) : Fld := ⟨0x80018 + 0x100 * i, 9, 1⟩
def afeSliceStatFailing (i : Nat) : Fld := ⟨0x80018 + 0x100 * i, 10, 1⟩
def afeSliceStatCalAge (i : Nat) : Fld := ⟨0x80018 + 0x100 * i, 16, 16⟩
def afeSliceErrcnt (i : Nat) : Fld := ⟨0x8001c + 0x100 * i, 0, 16⟩
def afeSliceWin (i : Nat) : Fld := ⟨0x80020 + 0x100 * i, 0, 30⟩
def afeGrpCtlGain (g : Nat) : Fld := ⟨0xa0000 + 0x100 * g, 0, 3⟩
def afeGrpCtlAutoSwap (g : Nat) : Fld := ⟨0xa0000 + 0x100 * g, 3, 1⟩
def afeGrpCtlTrainAuto (g : Nat) : Fld := ⟨0xa0000 + 0x100 * g, 4, 1⟩
def afeGrpCtlTrimAt (g : Nat) : Fld := ⟨0xa0000 + 0x100 * g, 5, 1⟩
def afeGrpCalCalRows (g : Nat) : Fld := ⟨0xa0004 + 0x100 * g, 0, 2⟩
def afeGrpCalCalAvg (g : Nat) : Fld := ⟨0xa0004 + 0x100 * g, 8, 3⟩
def afeGrpCalFailLim (g : Nat) : Fld := ⟨0xa0004 + 0x100 * g, 12, 4⟩
def afeGrpLimOffLimOff (g : Nat) : Fld := ⟨0xa0008 + 0x100 * g, 0, 12⟩
def afeGrpLimOffLimOffStep (g : Nat) : Fld := ⟨0xa0008 + 0x100 * g, 16, 12⟩
def afeGrpLimGainLimGain (g : Nat) : Fld := ⟨0xa000c + 0x100 * g, 0, 13⟩
def afeGrpLimGainLimGainStep (g : Nat) : Fld := ⟨0xa000c + 0x100 * g, 16, 13⟩
def afeGrpLimWLimW (g : Nat) : Fld := ⟨0xa0010 + 0x100 * g, 0, 13⟩
def afeGrpLimWLimWStep (g : Nat) : Fld := ⟨0xa0010 + 0x100 * g, 16, 13⟩
def afeGrpTrainTrainRows (g : Nat) : Fld := ⟨0xa0014 + 0x100 * g, 0, 4⟩
def afeGrpTrainTrainTol (g : Nat) : Fld := ⟨0xa0014 + 0x100 * g, 4, 12⟩
def afeGrpTrainTrainMinw (g : Nat) : Fld := ⟨0xa0014 + 0x100 * g, 16, 6⟩
def afeGrpTrainTrainRef (g : Nat) : Fld := ⟨0xa0014 + 0x100 * g, 24, 6⟩
def afeGrpHardHardLim (g : Nat) : Fld := ⟨0xa0018 + 0x100 * g, 0, 4⟩
def afeGrpHardStuckEn (g : Nat) : Fld := ⟨0xa0018 + 0x100 * g, 4, 1⟩
def afeGrpStatSpares (g : Nat) : Fld := ⟨0xa001c + 0x100 * g, 0, 6⟩
def afeGrpStatTraining (g : Nat) : Fld := ⟨0xa001c + 0x100 * g, 6, 1⟩
def afeGrpStatTapLost (g : Nat) : Fld := ⟨0xa001c + 0x100 * g, 7, 1⟩
def afeGrpCmd (g : Nat) : Fld := ⟨0xa0020 + 0x100 * g, 0, 14⟩
def corrCtlNoisyBad (h : Nat) : Fld := ⟨0xc0000 + 0x10000 * h, 0, 1⟩
def corrCtlSuspectBad (h : Nat) : Fld := ⟨0xc0000 + 0x10000 * h, 1, 1⟩
def corrCtlSatRepl (h : Nat) : Fld := ⟨0xc0000 + 0x10000 * h, 2, 1⟩
def corrFmtEn (h : Nat) : Fld := ⟨0xc0004 + 0x10000 * h, 0, 5⟩
def corrFmtTemp16Lsb (h : Nat) : Fld := ⟨0xc0004 + 0x10000 * h, 5, 1⟩
def corrFmtNbuf (h : Nat) : Fld := ⟨0xc0004 + 0x10000 * h, 8, 5⟩
def corrPfLead (h : Nat) : Fld := ⟨0xc0008 + 0x10000 * h, 0, 3⟩
def corrBadConst (h : Nat) : Fld := ⟨0xc000c + 0x10000 * h, 0, 16⟩
def corrOutLo (h : Nat) (f : Nat) : Fld := ⟨0xc0010 + 0x10000 * h + 0x8 * f, 0, 32⟩
def corrOutHi (h : Nat) (f : Nat) : Fld := ⟨0xc0014 + 0x10000 * h + 0x8 * f, 0, 32⟩
def corrLstatLo (h : Nat) : Fld := ⟨0xc0038 + 0x10000 * h, 0, 32⟩
def corrLstatHi (h : Nat) : Fld := ⟨0xc003c + 0x10000 * h, 0, 32⟩
def corrBankRecLo (h : Nat) (b : Nat) : Fld := ⟨0xc0040 + 0x10000 * h + 0x20 * b, 0, 32⟩
def corrBankRecHi (h : Nat) (b : Nat) : Fld := ⟨0xc0044 + 0x10000 * h + 0x20 * b, 0, 32⟩
def corrBankLutLo (h : Nat) (b : Nat) : Fld := ⟨0xc0048 + 0x10000 * h + 0x20 * b, 0, 32⟩
def corrBankLutHi (h : Nat) (b : Nat) : Fld := ⟨0xc004c + 0x10000 * h + 0x20 * b, 0, 32⟩
def corrBankGen (h : Nat) (b : Nat) : Fld := ⟨0xc0050 + 0x10000 * h + 0x20 * b, 0, 16⟩
def corrBankTcal (h : Nat) (b : Nat) : Fld := ⟨0xc0054 + 0x10000 * h + 0x20 * b, 0, 20⟩
def corrActiveBank (h : Nat) : Fld := ⟨0xc0080 + 0x10000 * h, 0, 1⟩
def corrActiveGen (h : Nat) : Fld := ⟨0xc0080 + 0x10000 * h, 16, 16⟩
def corrRadCtlEmap (h : Nat) : Fld := ⟨0xc0084 + 0x10000 * h, 0, 1⟩
def corrLoff (h : Nat) : Fld := ⟨0xc0088 + 0x10000 * h, 0, 24⟩
def corrInvEps (h : Nat) : Fld := ⟨0xc008c + 0x10000 * h, 0, 24⟩
def corrStatusShortLead (h : Nat) : Fld := ⟨0xc0090 + 0x10000 * h, 0, 1⟩
def corrStatusDriftRange (h : Nat) : Fld := ⟨0xc0090 + 0x10000 * h, 1, 1⟩
def corrLatePix (h : Nat) : Fld := ⟨0xc0094 + 0x10000 * h, 0, 32⟩
def corrLateRows (h : Nat) : Fld := ⟨0xc0098 + 0x10000 * h, 0, 16⟩
def corrGenMiss (h : Nat) : Fld := ⟨0xc009c + 0x10000 * h, 0, 16⟩
def corrRecEcc (h : Nat) : Fld := ⟨0xc00a0 + 0x10000 * h, 0, 16⟩
def corrSatPix (h : Nat) : Fld := ⟨0xc00a4 + 0x10000 * h, 0, 32⟩
def corrRadClamp (h : Nat) : Fld := ⟨0xc00a8 + 0x10000 * h, 0, 32⟩
def corrErr (h : Nat) : Fld := ⟨0xc00fc + 0x10000 * h, 0, 32⟩
def calCtlAuto (h : Nat) : Fld := ⟨0x100000 + 0x100 * h, 0, 1⟩
def calCtlMode (h : Nat) : Fld := ⟨0x100000 + 0x100 * h, 1, 1⟩
def calCtlDriftEn (h : Nat) : Fld := ⟨0x100000 + 0x100 * h, 2, 1⟩
def calCtlLrMode (h : Nat) : Fld := ⟨0x100000 + 0x100 * h, 3, 1⟩
def calCtlTshSrc (h : Nat) : Fld := ⟨0x100000 + 0x100 * h, 4, 1⟩
def calCtlDriftShift (h : Nat) : Fld := ⟨0x100000 + 0x100 * h, 5, 3⟩
def calCtlAposReq (h : Nat) : Fld := ⟨0x100000 + 0x100 * h, 8, 1⟩
def calFramesNavg (h : Nat) : Fld := ⟨0x100004 + 0x100 * h, 0, 5⟩
def calFramesSettle (h : Nat) : Fld := ⟨0x100004 + 0x100 * h, 8, 4⟩
def calFramesOpenSettle (h : Nat) : Fld := ⟨0x100004 + 0x100 * h, 16, 4⟩
def calFramesAbandonHold (h : Nat) : Fld := ⟨0x100004 + 0x100 * h, 24, 4⟩
def calProfClose (h : Nat) : Fld := ⟨0x100008 + 0x100 * h, 0, 2⟩
def calProfOpen (h : Nat) : Fld := ⟨0x100008 + 0x100 * h, 4, 2⟩
def calTrigInterval (h : Nat) : Fld := ⟨0x10000c + 0x100 * h, 0, 16⟩
def calTrigTrigDt (h : Nat) : Fld := ⟨0x10000c + 0x100 * h, 16, 16⟩
def calMinGap (h : Nat) : Fld := ⟨0x100010 + 0x100 * h, 0, 16⟩
def calLimStep (h : Nat) : Fld := ⟨0x100014 + 0x100 * h, 0, 14⟩
def calLimFail (h : Nat) : Fld := ⟨0x100018 + 0x100 * h, 0, 16⟩
def calLimMean (h : Nat) : Fld := ⟨0x10001c + 0x100 * h, 0, 16⟩
def calLimDt (h : Nat) : Fld := ⟨0x100020 + 0x100 * h, 0, 16⟩
def calDriftMinDt (h : Nat) : Fld := ⟨0x100024 + 0x100 * h, 0, 16⟩
def calShutT (h : Nat) : Fld := ⟨0x100028 + 0x100 * h, 0, 20⟩
def calAccLo (h : Nat) : Fld := ⟨0x100030 + 0x100 * h, 0, 32⟩
def calAccHi (h : Nat) : Fld := ⟨0x100034 + 0x100 * h, 0, 32⟩
def calRespLo (h : Nat) : Fld := ⟨0x100038 + 0x100 * h, 0, 32⟩
def calRespHi (h : Nat) : Fld := ⟨0x10003c + 0x100 * h, 0, 32⟩
def calGoldLo (h : Nat) : Fld := ⟨0x100040 + 0x100 * h, 0, 32⟩
def calGoldHi (h : Nat) : Fld := ⟨0x100044 + 0x100 * h, 0, 32⟩
def calLastTT (h : Nat) : Fld := ⟨0x100048 + 0x100 * h, 0, 20⟩
def calLastTValid (h : Nat) : Fld := ⟨0x100048 + 0x100 * h, 31, 1⟩
def calStatusState (h : Nat) : Fld := ⟨0x10004c + 0x100 * h, 0, 3⟩
def calStatusPending (h : Nat) : Fld := ⟨0x10004c + 0x100 * h, 3, 1⟩
def calStatusBank0Valid (h : Nat) : Fld := ⟨0x10004c + 0x100 * h, 4, 1⟩
def calStatusBank1Valid (h : Nat) : Fld := ⟨0x10004c + 0x100 * h, 5, 1⟩
def calStatusLock (h : Nat) : Fld := ⟨0x10004c + 0x100 * h, 6, 1⟩
def calStatusLastResult (h : Nat) : Fld := ⟨0x10004c + 0x100 * h, 8, 4⟩
def calStatusRestarts (h : Nat) : Fld := ⟨0x10004c + 0x100 * h, 12, 2⟩
def calCmd (h : Nat) : Fld := ⟨0x100050 + 0x100 * h, 0, 32⟩
def calEvents (h : Nat) : Fld := ⟨0x100054 + 0x100 * h, 0, 16⟩
def calRefused (h : Nat) : Fld := ⟨0x100058 + 0x100 * h, 0, 16⟩
def calFailpix (h : Nat) : Fld := ⟨0x10005c + 0x100 * h, 0, 32⟩
def calRepairs (h : Nat) : Fld := ⟨0x100060 + 0x100 * h, 0, 16⟩
def calErr (h : Nat) : Fld := ⟨0x1000fc + 0x100 * h, 0, 32⟩
def actChCtlEn (c : Nat) : Fld := ⟨0x110000 + 0x100 * c, 0, 1⟩
def actChCtlPosEn (c : Nat) : Fld := ⟨0x110000 + 0x100 * c, 1, 1⟩
def actChCtlPosPol (c : Nat) : Fld := ⟨0x110000 + 0x100 * c, 2, 1⟩
def actChCtlDir (c : Nat) : Fld := ⟨0x110000 + 0x100 * c, 3, 1⟩
def actChIlim (c : Nat) : Fld := ⟨0x110004 + 0x100 * c, 0, 10⟩
def actChMinoff (c : Nat) : Fld := ⟨0x110008 + 0x100 * c, 0, 16⟩
def actChBudget (c : Nat) : Fld := ⟨0x11000c + 0x100 * c, 0, 23⟩
def actChWindow (c : Nat) : Fld := ⟨0x110010 + 0x100 * c, 0, 7⟩
def actChSlotlen (c : Nat) : Fld := ⟨0x110014 + 0x100 * c, 0, 16⟩
def actChPosdeb (c : Nat) : Fld := ⟨0x110018 + 0x100 * c, 0, 14⟩
def actChStatState (c : Nat) : Fld := ⟨0x110020 + 0x100 * c, 0, 3⟩
def actChStatPhase (c : Nat) : Fld := ⟨0x110020 + 0x100 * c, 3, 3⟩
def actChStatSlot (c : Nat) : Fld := ⟨0x110020 + 0x100 * c, 6, 2⟩
def actChStatPos (c : Nat) : Fld := ⟨0x110020 + 0x100 * c, 8, 1⟩
def actChStatRsv (c : Nat) : Fld := ⟨0x110020 + 0x100 * c, 9, 1⟩
def actChStatFault (c : Nat) : Fld := ⟨0x110020 + 0x100 * c, 12, 3⟩
def actChI (c : Nat) : Fld := ⟨0x110024 + 0x100 * c, 0, 11⟩
def actChUsed (c : Nat) : Fld := ⟨0x110028 + 0x100 * c, 0, 24⟩
def actChCount (c : Nat) : Fld := ⟨0x11002c + 0x100 * c, 0, 32⟩
def actChFaults (c : Nat) : Fld := ⟨0x110030 + 0x100 * c, 0, 16⟩
def actChCmd (c : Nat) : Fld := ⟨0x110034 + 0x100 * c, 0, 9⟩
def actChPhase (c : Nat) (s : Nat) (p : Nat) : Fld := ⟨0x110080 + 0x100 * c + 0x20 * s + 0x4 * p, 0, 30⟩
def actTotalLim : Fld := ⟨0x110800, 0, 12⟩
def actVact : Fld := ⟨0x110804, 0, 16⟩
def actErr : Fld := ⟨0x1108fc, 0, 32⟩
def engMireCtlEn (m : Nat) : Fld := ⟨0x120000 + 0x10000 * m, 0, 1⟩
def engMireCtlSpares (m : Nat) : Fld := ⟨0x120000 + 0x10000 * m, 1, 5⟩
def engMireImgLo (m : Nat) : Fld := ⟨0x120004 + 0x10000 * m, 0, 32⟩
def engMireImgHi (m : Nat) : Fld := ⟨0x120008 + 0x10000 * m, 0, 32⟩
def engMireProgId (m : Nat) : Fld := ⟨0x12000c + 0x10000 * m, 0, 16⟩
def engMireStatState (m : Nat) : Fld := ⟨0x120010 + 0x10000 * m, 0, 2⟩
def engMireStatFreeSpares (m : Nat) : Fld := ⟨0x120010 + 0x10000 * m, 2, 5⟩
def engMireStatRetired (m : Nat) : Fld := ⟨0x120010 + 0x10000 * m, 7, 5⟩
def engMireCmd (m : Nat) : Fld := ⟨0x120014 + 0x10000 * m, 0, 13⟩
def engEngRole (m : Nat) (j : Nat) : Fld := ⟨0x120020 + 0x10000 * m + 0x4 * j, 0, 2⟩
def engEngCause (m : Nat) (j : Nat) : Fld := ⟨0x120020 + 0x10000 * m + 0x4 * j, 4, 4⟩
def engEngTiles (m : Nat) (j : Nat) : Fld := ⟨0x120020 + 0x10000 * m + 0x4 * j, 8, 8⟩
def engMireFaults (m : Nat) : Fld := ⟨0x120080 + 0x10000 * m, 0, 16⟩
def engMireRestarts (m : Nat) : Fld := ⟨0x120084 + 0x10000 * m, 0, 16⟩
def engMireBusy (m : Nat) : Fld := ⟨0x120088 + 0x10000 * m, 0, 32⟩
def engMireErr (m : Nat) : Fld := ⟨0x1200fc + 0x10000 * m, 0, 32⟩
def engCtlEn : Fld := ⟨0x128000, 0, 1⟩
def engCtlFreq : Fld := ⟨0x128000, 1, 2⟩
def engTaskBaseLo : Fld := ⟨0x128004, 0, 32⟩
def engTaskBaseHi : Fld := ⟨0x128008, 0, 32⟩
def engTaskCnt : Fld := ⟨0x12800c, 0, 7⟩
def engSchedLoad : Fld := ⟨0x128010, 0, 14⟩
def engParked : Fld := ⟨0x128014, 0, 8⟩
def engStale : Fld := ⟨0x128018, 0, 16⟩
def engStaleMaskLo : Fld := ⟨0x12801c, 0, 32⟩
def engStaleMaskHi : Fld := ⟨0x128020, 0, 32⟩
def engBcastSrcLo : Fld := ⟨0x128024, 0, 32⟩
def engBcastSrcHi : Fld := ⟨0x128028, 0, 32⟩
def engBcastOff : Fld := ⟨0x12802c, 0, 20⟩
def engBcastLen : Fld := ⟨0x128030, 0, 21⟩
def engBcastGo : Fld := ⟨0x128034, 0, 8⟩
def engErr : Fld := ⟨0x1280fc, 0, 32⟩
def vidHeadCtlEn (h : Nat) : Fld := ⟨0x1a0000 + 0x100 * h, 0, 1⟩
def vidHeadCtlInput (h : Nat) : Fld := ⟨0x1a0000 + 0x100 * h, 1, 1⟩
def vidHeadCtlTxEn (h : Nat) : Fld := ⟨0x1a0000 + 0x100 * h, 2, 1⟩
def vidHeadCtlTxFmt (h : Nat) : Fld := ⟨0x1a0000 + 0x100 * h, 3, 2⟩
def vidHeadCtlMeta (h : Nat) : Fld := ⟨0x1a0000 + 0x100 * h, 5, 1⟩
def vidToneMode (h : Nat) : Fld := ⟨0x1a0004 + 0x100 * h, 0, 2⟩
def vidTonePal (h : Nat) : Fld := ⟨0x1a0004 + 0x100 * h, 4, 3⟩
def vidToneSmooth (h : Nat) : Fld := ⟨0x1a0004 + 0x100 * h, 8, 4⟩
def vidToneWin (h : Nat) : Fld := ⟨0x1a0008 + 0x100 * h, 0, 32⟩
def vidTonePct (h : Nat) : Fld := ⟨0x1a000c + 0x100 * h, 0, 26⟩
def vidToneLim (h : Nat) : Fld := ⟨0x1a0010 + 0x100 * h, 0, 32⟩
def vidLayerEn (h : Nat) : Fld := ⟨0x1a0014 + 0x100 * h, 1, 4⟩
def vidLayerCtlDrop (h : Nat) : Fld := ⟨0x1a0014 + 0x100 * h, 9, 4⟩
def vidL1 (h : Nat) : Fld := ⟨0x1a0018 + 0x100 * h, 0, 32⟩
def vidL3Lo (h : Nat) : Fld := ⟨0x1a001c + 0x100 * h, 0, 32⟩
def vidL3Hi (h : Nat) : Fld := ⟨0x1a0020 + 0x100 * h, 0, 32⟩
def vidL4Cnt (h : Nat) : Fld := ⟨0x1a0024 + 0x100 * h, 0, 9⟩
def vidL4BaseLo (h : Nat) : Fld := ⟨0x1a0028 + 0x100 * h, 0, 32⟩
def vidL4BaseHi (h : Nat) : Fld := ⟨0x1a002c + 0x100 * h, 0, 32⟩
def vidL3StageLo (h : Nat) : Fld := ⟨0x1a0030 + 0x100 * h, 0, 32⟩
def vidL3StageHi (h : Nat) : Fld := ⟨0x1a0034 + 0x100 * h, 0, 32⟩
def vidDispLo (h : Nat) : Fld := ⟨0x1a0038 + 0x100 * h, 0, 32⟩
def vidDispHi (h : Nat) : Fld := ⟨0x1a003c + 0x100 * h, 0, 32⟩
def vidL2Color (h : Nat) (i : Nat) : Fld := ⟨0x1a0040 + 0x100 * h + 0x4 * i, 0, 32⟩
def vidHeadStatStale (h : Nat) : Fld := ⟨0x1a0080 + 0x100 * h, 0, 4⟩
def vidHeadStatInline (h : Nat) : Fld := ⟨0x1a0080 + 0x100 * h, 4, 1⟩
def vidLateCnt (h : Nat) : Fld := ⟨0x1a0084 + 0x100 * h, 0, 16⟩
def vidCtlEn : Fld := ⟨0x1a0800, 0, 1⟩
def vidCtlInline : Fld := ⟨0x1a0800, 1, 2⟩
def vidCtlInlineEn : Fld := ⟨0x1a0800, 3, 1⟩
def vidCtlLostFallback : Fld := ⟨0x1a0800, 4, 1⟩
def vidLoad : Fld := ⟨0x1a0804, 0, 14⟩
def vidErr : Fld := ⟨0x1a08fc, 0, 32⟩
def vidRxCtlEn : Fld := ⟨0x1a0900, 0, 1⟩
def vidRxCtlLanes : Fld := ⟨0x1a0900, 1, 2⟩
def vidRxCtlVc : Fld := ⟨0x1a0900, 3, 4⟩
def vidRxCtlDt : Fld := ⟨0x1a0900, 7, 3⟩
def vidRxCtlPattern : Fld := ⟨0x1a0900, 10, 3⟩
def vidRxCtlPh : Fld := ⟨0x1a0900, 13, 4⟩
def vidRxSize : Fld := ⟨0x1a0904, 0, 29⟩
def vidRxRate : Fld := ⟨0x1a0908, 0, 12⟩
def vidRxBl01 : Fld := ⟨0x1a090c, 0, 32⟩
def vidRxBl23 : Fld := ⟨0x1a0910, 0, 32⟩
def vidRxM (k : Nat) : Fld := ⟨0x1a0914 + 0x4 * k, 0, 32⟩
def vidFusAff (k : Nat) : Fld := ⟨0x1a092c + 0x4 * k, 0, 32⟩
def vidLumaLo : Fld := ⟨0x1a0944, 0, 32⟩
def vidLumaHi : Fld := ⟨0x1a0948, 0, 32⟩
def vidRxFusHead : Fld := ⟨0x1a094c, 0, 2⟩
def vidRxFusTimeout : Fld := ⟨0x1a094c, 8, 8⟩
def vidRxEcc : Fld := ⟨0x1a0950, 0, 16⟩
def vidRxDrop : Fld := ⟨0x1a0954, 0, 16⟩
def vidRxCrc : Fld := ⟨0x1a0958, 0, 16⟩
def vidRxDiscard : Fld := ⟨0x1a095c, 0, 16⟩
def vidRxStat : Fld := ⟨0x1a0960, 0, 2⟩
def vidTxCtlEn : Fld := ⟨0x1a0a00, 0, 1⟩
def vidTxCtlContClk : Fld := ⟨0x1a0a00, 1, 1⟩
def vidTxCtlLsle : Fld := ⟨0x1a0a00, 2, 1⟩
def vidTxCtlVcBase : Fld := ⟨0x1a0a00, 3, 4⟩
def vidTxRate : Fld := ⟨0x1a0a04, 0, 12⟩
def vidTxLoad : Fld := ⟨0x1a0a08, 0, 14⟩
def memCtlScrubEn : Fld := ⟨0x1b0000, 0, 1⟩
def memCtlInherit : Fld := ⟨0x1b0000, 1, 1⟩
def memCtlRebal : Fld := ⟨0x1b0000, 2, 1⟩
def memArbSeed : Fld := ⟨0x1b0004, 0, 32⟩
def memArbEtkt : Fld := ⟨0x1b0008, 0, 4⟩
def memReqRst : Fld := ⟨0x1b000c, 0, 16⟩
def memArbTickets (i : Nat) : Fld := ⟨0x1b0010 + 0x4 * i, 0, 8⟩
def memArbStarveLim (i : Nat) : Fld := ⟨0x1b0050 + 0x4 * i, 0, 16⟩
def memArbStarveStat : Fld := ⟨0x1b0090, 0, 16⟩
def memArbDeficit : Fld := ⟨0x1b0094, 0, 4⟩
def memRefreshRate : Fld := ⟨0x1b0098, 0, 2⟩
def memArbStarveCnt (i : Nat) : Fld := ⟨0x1b00a0 + 0x4 * i, 0, 16⟩
def memArbGrants (i : Nat) : Fld := ⟨0x1b00e0 + 0x4 * i, 0, 32⟩
def memAdmitShare (h : Nat) : Fld := ⟨0x1b0120 + 0x4 * h, 0, 16⟩
def memCeCnt : Fld := ⟨0x1b0130, 0, 32⟩
def memUeCnt : Fld := ⟨0x1b0134, 0, 16⟩
def memEccAddrLo : Fld := ⟨0x1b0138, 0, 32⟩
def memEccAddrHi : Fld := ⟨0x1b013c, 0, 32⟩
def memScrubPass : Fld := ⟨0x1b0140, 0, 16⟩
def memScrubTpass : Fld := ⟨0x1b0144, 0, 16⟩
def memOorCnt : Fld := ⟨0x1b014c, 0, 16⟩
def memOorReq : Fld := ⟨0x1b014c, 16, 4⟩
def memOorAddrLo : Fld := ⟨0x1b0150, 0, 32⟩
def memOorAddrHi : Fld := ⟨0x1b0154, 0, 32⟩
def memRgnLo (k : Nat) : Fld := ⟨0x1b0200 + 0x10 * k, 0, 32⟩
def memRgnHi (k : Nat) : Fld := ⟨0x1b0204 + 0x10 * k, 0, 32⟩
def memRgnLen (k : Nat) : Fld := ⟨0x1b0208 + 0x10 * k, 0, 32⟩
def memRgnKind (k : Nat) : Fld := ⟨0x1b020c + 0x10 * k, 0, 2⟩
def memErr : Fld := ⟨0x1b0ffc, 0, 32⟩
def dmaChCfgEn (c : Nat) : Fld := ⟨0x1c0000 + 0x40 * c, 0, 1⟩
def dmaChCfgPrio (c : Nat) : Fld := ⟨0x1c0000 + 0x40 * c, 1, 2⟩
def dmaChCfgCq (c : Nat) : Fld := ⟨0x1c0000 + 0x40 * c, 4, 3⟩
def dmaChHeadLo (c : Nat) : Fld := ⟨0x1c0004 + 0x40 * c, 0, 32⟩
def dmaChHeadHi (c : Nat) : Fld := ⟨0x1c0008 + 0x40 * c, 0, 32⟩
def dmaChDb (c : Nat) : Fld := ⟨0x1c000c + 0x40 * c, 0, 32⟩
def dmaChCmd (c : Nat) : Fld := ⟨0x1c0010 + 0x40 * c, 0, 2⟩
def dmaChStatState (c : Nat) : Fld := ⟨0x1c0014 + 0x40 * c, 0, 3⟩
def dmaChStatDbpend (c : Nat) : Fld := ⟨0x1c0014 + 0x40 * c, 3, 1⟩
def dmaChStatCode (c : Nat) : Fld := ⟨0x1c0014 + 0x40 * c, 8, 4⟩
def dmaChStatCause (c : Nat) : Fld := ⟨0x1c0014 + 0x40 * c, 12, 8⟩
def dmaChCurLo (c : Nat) : Fld := ⟨0x1c0018 + 0x40 * c, 0, 32⟩
def dmaChCurHi (c : Nat) : Fld := ⟨0x1c001c + 0x40 * c, 0, 32⟩
def dmaChResid (c : Nat) : Fld := ⟨0x1c0020 + 0x40 * c, 0, 32⟩
def dmaChCmpLo (c : Nat) : Fld := ⟨0x1c0024 + 0x40 * c, 0, 32⟩
def dmaChCmpHi (c : Nat) : Fld := ⟨0x1c0028 + 0x40 * c, 0, 32⟩
def dmaChDescCnt (c : Nat) : Fld := ⟨0x1c002c + 0x40 * c, 0, 32⟩
def dmaCtlEn : Fld := ⟨0x1c0800, 0, 1⟩
def dmaStatHalt : Fld := ⟨0x1c0804, 0, 1⟩
def dmaStatHaltCause : Fld := ⟨0x1c0804, 1, 3⟩
def dmaStatRunning : Fld := ⟨0x1c0804, 8, 4⟩
def dmaStatBusy : Fld := ⟨0x1c0804, 12, 1⟩
def dmaOwn : Fld := ⟨0x1c0808, 0, 16⟩
def dmaHaltClr : Fld := ⟨0x1c080c, 0, 1⟩
def dmaErrAddrLo : Fld := ⟨0x1c0810, 0, 32⟩
def dmaErrAddrHi : Fld := ⟨0x1c0814, 0, 32⟩
def dmaHaltCnt : Fld := ⟨0x1c0818, 0, 16⟩
def dmaErr : Fld := ⟨0x1c08fc, 0, 32⟩
def hostSqBaseLo (q : Nat) : Fld := ⟨0x1d0000 + 0x20 * q, 0, 32⟩
def hostSqBaseHi (q : Nat) : Fld := ⟨0x1d0004 + 0x20 * q, 0, 32⟩
def hostSqCfgEn (q : Nat) : Fld := ⟨0x1d0008 + 0x20 * q, 0, 1⟩
def hostSqCfgLog2 (q : Nat) : Fld := ⟨0x1d0008 + 0x20 * q, 1, 4⟩
def hostSqCfgCq (q : Nat) : Fld := ⟨0x1d0008 + 0x20 * q, 8, 3⟩
def hostSqHead (q : Nat) : Fld := ⟨0x1d000c + 0x20 * q, 0, 12⟩
def hostSqErr (q : Nat) : Fld := ⟨0x1d000c + 0x20 * q, 16, 1⟩
def hostSqTail (q : Nat) : Fld := ⟨0x1d0010 + 0x20 * q, 0, 12⟩
def hostCqBaseLo (c : Nat) : Fld := ⟨0x1d0100 + 0x20 * c, 0, 32⟩
def hostCqBaseHi (c : Nat) : Fld := ⟨0x1d0104 + 0x20 * c, 0, 32⟩
def hostCqCfgEn (c : Nat) : Fld := ⟨0x1d0108 + 0x20 * c, 0, 1⟩
def hostCqCfgLog2 (c : Nat) : Fld := ⟨0x1d0108 + 0x20 * c, 1, 4⟩
def hostCqCfgVec (c : Nat) : Fld := ⟨0x1d0108 + 0x20 * c, 5, 6⟩
def hostCqCoal (c : Nat) : Fld := ⟨0x1d010c + 0x20 * c, 0, 26⟩
def hostCqTail (c : Nat) : Fld := ⟨0x1d0110 + 0x20 * c, 0, 12⟩
def hostCqHead (c : Nat) : Fld := ⟨0x1d0114 + 0x20 * c, 0, 12⟩
def hostCqStall (c : Nat) : Fld := ⟨0x1d0118 + 0x20 * c, 0, 16⟩
def hostDqOvf (d : Nat) : Fld := ⟨0x1d0318 + 0x20 * d, 0, 16⟩
def hostCtlEn : Fld := ⟨0x1d0400, 0, 1⟩
def hostBar4Win : Fld := ⟨0x1d0404, 0, 3⟩
def hostLink : Fld := ⟨0x1d0408, 0, 9⟩
def hostEvtLost : Fld := ⟨0x1d040c, 0, 16⟩
def hostEvtSeq : Fld := ⟨0x1d0410, 0, 16⟩
def hostMbxSub (w : Nat) : Fld := ⟨0x1d0800 + 0x4 * w, 0, 32⟩
def hostMbxGo : Fld := ⟨0x1d0840, 0, 1⟩
def hostMbxCpl (w : Nat) : Fld := ⟨0x1d0844 + 0x4 * w, 0, 32⟩
def hostMbxStat : Fld := ⟨0x1d0854, 0, 3⟩
def hostMbxEvt (w : Nat) : Fld := ⟨0x1d0858 + 0x4 * w, 0, 32⟩
def hostErr : Fld := ⟨0x1d0ffc, 0, 32⟩
def spiMgmtCfgRelmode : Fld := ⟨0x1e0000, 0, 1⟩
def spiMgmtPage : Fld := ⟨0x1e0004, 0, 16⟩
def spiMgmtStat : Fld := ⟨0x1e0008, 0, 4⟩
def spiMgmtStatSellow : Fld := ⟨0x1e0008, 4, 1⟩
def spiMgmtFrames : Fld := ⟨0x1e000c, 0, 32⟩
def spiMgmtRej : Fld := ⟨0x1e0010, 0, 16⟩
def spiMgmtTimeouts : Fld := ⟨0x1e0014, 0, 16⟩
def spiHlCfgEn (n : Nat) : Fld := ⟨0x1e0100 + 0x40 * n, 0, 1⟩
def spiHlCfgMode (n : Nat) : Fld := ⟨0x1e0100 + 0x40 * n, 1, 2⟩
def spiHlCfgDiv (n : Nat) : Fld := ⟨0x1e0100 + 0x40 * n, 3, 10⟩
def spiHlCfgLead (n : Nat) : Fld := ⟨0x1e0100 + 0x40 * n, 13, 4⟩
def spiHlCfgLag (n : Nat) : Fld := ⟨0x1e0100 + 0x40 * n, 17, 4⟩
def spiHlCfgIdle (n : Nat) : Fld := ⟨0x1e0100 + 0x40 * n, 21, 4⟩
def spiHlCfgSelPol (n : Nat) : Fld := ⟨0x1e0100 + 0x40 * n, 25, 2⟩
def spiHlAttqLo (n : Nat) : Fld := ⟨0x1e0104 + 0x40 * n, 0, 32⟩
def spiHlAttqHi (n : Nat) : Fld := ⟨0x1e0108 + 0x40 * n, 0, 32⟩
def spiHlAttqCnt (n : Nat) : Fld := ⟨0x1e010c + 0x40 * n, 0, 16⟩
def spiHlQaddrLo (n : Nat) : Fld := ⟨0x1e0110 + 0x40 * n, 0, 32⟩
def spiHlQaddrHi (n : Nat) : Fld := ⟨0x1e0114 + 0x40 * n, 0, 32⟩
def spiHlQcnt (n : Nat) : Fld := ⟨0x1e0118 + 0x40 * n, 0, 16⟩
def spiHlQgo (n : Nat) : Fld := ⟨0x1e011c + 0x40 * n, 0, 2⟩
def spiHlStatState (n : Nat) : Fld := ⟨0x1e0120 + 0x40 * n, 0, 2⟩
def spiHlStatCause (n : Nat) : Fld := ⟨0x1e0120 + 0x40 * n, 8, 8⟩
def spiHlStatEntry (n : Nat) : Fld := ⟨0x1e0120 + 0x40 * n, 16, 16⟩
def spiHlWords (n : Nat) : Fld := ⟨0x1e0124 + 0x40 * n, 0, 32⟩
def spiFlCfgEn : Fld := ⟨0x1e0800, 0, 1⟩
def spiFlCfgDiv : Fld := ⟨0x1e0800, 1, 8⟩
def spiFlCfgRddly : Fld := ⟨0x1e0800, 9, 6⟩
def spiFlCfgSize : Fld := ⟨0x1e0800, 15, 5⟩
def spiFlCfgXipEn : Fld := ⟨0x1e0800, 20, 1⟩
def spiFlXipFmt : Fld := ⟨0x1e0804, 0, 19⟩
def spiFlXipCmd : Fld := ⟨0x1e0808, 0, 16⟩
def spiFlXipMode : Fld := ⟨0x1e080c, 0, 17⟩
def spiFlFmt : Fld := ⟨0x1e0810, 0, 19⟩
def spiFlCmd : Fld := ⟨0x1e0814, 0, 16⟩
def spiFlAddr : Fld := ⟨0x1e0818, 0, 32⟩
def spiFlLen : Fld := ⟨0x1e081c, 0, 9⟩
def spiFlGo : Fld := ⟨0x1e0820, 0, 2⟩
def spiFlPollFmt : Fld := ⟨0x1e0824, 0, 19⟩
def spiFlPoll : Fld := ⟨0x1e0828, 0, 32⟩
def spiFlStat : Fld := ⟨0x1e082c, 0, 4⟩
def spiFlStatCause : Fld := ⟨0x1e082c, 8, 4⟩
def spiFlStatSfdp : Fld := ⟨0x1e082c, 16, 1⟩
def spiFlStatSfdpMinor : Fld := ⟨0x1e082c, 24, 8⟩
def spiFlBuf (k : Nat) : Fld := ⟨0x1e0900 + 0x4 * k, 0, 32⟩
def spiErr : Fld := ⟨0x1e0ffc, 0, 32⟩
def thermCtlLearn : Fld := ⟨0x1f0000, 0, 1⟩
def thermWarn : Fld := ⟨0x1f0004, 0, 13⟩
def thermThrot : Fld := ⟨0x1f0008, 0, 13⟩
def thermHyst : Fld := ⟨0x1f000c, 0, 8⟩
def thermRise : Fld := ⟨0x1f0010, 0, 10⟩
def thermMask : Fld := ⟨0x1f0014, 0, 16⟩
def thermTimeStepMs : Fld := ⟨0x1f0018, 0, 10⟩
def thermTimeRecovMs : Fld := ⟨0x1f0018, 16, 10⟩
def thermCapHost : Fld := ⟨0x1f001c, 0, 14⟩
def thermCap : Fld := ⟨0x1f0020, 0, 14⟩
def thermStat : Fld := ⟨0x1f0024, 0, 5⟩
def thermFail : Fld := ⟨0x1f0028, 0, 16⟩
def thermTs (k : Nat) : Fld := ⟨0x1f0040 + 0x4 * k, 0, 13⟩
def thermMax (k : Nat) : Fld := ⟨0x1f0080 + 0x4 * k, 0, 13⟩
def thermThrotCnt : Fld := ⟨0x1f00c0, 0, 16⟩
def thermShutdowns : Fld := ⟨0x1f00c4, 0, 16⟩
def thermCmpBg (i : Nat) : Fld := ⟨0x1f0100 + 0x4 * i, 0, 16⟩
def thermCmpAdcI (g : Nat) (i : Nat) : Fld := ⟨0x1f0140 + 0x40 * g + 0x4 * i, 0, 16⟩
def thermCmpOsc (i : Nat) : Fld := ⟨0x1f0240 + 0x4 * i, 0, 16⟩
def thermCmpGo : Fld := ⟨0x1f0280, 0, 6⟩
def thermErr : Fld := ⟨0x1f0ffc, 0, 32⟩
def peatCtlPfailEn : Fld := ⟨0x200000, 0, 1⟩
def peatHoldMin : Fld := ⟨0x200004, 0, 13⟩
def peatAuto : Fld := ⟨0x200008, 0, 16⟩
def peatVhold : Fld := ⟨0x20000c, 0, 13⟩
def peatStat : Fld := ⟨0x200010, 0, 7⟩
def peatCmd : Fld := ⟨0x200014, 0, 7⟩
def peatKeyLo : Fld := ⟨0x200018, 0, 32⟩
def peatKeyHi : Fld := ⟨0x20001c, 0, 32⟩
def peatPwnewLo : Fld := ⟨0x200020, 0, 32⟩
def peatPwnewHi : Fld := ⟨0x200024, 0, 32⟩
def peatAddr : Fld := ⟨0x200028, 0, 18⟩
def peatData : Fld := ⟨0x20002c, 0, 32⟩
def peatUnlock : Fld := ⟨0x200030, 0, 8⟩
def peatRefused : Fld := ⟨0x200034, 0, 16⟩
def peatPwfail : Fld := ⟨0x200038, 0, 16⟩
def peatRecallUe : Fld := ⟨0x20003c, 0, 16⟩
def peatCe : Fld := ⟨0x200040, 0, 32⟩
def peatUe : Fld := ⟨0x200044, 0, 16⟩
def peatLogLost : Fld := ⟨0x200048, 0, 16⟩
def peatErr : Fld := ⟨0x200ffc, 0, 32⟩
def sysIdPart : Fld := ⟨0x0, 0, 16⟩
def sysIdRev : Fld := ⟨0x0, 16, 16⟩
def sysStatStat : Fld := ⟨0x4, 0, 3⟩
def sysStatFrozen : Fld := ⟨0x4, 3, 1⟩
def sysStatTrial : Fld := ⟨0x4, 4, 1⟩
def sysBootSlot : Fld := ⟨0x8, 0, 1⟩
def sysBootFallback : Fld := ⟨0x8, 1, 1⟩
def sysFwVer : Fld := ⟨0xc, 0, 32⟩
def sysSvnMin : Fld := ⟨0x10, 0, 16⟩
def sysFreezeReq : Fld := ⟨0x14, 0, 1⟩
def sysFreezeThaw : Fld := ⟨0x14, 1, 1⟩
def sysPgoodLevel : Fld := ⟨0x18, 0, 4⟩
def sysPgoodLost : Fld := ⟨0x18, 4, 4⟩
def sysSnapSize : Fld := ⟨0x1c, 0, 32⟩
def sysErr : Fld := ⟨0xfc, 0, 32⟩
def faultMask : Fld := ⟨0x20000, 0, 9⟩
def faultStat : Fld := ⟨0x20004, 0, 9⟩
def faultPinDrive : Fld := ⟨0x20008, 0, 1⟩
def faultPinLevel : Fld := ⟨0x20008, 1, 1⟩
def faultPinExt : Fld := ⟨0x20008, 2, 1⟩
def faultPinStuck : Fld := ⟨0x20008, 3, 1⟩
def faultLsCnt : Fld := ⟨0x2000c, 0, 16⟩
def faultHandled : Fld := ⟨0x20010, 0, 32⟩
def faultLastKind : Fld := ⟨0x20014, 0, 4⟩
def faultLastStall : Fld := ⟨0x20014, 16, 16⟩
def faultStallMax : Fld := ⟨0x20018, 0, 16⟩
def faultErr : Fld := ⟨0x200fc, 0, 32⟩
def hostBqBaseLo (b : Nat) : Fld := ⟨0x1d0200 + 0x20 * b, 0, 32⟩
def hostBqBaseHi (b : Nat) : Fld := ⟨0x1d0204 + 0x20 * b, 0, 32⟩
def hostBqCfgEn (b : Nat) : Fld := ⟨0x1d0208 + 0x20 * b, 0, 1⟩
def hostBqCfgLog2 (b : Nat) : Fld := ⟨0x1d0208 + 0x20 * b, 1, 4⟩
def hostBqHead (b : Nat) : Fld := ⟨0x1d020c + 0x20 * b, 0, 12⟩
def hostBqErr (b : Nat) : Fld := ⟨0x1d020c + 0x20 * b, 16, 1⟩
def hostBqTail (b : Nat) : Fld := ⟨0x1d0210 + 0x20 * b, 0, 12⟩
def hostDqBaseLo (d : Nat) : Fld := ⟨0x1d0300 + 0x20 * d, 0, 32⟩
def hostDqBaseHi (d : Nat) : Fld := ⟨0x1d0304 + 0x20 * d, 0, 32⟩
def hostDqCfgEn (d : Nat) : Fld := ⟨0x1d0308 + 0x20 * d, 0, 1⟩
def hostDqCfgLog2 (d : Nat) : Fld := ⟨0x1d0308 + 0x20 * d, 1, 4⟩
def hostDqCfgVec (d : Nat) : Fld := ⟨0x1d0308 + 0x20 * d, 5, 6⟩
def hostDqCoal (d : Nat) : Fld := ⟨0x1d030c + 0x20 * d, 0, 26⟩
def hostDqTail (d : Nat) : Fld := ⟨0x1d0310 + 0x20 * d, 0, 12⟩
def hostDqHead (d : Nat) : Fld := ⟨0x1d0314 + 0x20 * d, 0, 12⟩
/-- `AFE_ERR` (R384). -/
def afeErr : Fld := ⟨0xA0800, 0, 32⟩
end Sys2Proof.Machine.R

namespace Sys2Proof.Machine

def tickRowsA : List RegRow := [
  ⟨0x0, 0, 1, 0, 1, .rw, 0, 0, 1⟩,
  ⟨0x0, 0, 1, 1, 2, .rw, 0, 0, 2⟩,
  ⟨0x0, 0, 1, 3, 1, .rw, 0, 0, 1⟩,
  ⟨0x0, 0, 1, 4, 1, .rw, 1, 0, 1⟩,
  ⟨0x0, 0, 1, 5, 1, .rw, 0, 0, 1⟩,
  ⟨0x4, 0, 1, 0, 30, .rw, 16666666, 0, 1073741823⟩,
  ⟨0x8, 0, 1, 0, 8, .rw, 171, 0, 255⟩,
  ⟨0xc, 0, 1, 0, 14, .rwl, 300, 50, 10000⟩,
  ⟨0x10, 0, 1, 0, 16, .rw, 100, 1, 1000⟩,
  ⟨0x14, 0, 1, 0, 16, .rw, 100, 1, 10000⟩,
  ⟨0x18, 0, 1, 0, 3, .ro, 0, 0, 7⟩,
  ⟨0x1c, 0, 1, 0, 32, .ro, 0, 0, 4294967295⟩,
  ⟨0x20, 0, 1, 0, 32, .ro, 0, 0, 4294967295⟩,
  ⟨0x24, 0, 1, 0, 32, .ro, 0, 0, 4294967295⟩,
  ⟨0x28, 0, 1, 0, 2, .rwl, 0, 0, 3⟩,
  ⟨0x2c, 0, 1, 0, 32, .ro, 0, 0, 4294967295⟩]
def tickRowsB : List RegRow := [
  ⟨0x30, 0, 1, 0, 32, .ro, 0, 0, 4294967295⟩,
  ⟨0x34, 0, 1, 0, 16, .ro, 0, 0, 65535⟩,
  ⟨0x38, 0, 1, 0, 16, .ro, 0, 0, 65535⟩,
  ⟨0x3c, 0, 1, 0, 16, .ro, 0, 0, 65535⟩,
  ⟨0x40, 0, 1, 0, 32, .err, 0, 0, 4294967295⟩]
/-- The rows of the tick registers. -/
def tickRows : List RegRow := tickRowsA ++ tickRowsB
def headRowsA : List RegRow := [
  ⟨0x0, 0, 1, 0, 1, .rw, 0, 0, 1⟩,
  ⟨0x0, 0, 1, 1, 1, .rwl, 0, 0, 1⟩,
  ⟨0x0, 0, 1, 2, 1, .rw, 0, 0, 1⟩,
  ⟨0x0, 0, 1, 3, 1, .rw, 1, 0, 1⟩,
  ⟨0x4, 0, 1, 0, 11, .rw, 1344, 0, 2047⟩,
  ⟨0x4, 0, 1, 11, 7, .rw, 64, 0, 127⟩,
  ⟨0x4, 0, 1, 18, 1, .rw, 0, 0, 1⟩,
  ⟨0x8, 0, 1, 0, 11, .rw, 1024, 0, 2047⟩,
  ⟨0x8, 0, 1, 11, 8, .rw, 40, 0, 255⟩,
  ⟨0xc, 0, 1, 0, 2, .rw, 2, 0, 2⟩,
  ⟨0xc, 0, 1, 2, 1, .rw, 1, 0, 1⟩,
  ⟨0x10, 0, 1, 0, 7, .rw, 1, 1, 64⟩,
  ⟨0x10, 0, 1, 8, 6, .rw, 0, 0, 63⟩,
  ⟨0x14, 0, 1, 0, 1, .rw, 0, 0, 1⟩,
  ⟨0x14, 0, 1, 1, 4, .rw, 0, 0, 15⟩,
  ⟨0x18, 0, 1, 0, 8, .rw, 2, 0, 255⟩]
def headRowsB : List RegRow := [
  ⟨0x18, 0, 1, 8, 6, .rw, 3, 0, 63⟩,
  ⟨0x18, 0, 1, 16, 4, .rw, 2, 1, 15⟩,
  ⟨0x18, 0, 1, 20, 4, .rw, 1, 1, 15⟩,
  ⟨0x1c, 0, 1, 0, 2, .rw, 0, 0, 2⟩,
  ⟨0x20, 0, 1, 0, 32, .rw, 0, 0, 4294967295⟩,
  ⟨0x24, 0, 1, 0, 2, .rw, 0, 0, 3⟩,
  ⟨0x24, 0, 1, 2, 2, .rw, 1, 0, 3⟩,
  ⟨0x24, 0, 1, 4, 1, .rw, 0, 0, 1⟩,
  ⟨0x24, 0, 1, 16, 14, .rw, 8192, 0, 16383⟩,
  ⟨0x28, 0, 1, 0, 22, .rw, 2178048, 0, 4194303⟩,
  ⟨0x2c, 0, 1, 0, 16, .rwl, 128, 0, 65535⟩,
  ⟨0x30, 4, 17, 0, 20, .rwl, 0, 0, 1048575⟩,
  ⟨0x80, 0, 1, 0, 20, .ro, 0, 0, 1048575⟩,
  ⟨0x80, 0, 1, 20, 8, .ro, 0, 0, 255⟩,
  ⟨0x80, 0, 1, 31, 1, .ro, 0, 0, 1⟩,
  ⟨0x100, 4, 8, 0, 16, .rwl, 0, 0, 65535⟩]
def headRowsC : List RegRow := [
  ⟨0x120, 4, 8, 0, 16, .rw, 65535, 0, 65535⟩,
  ⟨0x140, 0, 1, 0, 10, .rw, 10, 1, 1000⟩,
  ⟨0x150, 0, 1, 0, 10, .rw, 50, 1, 1000⟩,
  ⟨0x154, 0, 1, 0, 3, .ro, 0, 0, 7⟩,
  ⟨0x154, 0, 1, 3, 1, .ro, 0, 0, 1⟩,
  ⟨0x154, 0, 1, 8, 8, .ro, 0, 0, 255⟩,
  ⟨0x158, 0, 1, 0, 16, .ro, 0, 0, 65535⟩,
  ⟨0x15c, 0, 1, 0, 32, .err, 0, 0, 4294967295⟩]
/-- The rows of the head registers. -/
def headRows : List RegRow := headRowsA ++ headRowsB ++ headRowsC
def afeSliceRows : List RegRow := [
  ⟨0x0, 0, 1, 0, 6, .rw, 0, 0, 63⟩,
  ⟨0x0, 0, 1, 6, 2, .rw, 0, 0, 3⟩,
  ⟨0x0, 0, 1, 8, 1, .rw, 1, 0, 1⟩,
  ⟨0x4, 0, 1, 0, 6, .rwl, 48, 0, 63⟩,
  ⟨0x8, 0, 1, 0, 8, .rwl, 128, 0, 255⟩,
  ⟨0x8, 0, 1, 8, 6, .rwl, 32, 0, 63⟩,
  ⟨0xc, 0, 1, 0, 20, .rwl, 16384, 0, 1048575⟩,
  ⟨0x10, 0, 1, 0, 16, .ro, 0, 0, 65535⟩,
  ⟨0x14, 0, 1, 0, 16, .ro, 0, 0, 65535⟩,
  ⟨0x18, 0, 1, 0, 8, .ro, 0, 0, 255⟩,
  ⟨0x18, 0, 1, 8, 1, .ro, 0, 0, 1⟩,
  ⟨0x18, 0, 1, 9, 1, .ro, 0, 0, 1⟩,
  ⟨0x18, 0, 1, 10, 1, .ro, 0, 0, 1⟩,
  ⟨0x18, 0, 1, 16, 16, .ro, 0, 0, 65535⟩,
  ⟨0x1c, 0, 1, 0, 16, .ro, 0, 0, 65535⟩,
  ⟨0x20, 0, 1, 0, 30, .ro, 0, 0, 1073741823⟩]
def afeGrpRowsA : List RegRow := [
  ⟨0x0, 0, 1, 0, 3, .rw, 0, 0, 7⟩,
  ⟨0x0, 0, 1, 3, 1, .rw, 1, 0, 1⟩,
  ⟨0x0, 0, 1, 4, 1, .rw, 1, 0, 1⟩,
  ⟨0x0, 0, 1, 5, 1, .rw, 0, 0, 1⟩,
  ⟨0x4, 0, 1, 0, 2, .rw, 1, 1, 2⟩,
  ⟨0x4, 0, 1, 8, 3, .rw, 4, 0, 6⟩,
  ⟨0x4, 0, 1, 12, 4, .rw, 4, 1, 15⟩,
  ⟨0x8, 0, 1, 0, 12, .rwl, 192, 0, 4095⟩,
  ⟨0x8, 0, 1, 16, 12, .rwl, 32, 0, 4095⟩,
  ⟨0xc, 0, 1, 0, 13, .rwl, 6500, 0, 8191⟩,
  ⟨0xc, 0, 1, 16, 13, .rwl, 200, 0, 8191⟩,
  ⟨0x10, 0, 1, 0, 13, .rwl, 8000, 0, 8191⟩,
  ⟨0x10, 0, 1, 16, 13, .rwl, 20, 0, 8191⟩,
  ⟨0x14, 0, 1, 0, 4, .rw, 4, 1, 15⟩,
  ⟨0x14, 0, 1, 4, 12, .rw, 64, 0, 4095⟩,
  ⟨0x14, 0, 1, 16, 6, .rw, 8, 1, 63⟩]
def afeGrpRowsB : List RegRow := [
  ⟨0x14, 0, 1, 24, 6, .rw, 48, 0, 63⟩,
  ⟨0x18, 0, 1, 0, 4, .rw, 8, 1, 15⟩,
  ⟨0x18, 0, 1, 4, 1, .rw, 1, 0, 1⟩,
  ⟨0x1c, 0, 1, 0, 6, .ro, 2, 0, 63⟩,
  ⟨0x1c, 0, 1, 6, 1, .ro, 0, 0, 1⟩,
  ⟨0x1c, 0, 1, 7, 1, .w1c, 0, 0, 1⟩,
  ⟨0x20, 0, 1, 0, 14, .wo, 0, 0, 16383⟩]
/-- The rows of the afeGrp registers. -/
def afeGrpRows : List RegRow := afeGrpRowsA ++ afeGrpRowsB
def corrRowsA : List RegRow := [
  ⟨0x0, 0, 1, 0, 1, .rwl, 0, 0, 1⟩,
  ⟨0x0, 0, 1, 1, 1, .rwl, 0, 0, 1⟩,
  ⟨0x0, 0, 1, 2, 1, .rwl, 0, 0, 1⟩,
  ⟨0x4, 0, 1, 0, 5, .rw, 5, 0, 31⟩,
  ⟨0x4, 0, 1, 5, 1, .rw, 0, 0, 1⟩,
  ⟨0x4, 0, 1, 8, 5, .rw, 4, 2, 16⟩,
  ⟨0x8, 0, 1, 0, 3, .rw, 6, 4, 7⟩,
  ⟨0xc, 0, 1, 0, 16, .rwl, 32768, 0, 65535⟩,
  ⟨0x10, 8, 5, 0, 32, .rw, 0, 0, 4294967295⟩,
  ⟨0x14, 8, 5, 0, 32, .rw, 0, 0, 4294967295⟩,
  ⟨0x38, 0, 1, 0, 32, .rw, 0, 0, 4294967295⟩,
  ⟨0x3c, 0, 1, 0, 32, .rw, 0, 0, 4294967295⟩,
  ⟨0x40, 32, 2, 0, 32, .rwl, 0, 0, 4294967295⟩,
  ⟨0x44, 32, 2, 0, 32, .rwl, 0, 0, 4294967295⟩,
  ⟨0x48, 32, 2, 0, 32, .rwl, 0, 0, 4294967295⟩,
  ⟨0x4c, 32, 2, 0, 32, .rwl, 0, 0, 4294967295⟩]
def corrRowsB : List RegRow := [
  ⟨0x50, 32, 2, 0, 16, .rwl, 0, 0, 65535⟩,
  ⟨0x54, 32, 2, 0, 20, .rwl, 0, 0, 1048575⟩,
  ⟨0x80, 0, 1, 0, 1, .ro, 0, 0, 1⟩,
  ⟨0x80, 0, 1, 16, 16, .ro, 0, 0, 65535⟩,
  ⟨0x84, 0, 1, 0, 1, .rwl, 0, 0, 1⟩,
  ⟨0x88, 0, 1, 0, 24, .rwl, 0, 0, 16777215⟩,
  ⟨0x8c, 0, 1, 0, 24, .rwl, 65536, 0, 16777215⟩,
  ⟨0x90, 0, 1, 0, 1, .ro, 0, 0, 1⟩,
  ⟨0x90, 0, 1, 1, 1, .w1c, 0, 0, 1⟩,
  ⟨0x94, 0, 1, 0, 32, .ro, 0, 0, 4294967295⟩,
  ⟨0x98, 0, 1, 0, 16, .ro, 0, 0, 65535⟩,
  ⟨0x9c, 0, 1, 0, 16, .ro, 0, 0, 65535⟩,
  ⟨0xa0, 0, 1, 0, 16, .ro, 0, 0, 65535⟩,
  ⟨0xa4, 0, 1, 0, 32, .ro, 0, 0, 4294967295⟩,
  ⟨0xa8, 0, 1, 0, 32, .ro, 0, 0, 4294967295⟩,
  ⟨0xfc, 0, 1, 0, 32, .err, 0, 0, 4294967295⟩]
/-- The rows of the corr registers. -/
def corrRows : List RegRow := corrRowsA ++ corrRowsB
def calRowsA : List RegRow := [
  ⟨0x0, 0, 1, 0, 1, .rw, 1, 0, 1⟩,
  ⟨0x0, 0, 1, 1, 1, .rw, 0, 0, 1⟩,
  ⟨0x0, 0, 1, 2, 1, .rw, 1, 0, 1⟩,
  ⟨0x0, 0, 1, 3, 1, .rw, 0, 0, 1⟩,
  ⟨0x0, 0, 1, 4, 1, .rw, 0, 0, 1⟩,
  ⟨0x0, 0, 1, 5, 3, .rw, 2, 0, 7⟩,
  ⟨0x0, 0, 1, 8, 1, .rw, 0, 0, 1⟩,
  ⟨0x4, 0, 1, 0, 5, .rw, 4, 2, 16⟩,
  ⟨0x4, 0, 1, 8, 4, .rw, 2, 1, 15⟩,
  ⟨0x4, 0, 1, 16, 4, .rw, 2, 1, 15⟩,
  ⟨0x4, 0, 1, 24, 4, .rw, 4, 1, 15⟩,
  ⟨0x8, 0, 1, 0, 2, .rw, 0, 0, 3⟩,
  ⟨0x8, 0, 1, 4, 2, .rw, 1, 0, 3⟩,
  ⟨0xc, 0, 1, 0, 16, .rwl, 300, 0, 65535⟩,
  ⟨0xc, 0, 1, 16, 16, .rwl, 128, 0, 65535⟩,
  ⟨0x10, 0, 1, 0, 16, .rwl, 10, 0, 65535⟩]
def calRowsB : List RegRow := [
  ⟨0x14, 0, 1, 0, 14, .rw, 256, 0, 16383⟩,
  ⟨0x18, 0, 1, 0, 16, .rw, 328, 0, 65535⟩,
  ⟨0x1c, 0, 1, 0, 16, .rw, 3200, 0, 65535⟩,
  ⟨0x20, 0, 1, 0, 16, .rw, 64, 0, 65535⟩,
  ⟨0x24, 0, 1, 0, 16, .rw, 256, 0, 65535⟩,
  ⟨0x28, 0, 1, 0, 20, .rwl, 0, 0, 1048575⟩,
  ⟨0x30, 0, 1, 0, 32, .rw, 0, 0, 4294967295⟩,
  ⟨0x34, 0, 1, 0, 32, .rw, 0, 0, 4294967295⟩,
  ⟨0x38, 0, 1, 0, 32, .rw, 0, 0, 4294967295⟩,
  ⟨0x3c, 0, 1, 0, 32, .rw, 0, 0, 4294967295⟩,
  ⟨0x40, 0, 1, 0, 32, .rw, 0, 0, 4294967295⟩,
  ⟨0x44, 0, 1, 0, 32, .rw, 0, 0, 4294967295⟩,
  ⟨0x48, 0, 1, 0, 20, .ro, 0, 0, 1048575⟩,
  ⟨0x48, 0, 1, 31, 1, .ro, 0, 0, 1⟩,
  ⟨0x4c, 0, 1, 0, 3, .ro, 0, 0, 7⟩,
  ⟨0x4c, 0, 1, 3, 1, .ro, 0, 0, 1⟩]
def calRowsC : List RegRow := [
  ⟨0x4c, 0, 1, 4, 1, .ro, 0, 0, 1⟩,
  ⟨0x4c, 0, 1, 5, 1, .ro, 0, 0, 1⟩,
  ⟨0x4c, 0, 1, 6, 1, .ro, 0, 0, 1⟩,
  ⟨0x4c, 0, 1, 8, 4, .ro, 0, 0, 15⟩,
  ⟨0x4c, 0, 1, 12, 2, .ro, 0, 0, 3⟩,
  ⟨0x50, 0, 1, 0, 32, .wo, 0, 0, 4294967295⟩,
  ⟨0x54, 0, 1, 0, 16, .ro, 0, 0, 65535⟩,
  ⟨0x58, 0, 1, 0, 16, .ro, 0, 0, 65535⟩,
  ⟨0x5c, 0, 1, 0, 32, .ro, 0, 0, 4294967295⟩,
  ⟨0x60, 0, 1, 0, 16, .ro, 0, 0, 65535⟩,
  ⟨0xfc, 0, 1, 0, 32, .err, 0, 0, 4294967295⟩]
/-- The rows of the cal registers. -/
def calRows : List RegRow := calRowsA ++ calRowsB ++ calRowsC
def actChRowsA : List RegRow := [
  ⟨0x0, 0, 1, 0, 1, .rw, 0, 0, 1⟩,
  ⟨0x0, 0, 1, 1, 1, .rw, 0, 0, 1⟩,
  ⟨0x0, 0, 1, 2, 1, .rw, 0, 0, 1⟩,
  ⟨0x0, 0, 1, 3, 1, .rw, 0, 0, 1⟩,
  ⟨0x4, 0, 1, 0, 10, .rwl, 800, 1, 800⟩,
  ⟨0x8, 0, 1, 0, 16, .rwl, 50, 0, 60000⟩,
  ⟨0xc, 0, 1, 0, 23, .rwl, 100000, 1, 8000000⟩,
  ⟨0x10, 0, 1, 0, 7, .rw, 10, 1, 100⟩,
  ⟨0x14, 0, 1, 0, 16, .rwl, 0, 0, 65535⟩,
  ⟨0x18, 0, 1, 0, 14, .rw, 500, 1, 10000⟩,
  ⟨0x20, 0, 1, 0, 3, .ro, 0, 0, 7⟩,
  ⟨0x20, 0, 1, 3, 3, .ro, 0, 0, 7⟩,
  ⟨0x20, 0, 1, 6, 2, .ro, 0, 0, 3⟩,
  ⟨0x20, 0, 1, 8, 1, .ro, 0, 0, 1⟩,
  ⟨0x20, 0, 1, 9, 1, .ro, 0, 0, 1⟩,
  ⟨0x20, 0, 1, 12, 3, .ro, 0, 0, 7⟩]
def actChRowsB : List RegRow := [
  ⟨0x24, 0, 1, 0, 11, .ro, 0, 0, 2047⟩,
  ⟨0x28, 0, 1, 0, 24, .ro, 0, 0, 16777215⟩,
  ⟨0x2c, 0, 1, 0, 32, .ro, 0, 0, 4294967295⟩,
  ⟨0x30, 0, 1, 0, 16, .ro, 0, 0, 65535⟩,
  ⟨0x34, 0, 1, 0, 9, .wo, 0, 0, 511⟩,
  ⟨0x80, 4, 8, 0, 30, .rwl, 0, 0, 1073741823⟩,
  ⟨0xa0, 4, 8, 0, 30, .rwl, 0, 0, 1073741823⟩,
  ⟨0xc0, 4, 8, 0, 30, .rwl, 0, 0, 1073741823⟩,
  ⟨0xe0, 4, 8, 0, 30, .rwl, 0, 0, 1073741823⟩]
/-- The rows of the actCh registers. -/
def actChRows : List RegRow := actChRowsA ++ actChRowsB
def actRows : List RegRow := [
  ⟨0x800, 0, 1, 0, 12, .rwl, 2000, 100, 2000⟩,
  ⟨0x804, 0, 1, 0, 16, .ro, 0, 0, 65535⟩,
  ⟨0x8fc, 0, 1, 0, 32, .err, 0, 0, 4294967295⟩]
def engMireRowsA : List RegRow := [
  ⟨0x0, 0, 1, 0, 1, .rw, 1, 0, 1⟩,
  ⟨0x0, 0, 1, 1, 5, .rwl, 1, 0, 23⟩,
  ⟨0x4, 0, 1, 0, 32, .rwl, 0, 0, 4294967295⟩,
  ⟨0x8, 0, 1, 0, 32, .rwl, 0, 0, 4294967295⟩,
  ⟨0xc, 0, 1, 0, 16, .ro, 0, 0, 65535⟩,
  ⟨0x10, 0, 1, 0, 2, .ro, 0, 0, 3⟩,
  ⟨0x10, 0, 1, 2, 5, .ro, 1, 0, 31⟩,
  ⟨0x10, 0, 1, 7, 5, .ro, 0, 0, 31⟩,
  ⟨0x14, 0, 1, 0, 13, .wo, 0, 0, 8191⟩,
  ⟨0x20, 4, 23, 0, 2, .ro, 0, 0, 3⟩,
  ⟨0x20, 4, 24, 4, 4, .ro, 0, 0, 15⟩,
  ⟨0x20, 4, 24, 8, 8, .ro, 0, 0, 255⟩,
  ⟨0x7c, 4, 1, 0, 2, .ro, 1, 0, 3⟩,
  ⟨0x80, 0, 1, 0, 16, .ro, 0, 0, 65535⟩,
  ⟨0x84, 0, 1, 0, 16, .ro, 0, 0, 65535⟩,
  ⟨0x88, 0, 1, 0, 32, .ro, 0, 0, 4294967295⟩]
def engMireRowsB : List RegRow := [
  ⟨0xfc, 0, 1, 0, 32, .err, 0, 0, 4294967295⟩]
/-- The rows of the engMire registers. -/
def engMireRows : List RegRow := engMireRowsA ++ engMireRowsB
def engRows : List RegRow := [
  ⟨0x0, 0, 1, 0, 1, .rw, 1, 0, 1⟩,
  ⟨0x0, 0, 1, 1, 2, .rw, 3, 0, 3⟩,
  ⟨0x4, 0, 1, 0, 32, .rwl, 0, 0, 4294967295⟩,
  ⟨0x8, 0, 1, 0, 32, .rwl, 0, 0, 4294967295⟩,
  ⟨0xc, 0, 1, 0, 7, .rwl, 0, 0, 64⟩,
  ⟨0x10, 0, 1, 0, 14, .ro, 0, 0, 16383⟩,
  ⟨0x14, 0, 1, 0, 8, .ro, 0, 0, 255⟩,
  ⟨0x18, 0, 1, 0, 16, .ro, 0, 0, 65535⟩,
  ⟨0x1c, 0, 1, 0, 32, .ro, 0, 0, 4294967295⟩,
  ⟨0x20, 0, 1, 0, 32, .ro, 0, 0, 4294967295⟩,
  ⟨0x24, 0, 1, 0, 32, .rwl, 0, 0, 4294967295⟩,
  ⟨0x28, 0, 1, 0, 32, .rwl, 0, 0, 4294967295⟩,
  ⟨0x2c, 0, 1, 0, 20, .rwl, 0, 0, 1048575⟩,
  ⟨0x30, 0, 1, 0, 21, .rwl, 0, 16, 1048576⟩,
  ⟨0x34, 0, 1, 0, 8, .wo, 0, 0, 255⟩,
  ⟨0xfc, 0, 1, 0, 32, .err, 0, 0, 4294967295⟩]
def vidHeadRowsA : List RegRow := [
  ⟨0x0, 0, 1, 0, 1, .rw, 1, 0, 1⟩,
  ⟨0x0, 0, 1, 1, 1, .rw, 0, 0, 1⟩,
  ⟨0x0, 0, 1, 2, 1, .rw, 0, 0, 1⟩,
  ⟨0x0, 0, 1, 3, 2, .rw, 0, 0, 2⟩,
  ⟨0x0, 0, 1, 5, 1, .rw, 1, 0, 1⟩,
  ⟨0x4, 0, 1, 0, 2, .rwl, 1, 0, 3⟩,
  ⟨0x4, 0, 1, 4, 3, .rwl, 0, 0, 7⟩,
  ⟨0x4, 0, 1, 8, 4, .rwl, 3, 0, 8⟩,
  ⟨0x8, 0, 1, 0, 32, .rwl, 2415947776, 0, 4294967295⟩,
  ⟨0xc, 0, 1, 0, 10, .rwl, 10, 0, 1023⟩,
  ⟨0xc, 0, 1, 16, 10, .rwl, 1014, 0, 1023⟩,
  ⟨0x10, 0, 1, 0, 32, .rwl, 33554688, 0, 4294967295⟩,
  ⟨0x14, 0, 1, 1, 4, .rwl, 0, 0, 15⟩,
  ⟨0x14, 0, 1, 9, 4, .rwl, 0, 0, 15⟩,
  ⟨0x18, 0, 1, 0, 32, .rwl, 4294967168, 0, 4294967295⟩,
  ⟨0x1c, 0, 1, 0, 32, .rwl, 0, 0, 4294967295⟩,
  ⟨0x20, 0, 1, 0, 32, .rwl, 0, 0, 4294967295⟩]
def vidHeadRowsB : List RegRow := [
  ⟨0x24, 0, 1, 0, 9, .rwl, 0, 0, 256⟩,
  ⟨0x28, 0, 1, 0, 32, .rwl, 0, 0, 4294967295⟩,
  ⟨0x2c, 0, 1, 0, 32, .rwl, 0, 0, 4294967295⟩,
  ⟨0x30, 0, 1, 0, 32, .rw, 0, 0, 4294967295⟩,
  ⟨0x34, 0, 1, 0, 32, .rw, 0, 0, 4294967295⟩,
  ⟨0x38, 0, 1, 0, 32, .rw, 0, 0, 4294967295⟩,
  ⟨0x3c, 0, 1, 0, 32, .rw, 0, 0, 4294967295⟩,
  ⟨0x44, 4, 15, 0, 32, .rwl, 0, 0, 4294967295⟩,
  ⟨0x80, 0, 1, 0, 4, .ro, 0, 0, 15⟩,
  ⟨0x80, 0, 1, 4, 1, .ro, 0, 0, 1⟩,
  ⟨0x84, 0, 1, 0, 16, .ro, 0, 0, 65535⟩]
/-- The rows of the vidHead registers. -/
def vidHeadRows : List RegRow := vidHeadRowsA ++ vidHeadRowsB
def vidRowsA : List RegRow := [
  ⟨0x800, 0, 1, 0, 1, .rw, 1, 0, 1⟩,
  ⟨0x800, 0, 1, 1, 2, .rwl, 0, 0, 3⟩,
  ⟨0x800, 0, 1, 3, 1, .rwl, 1, 0, 1⟩,
  ⟨0x800, 0, 1, 4, 1, .rw, 1, 0, 1⟩,
  ⟨0x804, 0, 1, 0, 14, .ro, 0, 0, 16383⟩,
  ⟨0x8fc, 0, 1, 0, 32, .err, 0, 0, 4294967295⟩,
  ⟨0x900, 0, 1, 0, 1, .rw, 0, 0, 1⟩,
  ⟨0x900, 0, 1, 1, 2, .rw, 2, 0, 2⟩,
  ⟨0x900, 0, 1, 3, 4, .rw, 0, 0, 15⟩,
  ⟨0x900, 0, 1, 7, 3, .rw, 1, 0, 3⟩,
  ⟨0x900, 0, 1, 10, 3, .rw, 0, 0, 7⟩,
  ⟨0x900, 0, 1, 13, 4, .rw, 0, 0, 15⟩,
  ⟨0x904, 0, 1, 0, 13, .rw, 1920, 0, 8191⟩,
  ⟨0x904, 0, 1, 16, 13, .rw, 1080, 0, 8191⟩,
  ⟨0x908, 0, 1, 0, 12, .rw, 1500, 80, 2500⟩,
  ⟨0x90c, 0, 1, 0, 32, .rw, 0, 0, 4294967295⟩,
  ⟨0x910, 0, 1, 0, 32, .rw, 0, 0, 4294967295⟩]
def vidRowsB : List RegRow := [
  ⟨0x914, 4, 1, 0, 32, .rwl, 4096, 0, 4294967295⟩,
  ⟨0x918, 4, 1, 0, 32, .rwl, 0, 0, 4294967295⟩,
  ⟨0x91c, 4, 1, 0, 32, .rwl, 268435456, 0, 4294967295⟩,
  ⟨0x920, 4, 2, 0, 32, .rwl, 0, 0, 4294967295⟩,
  ⟨0x928, 4, 1, 0, 32, .rwl, 4096, 0, 4294967295⟩,
  ⟨0x92c, 4, 1, 0, 32, .rwl, 1048576, 0, 4294967295⟩,
  ⟨0x930, 4, 3, 0, 32, .rwl, 0, 0, 4294967295⟩,
  ⟨0x93c, 4, 1, 0, 32, .rwl, 1048576, 0, 4294967295⟩,
  ⟨0x940, 4, 1, 0, 32, .rwl, 0, 0, 4294967295⟩,
  ⟨0x944, 0, 1, 0, 32, .rw, 0, 0, 4294967295⟩,
  ⟨0x948, 0, 1, 0, 32, .rw, 0, 0, 4294967295⟩,
  ⟨0x94c, 0, 1, 0, 2, .rw, 0, 0, 3⟩,
  ⟨0x94c, 0, 1, 8, 8, .rw, 16, 1, 255⟩,
  ⟨0x950, 0, 1, 0, 16, .ro, 0, 0, 65535⟩,
  ⟨0x954, 0, 1, 0, 16, .ro, 0, 0, 65535⟩,
  ⟨0x958, 0, 1, 0, 16, .ro, 0, 0, 65535⟩]
def vidRowsC : List RegRow := [
  ⟨0x95c, 0, 1, 0, 16, .ro, 0, 0, 65535⟩,
  ⟨0x960, 0, 1, 0, 2, .ro, 0, 0, 3⟩,
  ⟨0xa00, 0, 1, 0, 1, .rw, 0, 0, 1⟩,
  ⟨0xa00, 0, 1, 1, 1, .rw, 1, 0, 1⟩,
  ⟨0xa00, 0, 1, 2, 1, .rw, 0, 0, 1⟩,
  ⟨0xa00, 0, 1, 3, 4, .rw, 0, 0, 15⟩,
  ⟨0xa04, 0, 1, 0, 12, .rw, 2500, 80, 2500⟩,
  ⟨0xa08, 0, 1, 0, 14, .ro, 0, 0, 16383⟩]
/-- The rows of the vid registers. -/
def vidRows : List RegRow := vidRowsA ++ vidRowsB ++ vidRowsC
def memRowsA : List RegRow := [
  ⟨0x0, 0, 1, 0, 1, .rw, 1, 0, 1⟩,
  ⟨0x0, 0, 1, 1, 1, .rwl, 0, 0, 1⟩,
  ⟨0x0, 0, 1, 2, 1, .rwl, 1, 0, 1⟩,
  ⟨0x4, 0, 1, 0, 32, .rw, 2900436073, 1, 4294967295⟩,
  ⟨0x8, 0, 1, 0, 4, .rwl, 1, 0, 10⟩,
  ⟨0xc, 0, 1, 0, 16, .wo, 0, 0, 65535⟩,
  ⟨0x10, 4, 4, 0, 8, .rwl, 48, 0, 255⟩,
  ⟨0x20, 4, 1, 0, 8, .rwl, 32, 0, 255⟩,
  ⟨0x24, 4, 2, 0, 8, .rwl, 16, 0, 255⟩,
  ⟨0x2c, 4, 1, 0, 8, .rwl, 8, 0, 255⟩,
  ⟨0x30, 4, 8, 0, 8, .rwl, 24, 0, 255⟩,
  ⟨0x50, 4, 16, 0, 16, .rwl, 800, 0, 65535⟩,
  ⟨0x90, 0, 1, 0, 16, .w1c, 0, 0, 65535⟩,
  ⟨0x94, 0, 1, 0, 4, .ro, 0, 0, 15⟩,
  ⟨0x98, 0, 1, 0, 2, .ro, 0, 0, 3⟩,
  ⟨0xa0, 4, 16, 0, 16, .ro, 0, 0, 65535⟩]
def memRowsB : List RegRow := [
  ⟨0xe0, 4, 16, 0, 32, .ro, 0, 0, 4294967295⟩,
  ⟨0x120, 4, 4, 0, 16, .ro, 4311, 0, 65535⟩,
  ⟨0x130, 0, 1, 0, 32, .ro, 0, 0, 4294967295⟩,
  ⟨0x134, 0, 1, 0, 16, .ro, 0, 0, 65535⟩,
  ⟨0x138, 0, 1, 0, 32, .ro, 0, 0, 4294967295⟩,
  ⟨0x13c, 0, 1, 0, 32, .ro, 0, 0, 4294967295⟩,
  ⟨0x140, 0, 1, 0, 16, .ro, 0, 0, 65535⟩,
  ⟨0x144, 0, 1, 0, 16, .ro, 0, 0, 65535⟩,
  ⟨0x14c, 0, 1, 0, 16, .ro, 0, 0, 65535⟩,
  ⟨0x14c, 0, 1, 16, 4, .ro, 0, 0, 15⟩,
  ⟨0x150, 0, 1, 0, 32, .ro, 0, 0, 4294967295⟩,
  ⟨0x154, 0, 1, 0, 32, .ro, 0, 0, 4294967295⟩,
  ⟨0x200, 16, 32, 0, 32, .rwl, 0, 0, 4294967295⟩,
  ⟨0x204, 16, 32, 0, 32, .rwl, 0, 0, 4294967295⟩,
  ⟨0x208, 16, 32, 0, 32, .rwl, 0, 0, 4294967295⟩,
  ⟨0x20c, 16, 32, 0, 2, .rwl, 0, 0, 2⟩]
def memRowsC : List RegRow := [
  ⟨0xffc, 0, 1, 0, 32, .err, 0, 0, 4294967295⟩]
/-- The rows of the mem registers. -/
def memRows : List RegRow := memRowsA ++ memRowsB ++ memRowsC
def dmaChRowsA : List RegRow := [
  ⟨0x0, 0, 1, 0, 1, .rw, 0, 0, 1⟩,
  ⟨0x0, 0, 1, 1, 2, .rw, 2, 0, 3⟩,
  ⟨0x0, 0, 1, 4, 3, .rw, 0, 0, 7⟩,
  ⟨0x4, 0, 1, 0, 32, .rwl, 0, 0, 4294967295⟩,
  ⟨0x8, 0, 1, 0, 32, .rwl, 0, 0, 4294967295⟩,
  ⟨0xc, 0, 1, 0, 32, .wo, 0, 0, 4294967295⟩,
  ⟨0x10, 0, 1, 0, 2, .wo, 0, 0, 3⟩,
  ⟨0x14, 0, 1, 0, 3, .ro, 0, 0, 7⟩,
  ⟨0x14, 0, 1, 3, 1, .ro, 0, 0, 1⟩,
  ⟨0x14, 0, 1, 8, 4, .ro, 0, 0, 15⟩,
  ⟨0x14, 0, 1, 12, 8, .ro, 0, 0, 255⟩,
  ⟨0x18, 0, 1, 0, 32, .ro, 0, 0, 4294967295⟩,
  ⟨0x1c, 0, 1, 0, 32, .ro, 0, 0, 4294967295⟩,
  ⟨0x20, 0, 1, 0, 32, .ro, 0, 0, 4294967295⟩,
  ⟨0x24, 0, 1, 0, 32, .ro, 0, 0, 4294967295⟩,
  ⟨0x28, 0, 1, 0, 32, .ro, 0, 0, 4294967295⟩]
def dmaChRowsB : List RegRow := [
  ⟨0x2c, 0, 1, 0, 32, .ro, 0, 0, 4294967295⟩]
/-- The rows of the dmaCh registers. -/
def dmaChRows : List RegRow := dmaChRowsA ++ dmaChRowsB
def dmaRows : List RegRow := [
  ⟨0x800, 0, 1, 0, 1, .rw, 1, 0, 1⟩,
  ⟨0x804, 0, 1, 0, 1, .ro, 0, 0, 1⟩,
  ⟨0x804, 0, 1, 1, 3, .ro, 0, 0, 7⟩,
  ⟨0x804, 0, 1, 8, 4, .ro, 0, 0, 15⟩,
  ⟨0x804, 0, 1, 12, 1, .ro, 0, 0, 1⟩,
  ⟨0x808, 0, 1, 0, 16, .rwl, 65280, 0, 65535⟩,
  ⟨0x80c, 0, 1, 0, 1, .wo, 0, 0, 1⟩,
  ⟨0x810, 0, 1, 0, 32, .ro, 0, 0, 4294967295⟩,
  ⟨0x814, 0, 1, 0, 32, .ro, 0, 0, 4294967295⟩,
  ⟨0x818, 0, 1, 0, 16, .ro, 0, 0, 65535⟩,
  ⟨0x8fc, 0, 1, 0, 32, .err, 0, 0, 4294967295⟩]
def hostRowsA : List RegRow := [
  ⟨0x0, 32, 8, 0, 32, .rw, 0, 0, 4294967295⟩,
  ⟨0x4, 32, 8, 0, 32, .rw, 0, 0, 4294967295⟩,
  ⟨0x8, 32, 8, 0, 1, .rw, 0, 0, 1⟩,
  ⟨0x8, 32, 8, 1, 4, .rw, 6, 4, 12⟩,
  ⟨0x8, 32, 8, 8, 3, .rw, 0, 0, 7⟩,
  ⟨0xc, 32, 8, 0, 12, .ro, 0, 0, 4095⟩,
  ⟨0xc, 32, 8, 16, 1, .ro, 0, 0, 1⟩,
  ⟨0x10, 32, 8, 0, 12, .ro, 0, 0, 4095⟩,
  ⟨0x100, 32, 8, 0, 32, .rw, 0, 0, 4294967295⟩,
  ⟨0x104, 32, 8, 0, 32, .rw, 0, 0, 4294967295⟩,
  ⟨0x108, 32, 8, 0, 1, .rw, 0, 0, 1⟩,
  ⟨0x108, 32, 8, 1, 4, .rw, 6, 4, 12⟩,
  ⟨0x108, 32, 1, 5, 6, .rw, 0, 0, 63⟩,
  ⟨0x10c, 32, 8, 0, 8, .rwl, 0, 0, 255⟩,
  ⟨0x10c, 32, 8, 16, 10, .rwl, 0, 0, 1023⟩,
  ⟨0x110, 32, 8, 0, 12, .ro, 0, 0, 4095⟩,
  ⟨0x114, 32, 8, 0, 12, .ro, 0, 0, 4095⟩]
def hostRowsB : List RegRow := [
  ⟨0x118, 32, 8, 0, 16, .ro, 0, 0, 65535⟩,
  ⟨0x128, 32, 1, 5, 6, .rw, 1, 0, 63⟩,
  ⟨0x148, 32, 1, 5, 6, .rw, 2, 0, 63⟩,
  ⟨0x168, 32, 1, 5, 6, .rw, 3, 0, 63⟩,
  ⟨0x188, 32, 1, 5, 6, .rw, 4, 0, 63⟩,
  ⟨0x1a8, 32, 1, 5, 6, .rw, 5, 0, 63⟩,
  ⟨0x1c8, 32, 1, 5, 6, .rw, 6, 0, 63⟩,
  ⟨0x1e8, 32, 1, 5, 6, .rw, 7, 0, 63⟩,
  ⟨0x200, 32, 8, 0, 32, .rw, 0, 0, 4294967295⟩,
  ⟨0x204, 32, 8, 0, 32, .rw, 0, 0, 4294967295⟩,
  ⟨0x208, 32, 8, 0, 1, .rw, 0, 0, 1⟩,
  ⟨0x208, 32, 8, 1, 4, .rw, 6, 4, 12⟩,
  ⟨0x20c, 32, 8, 0, 12, .ro, 0, 0, 4095⟩,
  ⟨0x20c, 32, 8, 16, 1, .ro, 0, 0, 1⟩,
  ⟨0x210, 32, 8, 0, 12, .ro, 0, 0, 4095⟩,
  ⟨0x300, 32, 8, 0, 32, .rw, 0, 0, 4294967295⟩]
def hostRowsC : List RegRow := [
  ⟨0x304, 32, 8, 0, 32, .rw, 0, 0, 4294967295⟩,
  ⟨0x308, 32, 8, 0, 1, .rw, 0, 0, 1⟩,
  ⟨0x308, 32, 8, 1, 4, .rw, 6, 4, 12⟩,
  ⟨0x308, 32, 1, 5, 6, .rw, 8, 0, 63⟩,
  ⟨0x30c, 32, 8, 0, 8, .rwl, 0, 0, 255⟩,
  ⟨0x30c, 32, 8, 16, 10, .rwl, 0, 0, 1023⟩,
  ⟨0x310, 32, 8, 0, 12, .ro, 0, 0, 4095⟩,
  ⟨0x314, 32, 8, 0, 12, .ro, 0, 0, 4095⟩,
  ⟨0x318, 32, 8, 0, 16, .ro, 0, 0, 65535⟩,
  ⟨0x328, 32, 1, 5, 6, .rw, 9, 0, 63⟩,
  ⟨0x348, 32, 1, 5, 6, .rw, 10, 0, 63⟩,
  ⟨0x368, 32, 1, 5, 6, .rw, 11, 0, 63⟩,
  ⟨0x388, 32, 1, 5, 6, .rw, 12, 0, 63⟩,
  ⟨0x3a8, 32, 1, 5, 6, .rw, 13, 0, 63⟩,
  ⟨0x3c8, 32, 1, 5, 6, .rw, 14, 0, 63⟩,
  ⟨0x3e8, 32, 1, 5, 6, .rw, 15, 0, 63⟩,
  ⟨0x400, 0, 1, 0, 1, .rw, 1, 0, 1⟩]
def hostRowsD : List RegRow := [
  ⟨0x404, 0, 1, 0, 3, .rwl, 0, 0, 6⟩,
  ⟨0x408, 0, 1, 0, 9, .ro, 0, 0, 511⟩,
  ⟨0x40c, 0, 1, 0, 16, .ro, 0, 0, 65535⟩,
  ⟨0x410, 0, 1, 0, 16, .ro, 0, 0, 65535⟩,
  ⟨0x800, 4, 16, 0, 32, .rwl, 0, 0, 4294967295⟩,
  ⟨0x840, 0, 1, 0, 1, .wo, 0, 0, 1⟩,
  ⟨0x844, 4, 4, 0, 32, .ro, 0, 0, 4294967295⟩,
  ⟨0x854, 0, 1, 0, 3, .ro, 0, 0, 7⟩,
  ⟨0x858, 4, 4, 0, 32, .ro, 0, 0, 4294967295⟩,
  ⟨0xffc, 0, 1, 0, 32, .err, 0, 0, 4294967295⟩]
/-- The rows of the host registers. -/
def hostRows : List RegRow := hostRowsA ++ hostRowsB ++ hostRowsC ++ hostRowsD
def mgmtRows : List RegRow := [
  ⟨0x0, 0, 1, 0, 1, .rwl, 0, 0, 1⟩,
  ⟨0x4, 0, 1, 0, 16, .ro, 0, 0, 65535⟩,
  ⟨0x8, 0, 1, 0, 4, .w1c, 0, 0, 15⟩,
  ⟨0x8, 0, 1, 4, 1, .ro, 0, 0, 1⟩,
  ⟨0xc, 0, 1, 0, 32, .ro, 0, 0, 4294967295⟩,
  ⟨0x10, 0, 1, 0, 16, .ro, 0, 0, 65535⟩,
  ⟨0x14, 0, 1, 0, 16, .ro, 0, 0, 65535⟩]
def hlRowsA : List RegRow := [
  ⟨0x0, 0, 1, 0, 1, .rw, 1, 0, 1⟩,
  ⟨0x0, 0, 1, 1, 2, .rw, 0, 0, 3⟩,
  ⟨0x0, 0, 1, 3, 10, .rw, 40, 4, 1023⟩,
  ⟨0x0, 0, 1, 13, 4, .rw, 1, 1, 15⟩,
  ⟨0x0, 0, 1, 17, 4, .rw, 1, 1, 15⟩,
  ⟨0x0, 0, 1, 21, 4, .rw, 2, 1, 15⟩,
  ⟨0x0, 0, 1, 25, 2, .rw, 0, 0, 3⟩,
  ⟨0x4, 0, 1, 0, 32, .rwl, 0, 0, 4294967295⟩,
  ⟨0x8, 0, 1, 0, 32, .rwl, 0, 0, 4294967295⟩,
  ⟨0xc, 0, 1, 0, 16, .rwl, 0, 0, 65535⟩,
  ⟨0x10, 0, 1, 0, 32, .rwl, 0, 0, 4294967295⟩,
  ⟨0x14, 0, 1, 0, 32, .rwl, 0, 0, 4294967295⟩,
  ⟨0x18, 0, 1, 0, 16, .rwl, 0, 1, 65535⟩,
  ⟨0x1c, 0, 1, 0, 2, .wo, 0, 0, 3⟩,
  ⟨0x20, 0, 1, 0, 2, .ro, 0, 0, 3⟩,
  ⟨0x20, 0, 1, 8, 8, .ro, 0, 0, 255⟩]
def hlRowsB : List RegRow := [
  ⟨0x20, 0, 1, 16, 16, .ro, 0, 0, 65535⟩,
  ⟨0x24, 0, 1, 0, 32, .ro, 0, 0, 4294967295⟩]
/-- The rows of the hl registers. -/
def hlRows : List RegRow := hlRowsA ++ hlRowsB
def flRowsA : List RegRow := [
  ⟨0x800, 0, 1, 0, 1, .rw, 1, 0, 1⟩,
  ⟨0x800, 0, 1, 1, 8, .rwl, 16, 1, 255⟩,
  ⟨0x800, 0, 1, 9, 6, .rwl, 0, 0, 63⟩,
  ⟨0x800, 0, 1, 15, 5, .rwl, 24, 16, 29⟩,
  ⟨0x800, 0, 1, 20, 1, .rwl, 1, 0, 1⟩,
  ⟨0x804, 0, 1, 0, 19, .rwl, 128, 0, 524287⟩,
  ⟨0x808, 0, 1, 0, 16, .rwl, 3, 0, 65535⟩,
  ⟨0x80c, 0, 1, 0, 17, .rwl, 0, 0, 131071⟩,
  ⟨0x810, 0, 1, 0, 19, .rwl, 0, 0, 524287⟩,
  ⟨0x814, 0, 1, 0, 16, .rwl, 0, 0, 65535⟩,
  ⟨0x818, 0, 1, 0, 32, .rwl, 0, 0, 4294967295⟩,
  ⟨0x81c, 0, 1, 0, 9, .rwl, 0, 0, 256⟩,
  ⟨0x820, 0, 1, 0, 2, .wo, 0, 0, 3⟩,
  ⟨0x824, 0, 1, 0, 19, .rwl, 0, 0, 524287⟩,
  ⟨0x828, 0, 1, 0, 32, .rwl, 105381893, 0, 4294967295⟩,
  ⟨0x82c, 0, 1, 0, 4, .ro, 0, 0, 15⟩]
def flRowsB : List RegRow := [
  ⟨0x82c, 0, 1, 8, 4, .ro, 0, 0, 15⟩,
  ⟨0x82c, 0, 1, 16, 1, .ro, 0, 0, 1⟩,
  ⟨0x82c, 0, 1, 24, 8, .ro, 0, 0, 255⟩,
  ⟨0x900, 4, 64, 0, 32, .rwl, 0, 0, 4294967295⟩,
  ⟨0xffc, 0, 1, 0, 32, .err, 0, 0, 4294967295⟩]
/-- The rows of the fl registers. -/
def flRows : List RegRow := flRowsA ++ flRowsB
def thermRowsA : List RegRow := [
  ⟨0x0, 0, 1, 0, 1, .rwl, 1, 0, 1⟩,
  ⟨0x4, 0, 1, 0, 13, .rwl, 1760, 0, 8191⟩,
  ⟨0x8, 0, 1, 0, 13, .rwl, 1920, 0, 8191⟩,
  ⟨0xc, 0, 1, 0, 8, .rwl, 80, 1, 255⟩,
  ⟨0x10, 0, 1, 0, 10, .rwl, 50, 1, 1000⟩,
  ⟨0x14, 0, 1, 0, 16, .rwl, 16368, 0, 65535⟩,
  ⟨0x18, 0, 1, 0, 10, .rwl, 100, 10, 1000⟩,
  ⟨0x18, 0, 1, 16, 10, .rwl, 1000, 100, 1000⟩,
  ⟨0x1c, 0, 1, 0, 14, .rwl, 8000, 0, 16383⟩,
  ⟨0x20, 0, 1, 0, 14, .ro, 8000, 0, 16383⟩,
  ⟨0x24, 0, 1, 0, 5, .ro, 0, 0, 31⟩,
  ⟨0x28, 0, 1, 0, 16, .ro, 0, 0, 65535⟩,
  ⟨0x40, 4, 16, 0, 13, .ro, 0, 0, 8191⟩,
  ⟨0x80, 4, 16, 0, 13, .ro, 0, 0, 8191⟩,
  ⟨0xc0, 0, 1, 0, 16, .ro, 0, 0, 65535⟩,
  ⟨0xc4, 0, 1, 0, 16, .ro, 0, 0, 65535⟩]
def thermRowsB : List RegRow := [
  ⟨0x100, 4, 9, 0, 16, .rwl, 0, 0, 65535⟩,
  ⟨0x140, 4, 9, 0, 16, .rwl, 0, 0, 65535⟩,
  ⟨0x180, 4, 9, 0, 16, .rwl, 0, 0, 65535⟩,
  ⟨0x1c0, 4, 9, 0, 16, .rwl, 0, 0, 65535⟩,
  ⟨0x200, 4, 9, 0, 16, .rwl, 0, 0, 65535⟩,
  ⟨0x240, 4, 9, 0, 16, .rwl, 0, 0, 65535⟩,
  ⟨0x280, 0, 1, 0, 6, .wo, 0, 0, 63⟩,
  ⟨0xffc, 0, 1, 0, 32, .err, 0, 0, 4294967295⟩]
/-- The rows of the therm registers. -/
def thermRows : List RegRow := thermRowsA ++ thermRowsB
def peatRowsA : List RegRow := [
  ⟨0x0, 0, 1, 0, 1, .rwl, 1, 0, 1⟩,
  ⟨0x4, 0, 1, 0, 13, .rwl, 5000, 3000, 5500⟩,
  ⟨0x8, 0, 1, 0, 16, .rwl, 240, 0, 65535⟩,
  ⟨0xc, 0, 1, 0, 13, .ro, 0, 0, 8191⟩,
  ⟨0x10, 0, 1, 0, 7, .ro, 0, 0, 127⟩,
  ⟨0x14, 0, 1, 0, 7, .wo, 0, 0, 127⟩,
  ⟨0x18, 0, 1, 0, 32, .wo, 0, 0, 4294967295⟩,
  ⟨0x1c, 0, 1, 0, 32, .wo, 0, 0, 4294967295⟩,
  ⟨0x20, 0, 1, 0, 32, .wo, 0, 0, 4294967295⟩,
  ⟨0x24, 0, 1, 0, 32, .wo, 0, 0, 4294967295⟩,
  ⟨0x28, 0, 1, 0, 18, .rwl, 0, 0, 262143⟩,
  ⟨0x2c, 0, 1, 0, 32, .rwl, 0, 0, 4294967295⟩,
  ⟨0x30, 0, 1, 0, 8, .ro, 0, 0, 255⟩,
  ⟨0x34, 0, 1, 0, 16, .ro, 0, 0, 65535⟩,
  ⟨0x38, 0, 1, 0, 16, .ro, 0, 0, 65535⟩,
  ⟨0x3c, 0, 1, 0, 16, .ro, 0, 0, 65535⟩]
def peatRowsB : List RegRow := [
  ⟨0x40, 0, 1, 0, 32, .ro, 0, 0, 4294967295⟩,
  ⟨0x44, 0, 1, 0, 16, .ro, 0, 0, 65535⟩,
  ⟨0x48, 0, 1, 0, 16, .ro, 0, 0, 65535⟩,
  ⟨0xffc, 0, 1, 0, 32, .err, 0, 0, 4294967295⟩]
/-- The rows of the peat registers. -/
def peatRows : List RegRow := peatRowsA ++ peatRowsB
def sysRows : List RegRow := [
  ⟨0x0, 0, 1, 0, 16, .ro, 20804, 0, 65535⟩,
  ⟨0x0, 0, 1, 16, 16, .ro, 0, 0, 65535⟩,
  ⟨0x4, 0, 1, 0, 3, .ro, 0, 0, 7⟩,
  ⟨0x4, 0, 1, 3, 1, .ro, 0, 0, 1⟩,
  ⟨0x4, 0, 1, 4, 1, .ro, 0, 0, 1⟩,
  ⟨0x8, 0, 1, 0, 1, .ro, 0, 0, 1⟩,
  ⟨0x8, 0, 1, 1, 1, .ro, 0, 0, 1⟩,
  ⟨0xc, 0, 1, 0, 32, .ro, 0, 0, 4294967295⟩,
  ⟨0x10, 0, 1, 0, 16, .ro, 0, 0, 65535⟩,
  ⟨0x14, 0, 1, 0, 1, .w1s, 0, 0, 1⟩,
  ⟨0x14, 0, 1, 1, 1, .wo, 0, 0, 1⟩,
  ⟨0x18, 0, 1, 0, 4, .ro, 0, 0, 15⟩,
  ⟨0x18, 0, 1, 4, 4, .w1c, 0, 0, 15⟩,
  ⟨0x1c, 0, 1, 0, 32, .ro, 25165824, 0, 4294967295⟩,
  ⟨0xfc, 0, 1, 0, 32, .err, 0, 0, 4294967295⟩]
def faultRows : List RegRow := [
  ⟨0x0, 0, 1, 0, 9, .rwl, 167, 0, 511⟩,
  ⟨0x4, 0, 1, 0, 9, .w1c, 0, 0, 511⟩,
  ⟨0x8, 0, 1, 0, 1, .ro, 1, 0, 1⟩,
  ⟨0x8, 0, 1, 1, 1, .ro, 0, 0, 1⟩,
  ⟨0x8, 0, 1, 2, 1, .w1c, 0, 0, 1⟩,
  ⟨0x8, 0, 1, 3, 1, .w1c, 0, 0, 1⟩,
  ⟨0xc, 0, 1, 0, 16, .ro, 0, 0, 65535⟩,
  ⟨0x10, 0, 1, 0, 32, .ro, 0, 0, 4294967295⟩,
  ⟨0x14, 0, 1, 0, 4, .ro, 0, 0, 15⟩,
  ⟨0x14, 0, 1, 16, 16, .ro, 0, 0, 65535⟩,
  ⟨0x18, 0, 1, 0, 16, .ro, 0, 0, 65535⟩,
  ⟨0xfc, 0, 1, 0, 32, .err, 0, 0, 4294967295⟩]
def afeGlobRows : List RegRow := [
  ⟨0x20800, 0, 1, 0, 32, .err, 0, 0, 4294967295⟩]

end Sys2Proof.Machine
end

