-- ==== Sys2Proof/Machine/Ops.lean ====
section
/-!
DEFINITION. The named operations every block uses: sparse tables, bit fields, the register file with its reset words,
byte memory, error latches (R384), events and their log (R277 to R280, R348), tick-bound requests (R29, R30), command
completion (R272, R274) and exact rounding.
-/
namespace Sys2Proof.Machine

/-! ### Sparse tables -/

/-- The value a table holds at a key; an unlisted key reads as its default. -/
def tget {α : Type} (d : Nat → α) : Tbl α → Nat → α
  | [], k => d k
  | (k', v) :: t, k => if k = k' then v else tget d t k

/-- Insert or replace in key order. -/
def tput {α : Type} (k : Nat) (v : α) : Tbl α → Tbl α
  | [] => [(k, v)]
  | (k', v') :: t =>
    if k < k' then (k, v) :: (k', v') :: t
    else if k = k' then (k, v) :: t
    else (k', v') :: tput k v t

/-- Remove a key. -/
def tdel {α : Type} (k : Nat) : Tbl α → Tbl α
  | [] => []
  | (k', v') :: t => if k = k' then tdel k t else (k', v') :: tdel k t

/-- Write a key; writing its default removes the entry, so equal contents are equal data. -/
def tset {α : Type} [DecidableEq α] (d : Nat → α) (k : Nat) (v : α) (t : Tbl α) : Tbl α :=
  if v = d k then tdel k t else tput k v t

/-- The canonical form: keys strictly rising and no entry equal to its default. -/
def twf {α : Type} [DecidableEq α] (d : Nat → α) : Tbl α → Bool
  | [] => true
  | [(k, v)] => decide (v ≠ d k)
  | (k, v) :: (k', v') :: t => decide (v ≠ d k) && decide (k < k') && twf d ((k', v') :: t)

/-! ### Bits and exact arithmetic -/

/-- Bits [lo + len - 1 : lo] of a number. -/
def nbits (w lo len : Nat) : Nat := w / 2 ^ lo % 2 ^ len

/-- Bits [lo + len - 1 : lo] of a word. -/
def wbits (w : Word) (lo len : Nat) : Nat := nbits w.toNat lo len

/-- A word with bits [lo + len - 1 : lo] replaced. -/
def putBits (w : Word) (lo len v : Nat) : Word :=
  BitVec.ofNat 32 (w.toNat - wbits w lo len * 2 ^ lo + v % 2 ^ len * 2 ^ lo)

/-- A number below 2^n read as two's complement. -/
def sext (n v : Nat) : Int := if 2 ^ n ≤ 2 * (v % 2 ^ n) then (v % 2 ^ n : Nat) - (2 ^ n : Nat) else (v % 2 ^ n : Nat)

/-- Two's complement bits of an integer. -/
def unsx (n : Nat) (v : Int) : Nat := (v % (2 ^ n : Nat)).toNat

/-- a / b rounded to nearest, ties to even (the `rdiv` of R129); 0 when b is 0. -/
def rdiv (a b : Int) : Int :=
  if b = 0 then 0 else
  let n := if b < 0 then -a else a
  let m := if b < 0 then -b else b
  let q := n / m
  let r := 2 * (n % m)
  if r < m then q else if m < r then q + 1 else if q % 2 = 0 then q else q + 1

/-- `rne(x, k)`: x / 2^k to nearest, ties to even (R101). -/
def rne (x : Int) (k : Nat) : Int := rdiv x (2 ^ k : Nat)

/-- a / b to nearest, an exact half upward (R68). -/
def rhalfUp (a b : Int) : Int := (2 * a + b) / (2 * b)

/-- Limit to a range. -/
def clampI (lo hi x : Int) : Int := if x < lo then lo else if hi < x then hi else x

/-- `satN`: limit to the N-bit two's complement range. -/
def satI (n : Nat) (x : Int) : Int := clampI (-(2 ^ (n - 1) : Nat)) ((2 ^ (n - 1) : Nat) - 1) x

/-- Division rounded up. -/
def ceilDiv (a b : Nat) : Nat := if b = 0 then 0 else (a + b - 1) / b

/-- a / b where the manual gives no rounding: one of the two neighbours, chosen by a free value; exact when exact. -/
def freeDiv (a b : Int) : Int :=
  if a % b = 0 then a / b else if Config.freeUp a b then a / b + 1 else a / b

/-! ### Instants -/

def unitsPerNs : Nat := 256
def unitsPerUs : Nat := 256000
def unitsPerMs : Nat := 256000000
def unitsPerS : Nat := 256000000000
/-- One period of the 400 MHz core clock, 2.5 ns (R403). -/
def coreUnit : Nat := 640
/-- The core clock edge nearest an instant, the later of two on a tie (R403). (DESIGN CHOICE, log entry 6) -/
def coreNear (t : Nat) : Nat := (t + coreUnit / 2) / coreUnit * coreUnit
/-- The first core clock edge at or after an instant (R403). -/
def coreCeil (t : Nat) : Nat := (t + coreUnit - 1) / coreUnit * coreUnit
/-- The core clock edge at or before an instant. -/
def coreFloor (t : Nat) : Nat := t / coreUnit * coreUnit

/-! ### The register file -/

/-- Does a row name the register at this offset of its instance? -/
def RegRow.hits (r : RegRow) (o : Nat) : Bool :=
  r.off ≤ o && (if r.stride = 0 then o == r.off else (o - r.off) % r.stride == 0 && (o - r.off) / r.stride < r.count)

/-- The rows of a list that name the register at an offset. -/
def rowsAt (l : List RegRow) (o : Nat) : List RegRow := l.filter (·.hits o)

/-- The register blocks of R383, with the array, global and port parts told apart. -/
inductive Blk where
  | sys | tick | fault | head | slice | group | afeGlob | corr | cal | actCh | act | mire | eng | vidHead | vid | palette
  | mem | dmaCh | dma | host | mgmt | hl | fl | therm | peat
  deriving DecidableEq, Repr, Inhabited

/-- Where an offset lies: block, instance, offset of the instance base. -/
structure Loc where
  blk : Blk
  inst : Nat
  base : Nat
  deriving DecidableEq, Repr

/-- The block and instance of a BAR0 offset (R383, R384); none outside every block. Offsets of a block outside every
instance belong to its global part where it has one. -/
def locate (o : Nat) : Option Loc :=
  if o < 0x010000 then some ⟨.sys, 0, 0⟩
  else if o < 0x020000 then some ⟨.tick, 0, 0x010000⟩
  else if o < 0x030000 then some ⟨.fault, 0, 0x020000⟩
  else if o < 0x040000 then none
  else if o < 0x080000 then some ⟨.head, (o - 0x040000) / 0x10000, o / 0x10000 * 0x10000⟩
  else if o < 0x089800 then some ⟨.slice, (o - 0x080000) / 0x100, o / 0x100 * 0x100⟩
  else if o < 0x0A0000 then some ⟨.afeGlob, 0, 0x080000⟩
  else if o < 0x0A0400 then some ⟨.group, (o - 0x0A0000) / 0x100, o / 0x100 * 0x100⟩
  else if o < 0x0C0000 then some ⟨.afeGlob, 0, 0x080000⟩
  else if o < 0x100000 then some ⟨.corr, (o - 0x0C0000) / 0x10000, o / 0x10000 * 0x10000⟩
  else if o < 0x100400 then some ⟨.cal, (o - 0x100000) / 0x100, o / 0x100 * 0x100⟩
  else if o < 0x110000 then none
  else if o < 0x110800 then some ⟨.actCh, (o - 0x110000) / 0x100, o / 0x100 * 0x100⟩
  else if o < 0x120000 then some ⟨.act, 0, 0x110000⟩
  else if o < 0x128000 then some ⟨.mire, 0, 0x120000⟩
  else if o < 0x130000 then some ⟨.eng, 0, 0x128000⟩
  else if o < 0x1A0000 then some ⟨.mire, (o - 0x120000) / 0x10000, o / 0x10000 * 0x10000⟩
  else if o < 0x1A0400 then some ⟨.vidHead, (o - 0x1A0000) / 0x100, o / 0x100 * 0x100⟩
  else if o < 0x1A4000 then some ⟨.vid, 0, 0x1A0000⟩
  else if o < 0x1A6000 then some ⟨.palette, (o - 0x1A4000) / 0x400, o / 0x400 * 0x400⟩
  else if o < 0x1B0000 then some ⟨.vid, 0, 0x1A0000⟩
  else if o < 0x1C0000 then some ⟨.mem, 0, 0x1B0000⟩
  else if o < 0x1C0400 then some ⟨.dmaCh, (o - 0x1C0000) / 0x40, o / 0x40 * 0x40⟩
  else if o < 0x1D0000 then some ⟨.dma, 0, 0x1C0000⟩
  else if o < 0x1E0000 then some ⟨.host, 0, 0x1D0000⟩
  else if o < 0x1E0100 then some ⟨.mgmt, 0, 0x1E0000⟩
  else if o < 0x1E0200 then some ⟨.hl, (o - 0x1E0100) / 0x40, 0x1E0100 + (o - 0x1E0100) / 0x40 * 0x40⟩
  else if o < 0x1F0000 then some ⟨.fl, 0, 0x1E0000⟩
  else if o < 0x200000 then some ⟨.therm, 0, 0x1F0000⟩
  else if o < 0x210000 then some ⟨.peat, 0, 0x200000⟩
  else none

/-- The palette registers: ARGB8888 (R201). -/
def paletteRows : List RegRow := [⟨0x0, 4, 256, 0, 32, .rwl, 0, 0, 0xFFFFFFFF⟩]

/-- The register rows of a block. -/
def blkRows : Blk → List RegRow
  | .sys => sysRows | .tick => tickRows | .fault => faultRows | .head => headRows | .slice => afeSliceRows
  | .group => afeGrpRows | .afeGlob => afeGlobRows | .corr => corrRows | .cal => calRows | .actCh => actChRows
  | .act => actRows | .mire => engMireRows | .eng => engRows | .vidHead => vidHeadRows | .vid => vidRows
  | .palette => paletteRows | .mem => memRows | .dmaCh => dmaChRows | .dma => dmaRows | .host => hostRows
  | .mgmt => mgmtRows | .hl => hlRows | .fl => flRows | .therm => thermRows | .peat => peatRows

/-- The reset word of a slice's control register (R90): its input and role depend on the slice. -/
def sliceCtlReset (i : Nat) : Nat := if i % 38 < 36 then 0x100 + i % 38 else 0x17F

/-- The value a register holds at reset, and reads while the register file lists nothing for it (R385).
(DESIGN CHOICE, log entry 8) -/
def resetWord (o : Nat) : Word :=
  match locate o with
  | none => 0
  | some l =>
    if l.blk = .slice && o == l.base then BitVec.ofNat 32 (sliceCtlReset l.inst)
    else BitVec.ofNat 32 (((rowsAt (blkRows l.blk) (o - l.base)).map fun r => r.reset * 2 ^ r.lo).sum)

/-- The word a register holds. (DESIGN CHOICE, log entry 5) -/
def State.reg (s : State) (o : Nat) : Word := tget resetWord s.regs o

/-- Set a whole register. -/
def State.setReg (s : State) (o : Nat) (w : Word) : State := { s with regs := tset resetWord o w s.regs }

/-- The value of a field. -/
def State.fld (s : State) (f : Fld) : Nat := wbits (s.reg f.off) f.lo f.len

/-- Set a field, leaving the other bits of its register. -/
def State.setFld (s : State) (f : Fld) (v : Nat) : State := s.setReg f.off (putBits (s.reg f.off) f.lo f.len v)

/-- A one-bit field as a Bool. -/
def State.flag (s : State) (f : Fld) : Bool := s.fld f != 0

/-- Set a one-bit field. -/
def State.setFlag (s : State) (f : Fld) (b : Bool) : State := s.setFld f (if b then 1 else 0)

/-- Add to a counter that wraps at its width (R8). -/
def State.bump (s : State) (f : Fld) (n : Nat := 1) : State := s.setFld f (s.fld f + n)

/-- Add 1 to a counter that saturates. -/
def State.bumpSat (s : State) (f : Fld) : State := if s.fld f + 1 < 2 ^ f.len then s.setFld f (s.fld f + 1) else s

/-- A 64-bit base in effect (R404): the LO half in effect is held beside the register a LO write changes. -/
def State.base (s : State) (lo hi : Fld) : Nat :=
  (tget (fun _ => (0 : Word)) s.baseLo lo.off).toNat + 2 ^ 32 * s.fld hi

/-- Give a 64-bit base a value: both halves and the base in effect. -/
def State.setBase (s : State) (lo hi : Fld) (v : Nat) : State :=
  let s := (s.setFld lo v).setFld hi (v / 2 ^ 32)
  { s with baseLo := tset (fun _ => (0 : Word)) lo.off (BitVec.ofNat 32 v) s.baseLo }

/-- Two registers that together show a 64-bit value. -/
def State.set64 (s : State) (lo hi : Fld) (v : Nat) : State := (s.setFld lo v).setFld hi (v / 2 ^ 32)

/-! ### Refusals (R4, R384) -/

/-- Latch a refusal in an error register: offset in its low `w` bits, further fields in `extra`, VALID. -/
def State.latch (s : State) (err : Fld) (w rel : Nat) (extra : Nat := 0) : State :=
  s.setReg err.off (BitVec.ofNat 32 (2 ^ 31 + extra + rel % 2 ^ w))

/-- Latch a refused access to a register of an instance (R384): which error register, and the offset it shows. -/
def State.refuse (s : State) (o : Nat) (cause : Nat := 0) : State :=
  match locate o with
  | none => s.latch R.sysErr 12 o (cause * 2 ^ 16)
  | some l =>
    match l.blk with
    | .sys => s.latch R.sysErr 12 o (cause * 2 ^ 16)
    | .tick => s.latch R.tickErr 12 (o - 0x10000)
    | .fault => s.latch R.faultErr 12 (o - 0x20000)
    | .head => s.latch (R.headErr l.inst) 12 (o - l.base) (cause * 2 ^ 16)
    | .slice | .group | .afeGlob => s.latch R.afeErr 18 (o - 0x80000) (cause * 2 ^ 20)
    | .corr => s.latch (R.corrErr l.inst) 12 (o - l.base)
    | .cal => s.latch (R.calErr l.inst) 8 (o - l.base) (cause * 2 ^ 16)
    | .actCh => s.latch R.actErr 12 (o - 0x110000) (l.inst * 2 ^ 16 + cause * 2 ^ 20)
    | .act => s.latch R.actErr 12 (o - 0x110000) (cause * 2 ^ 20)
    | .mire => s.latch (R.engMireErr l.inst) 12 (o - l.base)
    | .eng => s.latch R.engErr 12 (o - 0x128000) (cause * 2 ^ 16)
    | .vidHead | .vid | .palette => s.latch R.vidErr 16 (o - 0x1A0000)
    | .mem => s.latch R.memErr 12 (o - 0x1B0000) (cause * 2 ^ 16)
    | .dmaCh => s.latch R.dmaErr 12 (o - 0x1C0000) (l.inst * 2 ^ 16)
    | .dma => s.latch R.dmaErr 12 (o - 0x1C0000)
    | .host => s.latch R.hostErr 12 (o - 0x1D0000) (cause * 2 ^ 16)
    | .mgmt => s.latch R.spiErr 12 (o - 0x1E0000) (cause * 2 ^ 20)
    | .hl => s.latch R.spiErr 12 (o - 0x1E0000) ((l.inst + 1) * 2 ^ 16 + cause * 2 ^ 20)
    | .fl => s.latch R.spiErr 12 (o - 0x1E0000) (5 * 2 ^ 16 + cause * 2 ^ 20)
    | .therm => s.latch R.thermErr 12 (o - 0x1F0000) (cause * 2 ^ 16)
    | .peat => s.latch R.peatErr 12 (o - 0x200000) (cause * 2 ^ 16)

/-! ### Objects -/

def State.head (s : State) (h : Nat) : Head := tget (fun _ => {}) s.heads h
def State.setHead (s : State) (h : Nat) (x : Head) : State := { s with heads := tset (fun _ => {}) h x s.heads }
def State.modHead (s : State) (h : Nat) (f : Head → Head) : State := s.setHead h (f (s.head h))
def State.slice (s : State) (i : Nat) : Slice := tget (fun _ => {}) s.slices i
def State.setSlice (s : State) (i : Nat) (x : Slice) : State := { s with slices := tset (fun _ => {}) i x s.slices }
def State.modSlice (s : State) (i : Nat) (f : Slice → Slice) : State := s.setSlice i (f (s.slice i))
def State.group (s : State) (g : Nat) : Group := tget (fun _ => {}) s.groups g
def State.setGroup (s : State) (g : Nat) (x : Group) : State := { s with groups := tset (fun _ => {}) g x s.groups }
def State.modGroup (s : State) (g : Nat) (f : Group → Group) : State := s.setGroup g (f (s.group g))
def State.pipe (s : State) (h : Nat) : Pipe := tget (fun _ => {}) s.pipes h
def State.setPipe (s : State) (h : Nat) (x : Pipe) : State := { s with pipes := tset (fun _ => {}) h x s.pipes }
def State.modPipe (s : State) (h : Nat) (f : Pipe → Pipe) : State := s.setPipe h (f (s.pipe h))
def State.cal (s : State) (h : Nat) : Cal := tget (fun _ => {}) s.cals h
def State.setCal (s : State) (h : Nat) (x : Cal) : State := { s with cals := tset (fun _ => {}) h x s.cals }
def State.modCal (s : State) (h : Nat) (f : Cal → Cal) : State := s.setCal h (f (s.cal h))

/-- Move the clock to an instant that has come (never back). (DESIGN CHOICE, log entry 2) -/
def State.at (s : State) (t : Nat) : State := { s with now := max s.now t }

/-- POWERED_NS (R34). -/
def State.poweredNs (s : State) : Nat := s.now / unitsPerNs % 2 ^ 64

/-- A fresh free value's index. (DESIGN CHOICE, log entry 11) -/
def State.fresh (s : State) : State := { s with freeCtr := s.freeCtr + 1 }

/-- The functional blocks run: powered up and booted, not frozen, not shut down (R328, R356, R371, R372). -/
def State.alive (s : State) : Bool := s.ao.up && !s.ao.frozen && !s.ao.shut

/-- An effect of the core domain; nothing happens while it is not up. -/
def whenUp (f : State → State) (s : State) : State := if s.ao.up then f s else s

/-- A write of a register of a functional block: refused while the block is frozen and latched in SYS_ERR (R371). -/
def whenReg (o : Nat) (f : State → State) (s : State) : State :=
  if !s.ao.up then s else if s.ao.frozen then s.latch R.sysErr 12 o (2 ^ 16) else f s

/-- An effect of the serial ports' data paths, which a thermal shutdown leaves in service (R328, R329) and a freeze does not
(R371). -/
def whenThawed (f : State → State) (s : State) : State := if s.ao.up && !s.ao.frozen then f s else s

/-- An effect of the always-on domain; nothing happens without VIO33. -/
def whenPowered (f : State → State) (s : State) : State := if s.ao.step = .off then s else f s

/-- EXTEST has taken the balls from the device's functions (R375). -/
def State.ballsTaken (s : State) : Bool := s.ao.ir == 0

/-- What comes in on a ball of the boundary-scan chain: nothing reaches the device's functions while EXTEST has taken the balls
(R375). (DEDUCED, log entry 90) -/
def whenBalls (f : State → State) (s : State) : State := if s.ballsTaken then s else f s

/-- Firmware works: the control pair is neither stopped nor failed nor switching (R363, R366, R367). -/
def State.fwRuns (s : State) : Bool := s.ao.lsStop.isNone && !s.ao.failed && s.ao.sw.isNone

/-! ### Memory -/

/-- What a byte nothing has written reads as: 0xFF in the flash window (R312), 0 elsewhere. (DESIGN CHOICE, log entry 7) -/
def memDefault (a : Nat) : Byte := if 0x3000000000 ≤ a && a < 0x3020000000 then 0xFF else 0

def State.byte (s : State) (a : Nat) : Byte := tget memDefault s.mem a
def State.setByte (s : State) (a : Nat) (b : Byte) : State := { s with mem := tset memDefault a b s.mem }

/-- The little-endian value of a list of bytes. -/
def leNat : List Byte → Nat
  | [] => 0
  | b :: t => b.toNat + 256 * leNat t

/-- The n little-endian bytes of a value. -/
def leBytes : Nat → Nat → List Byte
  | 0, _ => []
  | n + 1, v => BitVec.ofNat 8 v :: leBytes n (v / 256)

def State.bytes (s : State) (a n : Nat) : List Byte := (List.range n).map fun i => s.byte (a + i)
def State.rd (s : State) (a n : Nat) : Nat := leNat (s.bytes a n)

/-- Store bytes at rising addresses. -/
def State.putBytes (s : State) (a : Nat) : List Byte → State
  | [] => s
  | b :: t => (s.setByte a b).putBytes (a + 1) t

def State.wr (s : State) (a n v : Nat) : State := s.putBytes a (leBytes n v)

/-- The error state of the 8-byte group that holds an address: 0 good, 1 single-bit, 2 uncorrectable (R219, R220). -/
def State.eccOf (s : State) (a : Nat) : Nat := tget (fun _ => 0) s.ecc (a / 8)
def State.setEcc (s : State) (grp v : Nat) : State := { s with ecc := tset (fun _ => 0) grp v s.ecc }

/-- The 8-byte groups a byte range touches. -/
def groupsOf (a n : Nat) : List Nat :=
  if n = 0 then [] else (List.range ((a + n - 1) / 8 - a / 8 + 1)).map (a / 8 + ·)

/-- Does a byte range touch a group with an uncorrectable error? -/
def State.ueIn (s : State) (a n : Nat) : Bool := (groupsOf a n).any fun g => tget (fun _ => 0) s.ecc g == 2

/-- Is a byte range wholly in device DRAM (R20)? -/
def inDram (a n : Nat) : Bool := a + n ≤ 0x70000000

/-! ### Events (R277 to R280) and the log (R348) -/

/-- A single fault has been absorbed (R364, R365): its row, and its stall in us. -/
def State.handled (s : State) (row : Nat) (stall : Nat := 0) : State :=
  let v := min stall 0xFFFF
  let s := ((s.bump R.faultHandled).setFld R.faultLastKind row).setFld R.faultLastStall v
  s.setFld R.faultStallMax (max (s.fld R.faultStallMax) v)

/-- Does a detected fault still wait for its absorption (R365): 1 a slice, 2 an engine, 4 a record, 6 the control pair? -/
def State.faultOpen (s : State) (f : Nat × Nat) : Bool :=
  match f.1 with
  | 1 => (s.group (f.2 / 38)).decl.any (fun d => d.1 == f.2 % 38 && d.2.1 != 5) ||
      (s.group (f.2 / 38)).takes.any (fun t => t.failing == f.2 % 38 && t.case != 5)
  | 2 => s.arr.restarts.any (·.eng == f.2)
  | 4 => (s.cal (f.2 / 2 ^ 32)).repairs.contains (f.2 / 2 ^ 31 % 2, f.2 % 2 ^ 31)
  | _ => s.ao.lsStop.isSome && !s.ao.failed

/-- A fault is detected: it comes after those that wait (R364). -/
def State.faultFound (s : State) (row key : Nat) : State :=
  { s with ao := { s.ao with faults := s.ao.faults.filter (fun f => s.faultOpen f && f != (row, key)) ++ [(row, key)] } }

/-- Is it a fault's turn: no fault detected before it still waits (R364)? -/
def State.faultTurn (s : State) (row key : Nat) : Bool :=
  match s.ao.faults.find? s.faultOpen with
  | none => true
  | some f => f == (row, key)

def peatByte (p : Peat) (o : Nat) : Byte := tget (fun _ => 0) p.sram o
/-- Store bytes in the SRAM. -/
def peatPutB (p : Peat) (o : Nat) : List Byte → Peat
  | [] => p
  | b :: t => peatPutB { p with sram := tset (fun _ => 0) o b p.sram } (o + 1) t
/-- Write the SRAM: a group written whole loses its poison (R337). -/
def peatPut (p : Peat) (o : Nat) (bs : List Byte) : Peat :=
  let q := peatPutB p o bs
  { q with ecc := q.ecc.filter fun g => !(decide (o ≤ 4 * g.1) && decide (4 * g.1 + 4 ≤ o + bs.length)) }
/-- A word of the SRAM as the device reads it: an uncorrectable group reads zero (R337). -/
def peatWord (p : Peat) (o : Nat) : Nat :=
  if tget (fun _ => 0) p.ecc (o / 4) = 2 then 0 else leNat ((List.range 4).map fun i => peatByte p (o + i))
def peatSetWord (p : Peat) (o v : Nat) : Peat := peatPut p o (leBytes 4 v)

/-- Raise a counter of the counters partition by 1; all but NEXT_LSEQ saturate (R347). -/
def peatCount (p : Peat) (off : Nat) : Peat :=
  let v := peatWord p (0x4000 + off)
  if off = 0x14 then peatSetWord p (0x4000 + off) ((v + 1) % 2 ^ 32)
  else if v + 1 < 2 ^ 32 then peatSetWord p (0x4000 + off) (v + 1) else p

/-- Write one log entry (R348): `ns` is POWERED_NS at the entry. -/
def peatLog (p : Peat) (ns code seq obj p0 p1 : Nat) : Peat :=
  let lseq := peatWord p 0x4014
  let o := 0x5000 + 32 * (lseq % 1024)
  let ws := [lseq, peatWord p 0x4000, peatWord p 0x4004 % 2 ^ 16 + seq * 2 ^ 16, ns % 2 ^ 32, ns / 2 ^ 32,
    code + obj % 256 * 2 ^ 16, p0, p1]
  peatCount (peatPut p o (ws.map (leBytes 4)).flatten) 0x14

/-- Apply one queued update of the device's own (R341). -/
def peatApply (p : Peat) : PeatUpd → Peat
  | .count off => peatCount p off
  | .log ns code seq obj p0 p1 => peatLog p ns code seq obj p0 p1
  | .put off bs => peatPut p off bs

/-- The words of the SRAM that an update reads. -/
def peatReadsOf : PeatUpd → List Nat
  | .count off => [0x4000 + off]
  | .log .. => [0x4000, 0x4004, 0x4014]
  | .put .. => []

/-- A word of the SRAM is read: a single-bit error is corrected in place and counted; an uncorrectable one is counted, and the
answer is true (R337, R365). -/
def State.peatMet (s : State) (o : Nat) : Bool × State :=
  match tget (fun _ => 0) s.peat.ecc (o / 4) with
  | 1 => (false, (({ s with peat := { s.peat with ecc := tdel (o / 4) s.peat.ecc } } : State).bump R.peatCe).handled 3)
  | 2 => (true, s.bump R.peatUe)
  | _ => (false, s)

/-- One of the device's own updates: at once, or queued while a store runs, lost when the queue of 64 is full (R341). With the
offsets of the groups it found uncorrectable. -/
def State.peatDo (s : State) (u : PeatUpd) : List Nat × State :=
  if s.peat.storing then
    if s.peat.queue.length < 64 then ([], { s with peat := { s.peat with queue := s.peat.queue ++ [u] } })
    else ([], s.bump R.peatLogLost)
  else
    let r := (peatReadsOf u).foldl (fun (p : List Nat × State) o =>
      let m := p.2.peatMet o
      (if m.1 then p.1 ++ [o] else p.1, m.2)) ([], s)
    (r.1, { r.2 with peat := peatApply r.2.peat u })

/-- An event takes the next SEQ, a place in the queue of 256 or counts as lost (R280), and makes a log entry (R348). With the
offsets of the groups that the entry found uncorrectable. -/
def State.raiseOne (s : State) (code obj p0 p1 : Nat) : List Nat × State :=
  let seq := s.fld R.hostEvtSeq
  let s := s.bump R.hostEvtSeq
  let s := if s.events.length < 256
    then { s with events := s.events ++ [{ code, seq, obj := obj % 256, p0 := p0 % 2 ^ 32, p1 := p1 % 2 ^ 32 }] }
    else { (s.bump R.hostEvtLost) with evtLost := s.evtLost + 1 }
  s.peatDo (.log s.poweredNs code seq obj (p0 % 2 ^ 32) (p1 % 2 ^ 32))

/-- Raise an event. An uncorrectable group that its log entry meets raises an event of its own (R337); the entry of that event
raises none. (DESIGN CHOICE, log entry 86) -/
def State.raise (s : State) (code obj : Nat) (p0 : Nat := 0) (p1 : Nat := 0) : State :=
  let r := s.raiseOne code obj p0 p1
  r.1.foldl (fun s o => (s.raiseOne 0x0D08 0 o 0).2) r.2

/-- One of the device's own updates, with the events of the uncorrectable groups it meets (R337). -/
def State.peatUpd (s : State) (u : PeatUpd) : State :=
  let r := s.peatDo u
  r.1.foldl (fun s o => s.raise 0x0D08 0 o) r.2

/-- Are the words that a log entry reads free of errors? -/
def State.logReads (s : State) : Bool := [0x4000, 0x4004, 0x4014].all fun o => tget (fun _ => 0) s.peat.ecc (o / 4) == 0

/-! ### Commands and requests -/

/-- Complete a command of the ring command set (R272, R274). -/
def State.finish (s : State) (uid status cause r0 r1 : Nat) : State :=
  { s with cmds := s.cmds.map fun c =>
      if c.uid = uid && c.phase < 2 then
        { c with phase := 2, status, cause, r0 := r0 % 2 ^ 32, r1 := r1 % 2 ^ 32 } else c }

/-- Complete the command a piece of work carries, if any. -/
def State.finishO (s : State) (cmd : Option Nat) (status cause r0 r1 : Nat) : State :=
  match cmd with
  | some u => s.finish u status cause r0 r1
  | none => s

/-- The number of the next tick (R29, R38). -/
def State.nextTick (s : State) : Nat := if s.tick.first then 0 else (s.fld R.tickCount + 1) % 2 ^ 32

/-- Are two requests the same work on the same object (R30)? A start and a detach of one head are (R65); the object of a
bind is its stream. (DEDUCED, log entry 55) -/
def sameWork (a b : Req) : Bool :=
  a.obj == b.obj && (a.kind == b.kind && (a.kind != .bind || a.p0 == b.p0)
    || (a.kind == .headStart && b.kind == .headDetach) || (a.kind == .headDetach && b.kind == .headStart))

/-- A request arrives: an earlier one for the same work that still waits for the same commit point is superseded. -/
def State.request (s : State) (r : Req) : State :=
  let old := s.reqs.filter fun q => !q.committed && sameWork q r
  let s := old.foldl (fun s q => s.finishO q.cmd 2 0 0 0) s
  { s with reqs := s.reqs.filter (fun q => q.committed || !sameWork q r) ++ [r] }

/-- The first committed request of a kind on an object. -/
def State.committedReq (s : State) (k : ReqKind) (obj : Nat) : Option Req :=
  s.reqs.find? fun q => q.committed && q.kind == k && q.obj == obj

/-- Bind a request anew: the next commit point takes it (R31). -/
def State.deferReq (s : State) (r : Req) : State :=
  { s with reqs := s.reqs.map fun q => if q == r then { q with committed := false } else q }

/-- Drop a request. -/
def State.dropReq (s : State) (r : Req) : State := { s with reqs := s.reqs.erase r }

/-- The next state of a command: its effect, the queue of waiting commands as it was. (DESIGN CHOICE, log entry 3) -/
def ok (f : State → State) (s : State) : Host.Outcome State Fault Refusal := .next { f s with pending := s.pending }

/-- Raise a fault-condition bit of FAULT_STAT (R380). -/
def State.faultBit (s : State) (b : Nat) : State :=
  let v := s.fld R.faultStat
  if nbits v b 1 = 1 then s else s.setFld R.faultStat (v + 2 ^ b)

end Sys2Proof.Machine
end

