-- ==== Sys2Proof/Machine/Dram.lean ====
section
/-!
DEFINITION. Requester accesses to device DRAM: address refusal (R218), ECC accounting (R219, R220), partial-group merges
(R221), and the admission arithmetic of R229 and R231.
-/
namespace Sys2Proof.Machine

/-- Is an address in host space (R243)? -/
def isHost (a : Nat) : Bool := 2 ^ 63 ≤ a

/-- What the device shows as the number of the debug port, which is none of the sixteen requesters (R223, R224).
(DESIGN CHOICE, log entry 74) -/
def State.reqShown (s : State) (req : Nat) : Nat := if req < 16 then req else Config.freeVal s.freeCtr % 16

/-- Use up the free number of the debug port. -/
def State.reqUsed (s : State) (req : Nat) : State := if req < 16 then s else s.fresh

/-- A burst outside device DRAM is refused, counted and reported (R218). -/
def State.oor (s : State) (req a : Nat) : State :=
  let n := s.reqShown req
  ((((s.bump R.memOorCnt).setFld R.memOorReq n).set64 R.memOorAddrLo R.memOorAddrHi a).raise 0x0902 n a
    (a / 2 ^ 32)).reqUsed req

/-- Account one group's error state as read by a requester (R219, R220). -/
def State.eccRead (s : State) (req grp : Nat) : State :=
  match tget (fun _ => 0) s.ecc grp with
  | 1 => ((s.bump R.memCeCnt).set64 R.memEccAddrLo R.memEccAddrHi (8 * grp)).handled 3
  | 2 => ((((s.bump R.memUeCnt).set64 R.memEccAddrLo R.memEccAddrHi (8 * grp)).raise 0x0901 (s.reqShown req) (8 * grp)
      (8 * grp / 2 ^ 32)).faultBit 5).reqUsed req
  | _ => s

/-- The outcome of a requester's read. -/
inductive RdKind where
  | good | poisoned | refused
  deriving DecidableEq, Repr

/-- The bursts of an access: address and length, each in one aligned 256-byte block (R217). -/
def burstsOf (a n : Nat) : List (Nat × Nat) :=
  if n = 0 then []
  else (List.range ((a + n - 1) / 256 - a / 256 + 1)).map fun i =>
    let lo := max a (256 * (a / 256 + i))
    (lo, min (a + n) (256 * (a / 256 + i + 1)) - lo)

/-- A requester's burst that reads `n` bytes: the data, how it came back, and the machine with the read accounted. -/
def State.burstRead (s : State) (req a n : Nat) : List Byte × RdKind × State :=
  if inDram a n then
    (s.bytes a n, if s.ueIn a n then .poisoned else .good, (groupsOf a n).foldl (fun s g => s.eccRead req g) s)
  else (List.replicate n 0, .refused, s.oor req a)

/-- A requester's read of `n` bytes, burst by burst: those outside device DRAM are refused one by one (R218). -/
def State.dramRead (s : State) (req a n : Nat) : List Byte × RdKind × State :=
  if inDram a n then s.burstRead req a n
  else
    (burstsOf a n).foldl (fun (p : List Byte × RdKind × State) b =>
      let r := p.2.2.burstRead req b.1 b.2
      (p.1 ++ r.1, .refused, r.2.2)) ([], .refused, s)

/-- Account a write's effect on one group's check byte: whole groups become good, a partial group is read, merged and
written (R221). -/
def State.eccWrite (s : State) (req a n grp : Nat) : State :=
  if a ≤ 8 * grp && 8 * grp + 8 ≤ a + n then s.setEcc grp 0
  else
    let s' := s.eccRead req grp
    if tget (fun _ => 0) s.ecc grp = 1 then s'.setEcc grp 0 else s'

/-- A requester's burst that writes bytes. -/
def State.burstWrite (s : State) (req a : Nat) (bs : List Byte) : State :=
  if inDram a bs.length then
    ((groupsOf a bs.length).foldl (fun s g => s.eccWrite req a bs.length g) s).putBytes a bs
  else s.oor req a

/-- A requester's write of bytes, burst by burst: those outside device DRAM are refused one by one (R218). -/
def State.dramWrite (s : State) (req a : Nat) (bs : List Byte) : State :=
  if inDram a bs.length then s.burstWrite req a bs
  else (burstsOf a bs.length).foldl (fun (s : State) b => s.burstWrite req b.1 ((bs.drop (b.1 - a)).take b.2)) s

/-- A byte as Sluice holds it: its value, and whether it arrived poisoned (R258). -/
abbrev DByte := Byte × Bool

/-- Bytes with the poison of the 8-byte groups they lie in. -/
def State.withPoison (s : State) (a : Nat) (bs : List Byte) : List DByte :=
  bs.zipIdx.map fun (b, i) => (b, s.eccOf (a + i) == 2)

/-- Mark the groups of poisoned bytes, and those written whole without poison as good (R221, R258). -/
def State.markPoison (s : State) (a : Nat) (bs : List DByte) : State :=
  (groupsOf a bs.length).foldl (fun (s : State) (g : Nat) =>
    let bad := bs.zipIdx.any fun (b, i) => b.2 && (a + i) / 8 == g
    if bad then s.setEcc g 2
    else if isHost a && a ≤ 8 * g && 8 * g + 8 ≤ a + bs.length then s.setEcc g 0 else s) s

/-- A write to host memory is posted, and lost without a link; whole groups written become good. -/
def State.hostPut (s : State) (a : Nat) (bs : List Byte) : State :=
  if s.host.linkUp then (s.putBytes a bs).markPoison a (bs.map fun b => (b, false)) else s

/-- Write a little-endian value of `n` bytes. -/
def State.dramPut (s : State) (req a n v : Nat) : State := s.dramWrite req a (leBytes n v)

/-- Set a bit of the AER uncorrectable error status: 12 poisoned TLP received, 18 malformed TLP, 20 unsupported request (R265).
(PRESUMED, log entry 83) -/
def State.aerBit (s : State) (k : Nat) : State := { s with host := { s.host with aer := s.host.aer ||| 2 ^ k } }

/-- A host access of the function's memory space: in D3hot it is an unsupported request. (PRESUMED, log entry 83) -/
def whenD0 (f : State → State) (s : State) : State := if s.host.d3 then s.aerBit 20 else f s

/-- A read of host memory arrives: poisoned data is reported under AER, and treated as R220 says (R265). -/
def State.hostArrives (s : State) (a n : Nat) : State := if s.ueIn a n then s.aerBit 12 else s

/-! ### Flash XIP space (R312) -/

def xipBase : Nat := 0x3000000000
/-- Bytes of flash XIP space (R312). -/
def State.xipSize (s : State) : Nat := 2 ^ s.fld R.spiFlCfgSize

/-- The bit groups of bytes on 2^code lanes, the most significant group first (R309). -/
def flGroups (code : Nat) (bs : List Nat) : List Nat :=
  bs.flatMap fun b => (List.range (8 / 2 ^ code)).map fun i => nbits b (8 - 2 ^ code * (i + 1)) (2 ^ code)

def flPhase (code : Nat) (ddr : Bool) (bs : List Nat) : FlPhase := { lanes := 2 ^ code, ddr, groups := flGroups code bs }

/-- The clocks of a phase: in DDR each carries two groups (R309). -/
def FlPhase.clocks (p : FlPhase) : Nat := if p.ddr then ceilDiv p.groups.length 2 else p.groups.length

/-- Command bytes and address bytes of a frame (R309). -/
def flCmd (f cmd : Nat) : List Nat := if nbits f 3 1 = 1 then [cmd / 256 % 256, cmd % 256] else [cmd % 256]
def flAddr (f addr : Nat) : List Nat :=
  match nbits f 7 2 with
  | 1 => [addr / 65536 % 256, addr / 256 % 256, addr % 256]
  | 2 => [addr / 2 ^ 24 % 256, addr / 65536 % 256, addr / 256 % 256, addr % 256]
  | _ => []

/-- The frame of a format word, a command and an address (R309), in continuous-read mode without its command (R313), with the
mode bits, the bytes written and how many are read. -/
def flFrame (f cmd addr : Nat) (noCmd : Bool) (mode : Option Nat) (data : List Nat) (read : Nat) : FlFrame :=
  let modes := (mode.map fun m => flPhase (nbits f 4 2) (nbits f 6 1 == 1) [m]).toList
  { phases := (if noCmd then [] else [flPhase (nbits f 0 2) (nbits f 2 1 == 1) (flCmd f cmd)]) ++
      (if nbits f 7 2 = 0 then [] else [flPhase (nbits f 4 2) (nbits f 6 1 == 1) (flAddr f addr)]) ++ modes ++
      (if data.isEmpty then [] else [flPhase (nbits f 14 2) (nbits f 16 1 == 1) data])
    dummy := nbits f 9 5 - (modes.map FlPhase.clocks).sum
    read, rdPhase := { lanes := 2 ^ nbits f 14 2, ddr := nbits f 16 1 == 1 }, dqs := nbits f 17 1 == 1 }

/-- The clocks of a frame, from the first of its command to the last of its data. -/
def FlFrame.clocks (x : FlFrame) : Nat :=
  (x.phases.map FlPhase.clocks).sum + x.dummy + ceilDiv (8 * x.read) (x.rdPhase.lanes * if x.rdPhase.ddr then 2 else 1)

def State.modFlash (s : State) (f : Flash → Flash) : State := { s with flash := f s.flash }

/-- The port sends XIP frames, each from an address and of a length; with CONT each but the first after the mode was entered
omits its command, and the mode is held after it (R312, R313). -/
def State.xipFrames (s : State) (rs : List (Nat × Nat)) : State :=
  let f := s.fld R.spiFlXipFmt
  let m := s.fld R.spiFlXipMode
  let cont := nbits m 16 1 = 1
  let st := s.fld R.spiFlStat
  let frames := rs.zipIdx.map fun r =>
    flFrame f (s.fld R.spiFlXipCmd) r.1.1 (decide cont && (decide (0 < r.2) || nbits st 2 1 == 1)) (if cont then some (m % 256) else none)
      [] r.1.2
  (s.setFld R.spiFlStat (st - nbits st 2 1 * 4 + (if cont then 4 else 0))).modFlash fun x => { x with frames }

/-- The port leaves continuous-read mode with one XIP frame of one data byte that carries EXITBITS (R313); its address is open.
(DESIGN CHOICE, log entry 28) -/
def State.xipExit (s : State) : State :=
  let st := s.fld R.spiFlStat
  if nbits st 2 1 = 0 then s
  else
    let x := flFrame (s.fld R.spiFlXipFmt) (s.fld R.spiFlXipCmd) (Config.freeVal s.freeCtr) true (some (nbits (s.fld R.spiFlXipMode) 8 8))
      [] 1
    ((s.setFld R.spiFlStat (st - 4)).modFlash fun y => { y with frames := [x] }).fresh

/-- Use a held prefetch line, or fetch it (R312). -/
def lineTouch (l : Nat) (ls : List Nat) : List Nat := (l :: ls.filter (· != l)).take 4

/-- R312: an XIP read of flash bytes a to a + n - 1, by the system controller or by another initiator: the bytes, or none
for an error response. (DESIGN CHOICE, log entry 28) -/
def State.xipRead (s : State) (ctrl : Bool) (a n : Nat) (size : Nat := s.xipSize) : Option (List Byte) × State :=
  if !(s.flag R.spiFlCfgEn && s.flag R.spiFlCfgXipEn) then (none, s)
  else if size < a + n then (none, s.setFld R.spiFlStatCause 5)
  else
    let want := (List.range ((a + n - 1) / 64 - a / 64 + 1)).map (a / 64 + ·)
    let miss := !(want.all s.flash.lines.contains)
    let fetch := want.foldl (fun (p : List Nat × List Nat) (l : Nat) =>
      if p.2.contains l then p
      else if p.2.contains (l + 1) then (p.1 ++ [l], lineTouch l p.2)
      else (p.1 ++ [l, l + 1], lineTouch l (lineTouch (l + 1) p.2))) ([], s.flash.lines)
    let s : State :=
      if ctrl then
        let ls := want.foldl (fun (ls : List Nat) (l : Nat) =>
          if ls.contains l || ls.contains (l + 1) then lineTouch l ls else lineTouch l (lineTouch (l + 1) ls)) s.flash.lines
        { s with flash := { s.flash with lines := ls } }
      else if !miss then
        { s with flash := { s.flash with lines := want.foldl (fun (ls : List Nat) (l : Nat) => lineTouch l ls) s.flash.lines } }
      else s
    let s := if miss then s.xipFrames (if ctrl then fetch.1.map fun l => (64 * l, 64) else [(a, n)]) else s
    (some (s.bytes (xipBase + a) n), s)

/-- The XIP reads that wait are served, the controller's first, then the others in arrival order (R312). -/
def State.xipServe (s : State) : State :=
  let ws := s.flash.waits
  if ws.isEmpty then s
  else
    (ws.filter (·.1) ++ ws.filter (!·.1)).foldl (fun (s : State) w =>
      let r := s.xipRead w.1 w.2.1 w.2.2
      { r.2 with reply := r.2.reply ++ (r.1.getD []).map (·.toNat) })
      ({ s with reply := [] } |>.modFlash fun x => { x with waits := [] })

/-- Does a read at a device address wait for a poll of the flash port to end (R314)? -/
def State.xipWaits (s : State) (a : Nat) : Bool := decide (xipBase ≤ a) && s.flash.polling

/-- A read of XIP space by an initiator other than the system controller, after a direct frame (R314): its bytes, or none for an
error response; an address outside the space gives one too. -/
def State.xipGet (s : State) (a n : Nat) : Option (List Byte) × State :=
  if a < xipBase then (none, s) else (s.at s.flash.busyTo).xipRead false (a - xipBase) n

/-! ### Admission (R229, R231) -/

/-- Tickets a requester counts with in the total (R229): a mire port counts at its most under inheritance. -/
def State.ticketOf (s : State) (i : Nat) : Nat :=
  if s.flag R.memCtlInherit && 8 ≤ i then min 255 (24 * s.fld R.memArbEtkt) else s.fld (R.memArbTickets i)

/-- The total T of R229. -/
def State.ticketTotal (s : State) : Nat := ((List.range 16).map s.ticketOf).sum

/-- The guaranteed share of CPh in MB/s, rounded down (R229). -/
def State.share (s : State) (h : Nat) : Nat :=
  if s.ticketTotal = 0 then 0 else 40960 * s.fld (R.memArbTickets h) / s.ticketTotal

/-- The admission test of R231. -/
def State.admits (s : State) (h : Nat) : Bool :=
  let t := s.fld (R.memArbTickets h)
  t != 0 && decide (s.fld (R.headNeed h) * s.ticketTotal * 10 ≤ 9 * 40960 * t)

/-- Show the guaranteed share of the four correction requesters (R229). -/
def State.showShares (s : State) : State := (List.range 4).foldl (fun s h => s.setFld (R.memAdmitShare h) (s.share h)) s

/-- Set or clear a head's bit of `MEM_ARB_DEFICIT`. -/
def State.deficitBit (s : State) (h : Nat) (b : Bool) : State :=
  let v := s.fld R.memArbDeficit
  s.setFld R.memArbDeficit (v - nbits v h 1 * 2 ^ h + (if b then 2 ^ h else 0))

/-- The repeated admission test of R232 for every running or draining head; cleared deficits are reported first (R240). -/
def State.retest (s : State) : State :=
  let s := s.showShares
  let hs := (List.range 4).filter fun h => s.fld (R.headStatusState h) == 4 || s.fld (R.headStatusState h) == 5
  let s := hs.foldl (fun s h =>
    if nbits (s.fld R.memArbDeficit) h 1 = 1 && s.admits h then
      (s.deficitBit h false).raise 0x0905 h (s.fld (R.headNeed h)) (s.share h)
    else s) s
  hs.foldl (fun s h =>
    if nbits (s.fld R.memArbDeficit) h 1 = 0 && !s.admits h then
      (s.deficitBit h true).raise 0x0904 h (s.fld (R.headNeed h)) (s.share h)
    else s) s

end Sys2Proof.Machine
end

