-- ==== Sys2Proof/Machine/Operands.lean ====
section
/-!
DEFINITION. The instruction word of the engines: its fields (R163), legality (R164), and the operand forms of R165.
-/
namespace Sys2Proof.Machine

def iOp (w : Nat) : Nat := nbits w 58 6
def iD (w : Nat) : Nat := nbits w 53 5
def iA (w : Nat) : Nat := nbits w 48 5
def iB (w : Nat) : Nat := nbits w 43 5
def iI (w : Nat) : Bool := nbits w 42 1 == 1
def iW (w : Nat) : Nat := nbits w 40 2
def iX (w : Nat) : Nat := nbits w 32 8
def iImm (w : Nat) : Nat := nbits w 0 32

/-- What an opcode uses: a register field's limit (0 when the field is not used), whether B′ is named, whether it is a
vector instruction, the bits of X and IMM it uses. -/
structure OpUse where
  d : Nat := 0
  a : Nat := 0
  b : Nat := 0
  bp : Bool := false
  vec : Bool := false
  x : Nat := 0
  imm : Nat := 0
  deriving DecidableEq, Repr

/-- The operand columns of R165. -/
def opUse : Nat → Option OpUse
  | 0x00 | 0x13 | 0x1D => some {}
  | 0x01 | 0x02 | 0x03 | 0x04 | 0x05 | 0x06 | 0x07 | 0x08 | 0x09 | 0x0C => some { d := 32, a := 32, b := 32, bp := true }
  | 0x0A => some { d := 32, a := 32, b := 32, bp := true, x := 1 }
  | 0x0B => some { d := 32, imm := 0xFFFFFFFF }
  | 0x0D => some { d := 32, a := 32, x := 0x3F }
  | 0x10 => some { d := 32, a := 32, x := 7, imm := 0xFFFFFFFF }
  | 0x11 => some { a := 32, b := 32, x := 3, imm := 0xFFFFFFFF }
  | 0x12 => some { d := 32, a := 32, b := 32, x := 3, imm := 0xFFFFFFFF }
  | 0x18 => some { a := 32, b := 32, x := 7, imm := 0x7FF }
  | 0x19 => some { d := 32, imm := 0x7FF }
  | 0x1A => some { a := 32 }
  | 0x1B => some { a := 32, x := 0xFF, imm := 0xFFFF }
  | 0x1C => some { d := 32, x := 7 }
  | 0x1E => some { imm := 0xFF }
  | 0x20 | 0x21 => some { a := 32, b := 32, x := 0x3F, imm := 0xFFFFFFFF }
  | 0x22 => some { x := 0xF }
  | 0x28 => some { d := 16, a := 32, vec := true, imm := 0xFFFFFFFF }
  | 0x29 => some { a := 32, b := 16, vec := true, imm := 0xFFFFFFFF }
  | 0x2A | 0x2B => some { d := 16, a := 16, b := 16, vec := true, x := 1 }
  | 0x2C => some { d := 16, a := 16, b := 16, vec := true, x := 0x1F }
  | 0x2D => some { d := 4, a := 16, b := 16, vec := true }
  | 0x2E => some { d := 16, a := 4, vec := true, x := 0x7F }
  | 0x2F | 0x30 => some { d := 16, a := 16, b := 16, vec := true, x := 3 }
  | 0x31 => some { d := 16, a := 16, b := 16, vec := true, x := 7 }
  | 0x32 => some { d := 16, a := 16, vec := true, x := 0x7F }
  | 0x33 => some { d := 16, a := 32, vec := true }
  | 0x34 => some { d := 32, a := 16, vec := true, x := 3 }
  | 0x35 => some { d := 16, a := 16, b := 16, vec := true }
  | 0x36 => some { d := 16, a := 32, b := 16, vec := true, x := 0x1F }
  | 0x37 => some { a := 32, b := 16, vec := true, x := 0x1F }
  | 0x38 => some { d := 32, a := 16, vec := true, x := 7 }
  | _ => none

/-- A register field is in range, or zero where it is not used. -/
def regOk (limit v : Nat) : Bool := if limit = 0 then v == 0 else v < limit

/-- The ranges R165 gives to field values. -/
def rangesOk (w : Nat) : Bool :=
  let x := iX w
  match iOp w with
  | 0x0D => x % 32 ≤ 30
  | 0x10 | 0x11 => x % 4 ≠ 3
  | 0x12 => x ≤ 2
  | 0x18 => x ≤ 6
  | 0x1B => 1 ≤ x
  | 0x1C => x ≤ 4
  | 0x20 | 0x21 =>
    if nbits x 5 1 = 1 then 1 ≤ iImm w / 65536 && iImm w / 65536 ≤ 4096
    else 16 ≤ iImm w && iImm w ≤ 65536
  | 0x31 => 1 ≤ x && x ≤ 6
  | 0x34 => x ≤ 2
  | _ => true

/-- R164: the instruction is legal. -/
def insLegal (w : Nat) : Bool :=
  match opUse (iOp w) with
  | none => false
  | some u =>
    let loop := iOp w == 0x1B
    let immMask := if u.bp then (if iI w then 0xFFFFFFFF else 0) else if loop && !iI w then 0 else u.imm
    regOk u.d (iD w) && regOk (if loop && iI w then 0 else u.a) (iA w) &&
      regOk (if u.bp && iI w then 0 else u.b) (iB w) && (!iI w || u.bp || loop) &&
      (if u.vec then iW w ≤ 1 else iW w == 0) && (iX w &&& u.x) == iX w && (iImm w &&& immMask) == iImm w && rangesOk w

/-! ### Addresses of the array (R161, R162) -/

def mireOf (e : Nat) : Nat := e / 24
def mireBase (m : Nat) : Nat := 0x1000000000 + m * 0x1000000
def localDev (e a : Nat) : Nat := mireBase (mireOf e) + 0x100000 + e % 24 * 0x10000 + a
def sharedDev (m a : Nat) : Nat := mireBase m + a
def progDev (e i : Nat) : Nat := mireBase (mireOf e) + 0x800000 + e % 24 * 0x4000 + 8 * i

/-- The DRAM requester of a mire: M0 to M7 are requesters 8 to 15. -/
def mireReq (m : Nat) : Nat := 8 + m

def State.eng (s : State) (e : Nat) : Eng := tget (fun _ => {}) s.engs e
def State.setEng (s : State) (e : Nat) (x : Eng) : State := { s with engs := tset (fun _ => {}) e x s.engs }
def State.modEng (s : State) (e : Nat) (f : Eng → Eng) : State := s.setEng e (f (s.eng e))
def State.mire (s : State) (m : Nat) : Mire := tget (fun _ => {}) s.mires m
def State.setMire (s : State) (m : Nat) (x : Mire) : State := { s with mires := tset (fun _ => {}) m x s.mires }
def State.modMire (s : State) (m : Nat) (f : Mire → Mire) : State := s.setMire m (f (s.mire m))
def State.modArr (s : State) (f : Array_ → Array_) : State := { s with arr := f s.arr }

/-- An engine fault: the engine stops issuing until it is handled (R179). -/
def State.engFault (s : State) (e cause : Nat) (code : Nat := 0) : State :=
  s.modEng e fun x => { x with fault := some (cause, code) }

/-! ### Errors of the engines' memories (R160) -/

/-- The first address of the group that error key `g` names, and the address after it: 4 bytes of local or shared memory from
4 g on, or the 8 bytes of the instruction that holds 4 g in program memory (R160, R161). -/
def eccSpan (g : Nat) : Nat × Nat :=
  if 0x800000 ≤ (4 * g - 0x1000000000) % 0x1000000 then (8 * (g / 2), 8 * (g / 2) + 8) else (4 * g, 4 * g + 4)

/-- The groups of error state `v` that an access of `n` bytes at device address `a` meets. -/
def State.engMet (s : State) (v a n : Nat) : List Nat :=
  (s.arr.ecc.filter fun x => x.2 == v && decide ((eccSpan x.1).1 < a + n) && decide (a < (eccSpan x.1).2)).map (·.1)

/-- A read corrects the correctable groups it meets, in place and without notice to the engine; each is an absorbed fault
(R160, R365). (DEDUCED, log entry 84) -/
def State.engCorrect (s : State) (a n : Nat) : State :=
  (s.engMet 1 a n).foldl (fun s g => (s.modArr fun x => { x with ecc := tdel g x.ecc }).handled 3) s

/-- A read for an engine's program, data or transfer: none where it meets an uncorrectable group (R160). -/
def State.engSource (s : State) (a n : Nat) : Option State :=
  if (s.engMet 2 a n).isEmpty then some (s.engCorrect a n) else none

/-- Write bytes of an engine memory: groups written whole are good again. -/
def State.engStore (s : State) (a : Nat) (bs : List Byte) : State :=
  (s.putBytes a bs).modArr fun x =>
    { x with ecc := x.ecc.filter fun g => !(decide (a ≤ (eccSpan g.1).1) && decide ((eccSpan g.1).2 ≤ a + bs.length)) }

def State.engRole (s : State) (e : Nat) : Nat := s.fld (R.engEngRole (e / 24) (e % 24))
def State.setEngRole (s : State) (e v : Nat) : State := s.setFld (R.engEngRole (e / 24) (e % 24)) v

/-! ### Registers -/

/-- A scalar register; s0 reads zero (R160). -/
def Eng.s (x : Eng) (r : Nat) : Word := if r = 0 then 0 else tget (fun _ => (0 : Word)) x.sregs r
def Eng.setS (x : Eng) (r : Nat) (v : Word) : Eng :=
  if r = 0 then x else { x with sregs := tset (fun _ => (0 : Word)) r v x.sregs }
/-- A vector register, 128 bits. -/
def Eng.v (x : Eng) (r : Nat) : Nat := tget (fun _ => 0) x.vregs r
def Eng.setV (x : Eng) (r v : Nat) : Eng := { x with vregs := tset (fun _ => 0) r v x.vregs }

/-- B′ (R163). -/
def Eng.b' (x : Eng) (w : Nat) : Word := if iI w then BitVec.ofNat 32 (iImm w) else x.s (iB w)

/-- Lanes and their width in bits of a lane form (R163). -/
def laneN (w : Nat) : Nat := if iW w = 0 then 8 else 4
def laneW (w : Nat) : Nat := if iW w = 0 then 16 else 32
/-- The lanes of a vector register, unsigned. -/
def lanes (w v : Nat) : List Nat := (List.range (laneN w)).map fun i => nbits v (laneW w * i) (laneW w)
/-- The lanes, signed. -/
def lanesS (w v : Nat) : List Int := (lanes w v).map (sext (laneW w))
/-- A vector register from its lanes. -/
def ofLanes (w : Nat) (l : List Nat) : Nat :=
  (l.zipIdx.map fun (x, i) => x % 2 ^ laneW w * 2 ^ (laneW w * i)).sum
def ofLanesS (w : Nat) (l : List Int) : Nat := ofLanes w (l.map (unsx (laneW w)))

/-- Width in bits of an accumulator lane: eight of 40 or four of 64 (R160). -/
def accW (w : Nat) : Nat := if iW w = 0 then 40 else 64

/-- The lanes of an accumulator in a form; one last written in the other form reads as free values.
(DESIGN CHOICE, log entry 21) -/
def accLanes (free : Nat) (a : EAcc) (w : Nat) : List Int :=
  if a.lanes.all (· == 0) then List.replicate (laneN w) 0
  else if a.form = iW w then a.lanes
  else (List.range (laneN w)).map fun i => sext (accW w) (Config.freeLane (free + i))

end Sys2Proof.Machine
end

