-- ==== Sys2Proof/Machine/Bus.lean ====
section
/-!
DEFINITION. What a granted burst does (R217, R218, R223): it carries its units, an emergency requester may interrupt it, and it
resumes before any other traffic.
-/
namespace Sys2Proof.Machine

def State.modMem (s : State) (f : MemS → MemS) : State := { s with msys := f s.msys }

def State.modTask (s : State) (i : Nat) (f : Task → Task) : State :=
  s.modArr fun a => { a with tasks := a.tasks.map fun t => if t.idx = i then f t else t }
def State.task (s : State) (i : Nat) : Option Task := s.arr.tasks.find? (·.idx == i)

/-! ### Block transfers (R168, R169) -/

/-- The far address of a transfer for a local address. -/
def Xfer.farOf (t : Xfer) (a : Nat) : Nat := t.far + (a - t.loc) / t.len * t.stride + (a - t.loc) % t.len

/-- A request of a transfer came back with data that is not good: its tag's bit of CSR 3 is set and the result is marked
repaired (R169). -/
def State.xferUe (s : State) (e tag : Nat) : State :=
  let s := s.modEng e fun x => { x with ue := if nbits x.ue tag 1 = 1 then x.ue else x.ue + 2 ^ tag }
  match (s.eng e).cur with
  | some k => s.modTask k.task fun j => { j with repaired := true }
  | none => s

/-- Move bytes [p, p + n) of a block transfer, 16 bytes at a time; a request outside device DRAM is refused as one burst (R218).
A group read from DRAM with an uncorrectable error arrives
as zero, sets the tag's bit of CSR 3 and marks the result repaired (R169). A block that the engine wrote since the transfer
began gives its old or its new value (R168). A block whose source in the array has an uncorrectable error is not moved: an
engine fault of cause 6 (R160, R179). (DESIGN CHOICE, log entry 21; DEDUCED, log entry 84) -/
def State.xferMove (s : State) (e : Nat) (t : Xfer) (p n : Nat) : State :=
  let m := mireOf e
  let blocks := (List.range (n / 16)).map (p / 16 + ·)
  let first := t.farOf (t.loc + p)
  let out := first < 0x1000000000 && !inDram first n
  let s := if out then s.oor (mireReq m) first else s
  let s := if out && !t.put then s.xferUe e t.tag else s
  blocks.foldl (fun s b =>
    let a := t.loc + 16 * b
    let far := t.farOf a
    let old := (t.touched.find? (·.1 == a / 16)).map (·.2)
    let pick := old.isSome && Config.newBlock (s.freeCtr + b)
    if out then (if t.put || pick then s else s.engStore (localDev e a) (List.replicate 16 0))
    else if t.put then
      match s.engSource (localDev e a) 16 with
      | none => s.engFault e 6
      | some s =>
        let data := if pick then old.getD [] else s.bytes (localDev e a) 16
        if far < 0x1000000000 then s.dramWrite (mireReq m) far data else s.engStore far data
    else if pick then s
    else if far < 0x1000000000 then
      let r := s.dramRead (mireReq m) far 16
      let data := (r.1.zipIdx).map fun (v, i) => if s.eccOf (far + i) = 2 then (0 : Byte) else v
      let s := r.2.2.engStore (localDev e a) data
      if r.2.1 = .good then s else s.xferUe e t.tag
    else
      match s.engSource far 16 with
      | none => s.engFault e 6
      | some s => s.engStore (localDev e a) (s.bytes far 16)) s

/-! ### A granted burst -/

/-- Answer a requester. -/
def State.answer (s : State) (req kind : Nat) (data : List Byte) : State :=
  { s.modMem fun m => { m with answers := m.answers ++ [{ req, kind, data }] } with reply := data.map (·.toNat) }

/-- The burst of a channel that was interrupted (R223). -/
def State.runOn (s : State) (ch : Nat) : Option Burst := if ch = 0 then s.msys.run0 else s.msys.run1
def State.setRun (s : State) (ch : Nat) (b : Option Burst) : State :=
  s.modMem fun m => if ch = 0 then { m with run0 := b } else { m with run1 := b }

/-- The bytes of a burst that its first k 64-byte units carry (R217). -/
def Burst.upTo (b : Burst) (k : Nat) : Nat := if k = 0 then 0 else min b.len (64 * k - b.addr % 64)
/-- The units carried so far. -/
def Burst.units (b : Burst) : Nat := if b.sent = 0 then 0 else (b.addr % 64 + b.sent) / 64

/-- Carry the bytes of a burst up to `q`: written, read, or moved for a block transfer; none once its requester was reset
(R235). -/
def State.carry (s : State) (b : Burst) (q : Nat) : State × Burst :=
  let n := q - b.sent
  let b' := { b with sent := q }
  if b.off then (s, b')
  else match b.eng with
    | some (e, tag, pos) =>
      (match (s.eng e).xfers.find? (·.tag == tag) with
       | some t => s.xferMove e t (pos + b.sent) n
       | none => s, b')
    | none =>
      if b.wr then (s.dramWrite b.req (b.addr + b.sent) ((b.data.drop b.sent).take n), b')
      else
        let (bs, k, s) := s.dramRead b.req (b.addr + b.sent) n
        (s, { b' with got := b.got ++ bs, bad := b.bad || k != .good })

/-- A burst has the grant: it runs to its end, or an emergency requester takes the grant after `cut` more units and it is kept
to resume (R223); one that is refused carries no unit (R218). -/
def State.runBurst (s : State) (ch : Nat) (b : Burst) (cut : Option Nat) : State :=
  let q := if inDram b.addr b.len then (cut.map fun k => b.upTo (b.units + k)).getD b.len else b.len
  let (s, b) := s.carry b q
  if b.sent < b.len then s.setRun ch (some b)
  else
    let s := s.setRun ch none
    let s := if b.eng.isSome then s.fresh else s
    if b.off || b.wr || b.eng.isSome then s else s.answer b.req (if b.bad then 1 else 0) b.got

/-- R223: an interrupted burst of either channel resumes before other traffic, with no draw, and completes whole. -/
def State.runsEnded (s : State) : State :=
  (List.range 2).foldl (fun s ch =>
    match s.runOn ch with
    | some b => s.runBurst ch b none
    | none => s) s

/-- Other traffic of the memory system comes: a burst that an emergency access interrupted resumes before it (R223). -/
def State.resumed (s : State) : State := if s.alive then s.runsEnded else s

/-- A read for a ring or a command; none on a bus error or poison. -/
def State.hostRead (s : State) (a n : Nat) : Option (List Byte) × State :=
  if isHost a then
    if s.host.linkUp then (if s.ueIn a n then none else some (s.bytes a n), s.hostArrives a n) else (none, s)
  else
    let r := s.resumed.dramRead 7 a n
    (if r.2.1 = .good then some r.1 else none, r.2.2)

/-- A write for a ring or a command; a write to host memory without a link is lost. -/
def State.hostWrite (s : State) (a : Nat) (bs : List Byte) : State :=
  if isHost a then s.hostPut a bs else s.resumed.dramWrite 7 a bs

/-- An effect of the functional blocks; nothing happens while they do not run. A burst that an emergency access interrupted
resumes first. (DESIGN CHOICE, log entries 3, 78) -/
def whenAlive (f : State → State) (s : State) : State := if s.alive then f s.runsEnded else s

/-- The functional blocks run, and no burst is interrupted. -/
def State.calm (s : State) : Bool := s.alive && s.msys.run0.isNone && s.msys.run1.isNone

/-- An effect on the DRAM channels themselves, in which an interrupted burst may stay interrupted (R223). -/
def whenBus (f : State → State) (s : State) : State := if s.alive then f s else s

end Sys2Proof.Machine
end

