-- ==== Sys2Proof/Machine/HeadBase.lean ====
section
/-!
DEFINITION. Head geometry, cadence and biases (R26, R27, R47, R49 to R54, R66), and the mapping of taps to columns and to
slices (R50, R72).
-/
namespace Sys2Proof.Machine

def State.hState (s : State) (h : Nat) : Nat := s.fld (R.headStatusState h)
def State.setHState (s : State) (h v : Nat) : State := s.setFld (R.headStatusState h) v
/-- Video taps T. -/
def State.nTaps (s : State) (h : Nat) : Nat := 8 * 2 ^ min 2 (s.fld (R.headTapsNtap h))
/-- Read columns C. -/
def State.nCols (s : State) (h : Nat) : Nat := s.fld (R.headColsCols h)
/-- Read rows R. -/
def State.nRows (s : State) (h : Nat) : Nat := s.fld (R.headRowsAct h) + s.fld (R.headRowsBlank h)
/-- Tap periods of a row, C/T. -/
def State.nPer (s : State) (h : Nat) : Nat := s.nCols h / s.nTaps h
/-- Width and height of the active geometry, and the first active column (R211). -/
def State.actW (s : State) (h : Nat) : Nat := s.nCols h - s.fld (R.headColsBlind h)
def State.actH (s : State) (h : Nat) : Nat := s.fld (R.headRowsAct h)
def State.actX0 (s : State) (h : Nat) : Nat := if s.flag (R.headColsBlindPos h) then 0 else s.fld (R.headColsBlind h)
/-- The divider N. -/
def State.divN (s : State) (h : Nat) : Nat := s.fld (R.headCadDiv h)
/-- FS_LEAD + PIPE_LAT, in tap periods. -/
def State.lead (s : State) (h : Nat) : Nat := s.fld (R.headSyncFsLead h) + s.fld (R.headSyncPipeLat h)
/-- The column video tap k presents in tap period j (R50). -/
def State.colOf (s : State) (h k j : Nat) : Nat :=
  if s.flag (R.headTapsMap h) then j * s.nTaps h + k else k * s.nPer h + j
/-- The tap that presents a column (R50). -/
def State.tapOf (s : State) (h c : Nat) : Nat :=
  if s.flag (R.headTapsMap h) then c % s.nTaps h else if s.nPer h = 0 then 0 else c / s.nPer h
/-- The tap period in which a column is presented. -/
def State.perOf (s : State) (h c : Nat) : Nat :=
  if s.flag (R.headTapsMap h) then c / s.nTaps h else if s.nPer h = 0 then 0 else c % s.nPer h
/-- Is a column blind (R50)? -/
def State.isBlind (s : State) (h c : Nat) : Bool :=
  let b := s.fld (R.headColsBlind h)
  if s.flag (R.headColsBlindPos h) then s.nCols h ≤ c + b else c < b
/-- Is a read row a calibration row (R76)? -/
def State.isCalRow (s : State) (h r : Nat) : Bool := s.nRows h ≤ r + s.fld (R.afeGrpCalCalRows h) && r < s.nRows h
/-- The taps in use as INPUT codes (R73, R405): video taps, REF_A, and REF_B when DIFF is 1. -/
def State.tapsInUse (s : State) (h : Nat) : List Nat :=
  let a := 32 + s.fld (R.headRefCtlRefA h)
  let b := 32 + s.fld (R.headRefCtlRefB h)
  List.range (s.nTaps h) ++ [a] ++ (if s.flag (R.headRefCtlDiff h) && a != b then [b] else [])
/-- The local slices connected to a ball, given as an INPUT code (R72): a ball that carries no tap under the settings is
disconnected from every slice (R45). -/
def State.onBall (s : State) (h input : Nat) : List Nat :=
  if (s.tapsInUse h).contains input then (List.range 38).filter fun l => s.fld (R.afeSliceCtlInput (38 * h + l)) == input
  else []
/-- The local slice that works a tap, given as an INPUT code (R45, R72). -/
def State.sliceOn (s : State) (h input : Nat) : Option Nat :=
  (s.onBall h input).find? fun l => s.fld (R.afeSliceCtlRole (38 * h + l)) == 0
/-- The sampling phase of the slice that works a tap, in 1/64 tap period (R74); 0 without one. -/
def State.tapPhase (s : State) (h k : Nat) : Nat :=
  ((s.sliceOn h k).map fun l => s.fld (R.afeSlicePhaseSphase (38 * h + l))).getD 0
/-- A frame's period, 1/256 ns: N ticks of the period in force. -/
def State.framePer (s : State) (h : Nat) : Nat := s.divN h * s.tick.period
/-- An instant in a frame: tap period m after the tick edge, rounded down (R52). -/
def State.tapInstant (s : State) (h edge m : Nat) : Nat :=
  edge + m * s.framePer h / (s.nRows h * s.nPer h)

/-- Tap pixel rate at most 6.25 MHz and at least 10 kHz (R27, R49). -/
def State.rateOk (s : State) (h : Nat) : Bool :=
  let n := s.nPer h * s.nRows h * unitsPerS
  n ≤ 6250000 * s.framePer h && 10000 * s.framePer h ≤ n

/-- The geometry limits of R49, the tap pixel rate apart. -/
def State.geomOk (s : State) (h : Nat) : Bool :=
  let c := s.nCols h
  let b := s.fld (R.headColsBlind h)
  let act := s.fld (R.headRowsAct h)
  let blank := s.fld (R.headRowsBlank h)
  let win := s.fld (R.headRefWin h)
  16 ≤ c && c ≤ 1344 && c % s.nTaps h == 0 && b ≤ 64 && c ≤ 1280 + b && 1 ≤ act && act ≤ 1086 && 2 ≤ blank &&
    act + blank ≤ 1088 && s.fld (R.headTapsNtap h) ≤ 2 && nbits win 0 11 ≤ nbits win 11 11 &&
    nbits win 11 11 < act + blank

/-- The timing limits of R53 and R54; the HINT limits bind in the modes that use them. -/
def State.timingOk (s : State) (h : Nat) : Bool :=
  let m := s.fld (R.headIntCtlMode h)
  let w := s.fld (R.headIntWin h)
  let st := nbits w 0 16
  let en := nbits w 16 16
  s.lead h ≤ 255 && (m == 0 || (st < en && (if m == 1 then en ≤ s.nPer h + s.lead h else en ≤ s.nRows h)))

/-- TICK_TOL_US does not exceed the trailing blanking time (R28, R53). -/
def State.tolOkFor (s : State) (h tol : Nat) : Bool :=
  tol * unitsPerUs * s.nRows h ≤ s.fld (R.headRowsBlank h) * s.framePer h

/-- The width in bytes of output format f (R66, R110). -/
def fmtWidth (f : Nat) : Nat := if f = 1 || f = 4 then 4 else 2

/-- HEAD_NEED: the bandwidth need in MB/s, rounded up (R66). -/
def State.need (s : State) (h : Nat) : Nat :=
  let en := s.fld (R.corrFmtEn h)
  let b := 16 + ((List.range 5).map fun f => if nbits en f 1 = 1 then fmtWidth f else 0).sum
  ceilDiv (s.nCols h * s.nRows h * b * unitsPerS) (s.framePer h * 1000000)

/-- The level of a bias output at an instant, as a code (R47): a ramp at HEAD_BIAS_SLEW mV/ms, 61.04 uV a code. -/
def biasLevel (slew now : Nat) (b : Bias) : Nat :=
  let d := slew * 16384 * (now - b.t0) / unitsPerS
  if b.src ≤ b.tgt then min b.tgt (b.src + d) else max b.tgt (b.src - d)

/-- Ramp every bias output to the given codes from its present level. -/
def State.rampTo (s : State) (h : Nat) (codes : List Nat) : State :=
  let slew := s.fld (R.headBiasSlew h)
  s.modHead h fun x =>
    { x with biases := (x.biases.zip codes).map fun (b, c) => { src := biasLevel slew s.now b, tgt := c, t0 := s.now } }

/-- The outputs as they stand go on toward their targets from here: a new HEAD_BIAS_SLEW acts on what is left of a ramp (R47). -/
def State.rebase (s : State) (h : Nat) : State := s.rampTo h ((s.head h).biases.map (·.tgt))

/-- The eight programmed codes. -/
def State.biasCodes (s : State) (h : Nat) : List Nat := (List.range 8).map fun k => s.fld (R.headBiasCode h k)

/-- A written code takes effect: the outputs ramp to their codes while power is up and no detach ramp runs (R47, R65). -/
def State.biasApply (s : State) (h : Nat) : State :=
  let x := s.head h
  if x.biasPend then
    let s := s.modHead h fun x => { x with biasPend := false }
    if x.hpen && x.settled && !x.ramp0 then s.rampTo h (s.biasCodes h) else s
  else s

/-- Are all bias outputs at their targets? -/
def State.biasDone (s : State) (h : Nat) : Bool :=
  (s.head h).biases.all fun b => biasLevel (s.fld (R.headBiasSlew h)) s.now b == b.tgt

/-- The instant the last bias output reaches its target. -/
def State.biasEnd (s : State) (h : Nat) : Nat :=
  let slew := s.fld (R.headBiasSlew h)
  ((s.head h).biases.map fun b =>
    b.t0 + ceilDiv ((max b.src b.tgt - min b.src b.tgt) * unitsPerS) (slew * 16384)).foldl max 0

/-- Is a timing output asserted `d` after the tick edge of a frame period that lost `cut` rows (R52, R54)? The tap period
is m; row r asserts HLSYNC from m = FS_LEAD + r * C/T. -/
def State.syncOuts (s : State) (h d cut : Nat) : Bool × Bool × Bool :=
  let per := s.nPer h
  let m := if s.framePer h = 0 then 0 else d * (s.nRows h * per) / s.framePer h
  let lead := s.fld (R.headSyncFsLead h)
  let rows := s.nRows h - cut
  let k := m - lead
  let w := s.fld (R.headIntWin h)
  let st := nbits w 0 16
  let en := nbits w 16 16
  let fs := decide (m < s.fld (R.headSyncFsWidth h) * per)
  let ls := decide (lead ≤ m) && (List.range rows).any fun r => r * per ≤ k && k < r * per + s.fld (R.headSyncLsWidth h)
  let int := decide (lead ≤ m) && match s.fld (R.headIntCtlMode h) with
    | 1 => (List.range rows).any fun r => r * per + st ≤ k && k < r * per + en
    | 2 => decide (st * per ≤ k && k < min en rows * per)
    | _ => false
  (fs, ls, int)

/-- Can an output of the frame period that began at `e` still assert, or stay asserted, at an edge (R52, R54)? With a lead
longer than the read rows the rows of a period are due after several later edges. -/
def State.outsDue (s : State) (h edge e : Nat) : Bool :=
  let per := s.nPer h
  let hold := max (s.fld (R.headSyncLsWidth h)) (nbits (s.fld (R.headIntWin h)) 16 16)
  decide (0 < per ∧ (edge - e) * (s.nRows h * per) ≤ (s.fld (R.headSyncFsLead h) + s.nRows h * per + hold) * s.framePer h)

/-- The levels on HPCLK, HLSYNC, HFSYNC and HINT at an instant (R52, R54, R55): every output is at its inactive level while
the timing does not run, and during a thermal shutdown or a freeze (R328, R372); the last rows of a frame overlap the lead-in of
the next; HPCLK runs at the tap rate or twice it, in phase with the frame starts, high in the first half of its period; a bit of
POL inverts. Under EXTEST the boundary-scan chain drives the balls, in an order that is open (R375).
(PRESUMED, log entry 67; DEDUCED, log entry 90) -/
def State.headPins (s : State) (h t : Nat) : Bool × Bool × Bool × Bool :=
  if s.ballsTaken then
    let bit (k : Nat) : Bool := nbits s.ao.chain (Config.freeVal (4 * h + k)) 1 == 1
    (bit 0, bit 1, bit 2, bit 3)
  else
  let x := s.head h
  let pol (k : Nat) : Bool := nbits (s.fld (R.headClkPol h)) k 1 == 1
  let on := x.timing && !s.ao.shut && !s.ao.frozen
  let outs := if on then x.edges.map fun e => s.syncOuts h (t - e.1) e.2 else []
  let clk := match on, x.edges with
    | true, e :: _ =>
      let n := s.nRows h * s.nPer h * (if s.flag (R.headClkMult h) then 2 else 1)
      decide (2 * (t - e.1) * n / max 1 (s.framePer h) % 2 = 0)
    | _, _ => false
  (clk != pol 0, outs.any (·.2.1) != pol 1, outs.any (·.1) != pol 2, outs.any (·.2.2) != pol 3)

/-- Drop HPEN: biases at 0 V at once, timing off, CLK cleared (R55, R64). -/
def State.dropPower (s : State) (h : Nat) : State :=
  let s := s.modHead h fun x =>
    { x with hpen := false, settled := false, ramped := false, timing := false, due := false,
             ramp0 := false, rampDue := false, edgeDue := false, idleP := none, idleOld := none, edges := [], biases := x.biases.map fun _ => { t0 := s.now } }
  s.setFld (R.headCtlClk h) 0

/-- HPEN rises: the head enters powering (R61 step 2). -/
def State.powerUp (s : State) (h : Nat) : State :=
  (s.modHead h fun x => { x with hpen := true, pwrT := s.now, settled := false, ramped := false }).setHState h 2

/-- Report a step of R61 while firmware attaches the head (attach-progress). -/
def State.attachStep (s : State) (h k : Nat) : State :=
  if (s.head h).attach = 0 then s else (s.modHead h fun x => { x with attach := k }).raise 0x0205 h k

/-- The rows of a frame cut when its period ends early at an edge (R28): the rows not kept. -/
def State.rowsCut (s : State) (h frameEdge edge : Nat) : Nat :=
  if s.framePer h = 0 then 0 else s.nRows h - min (s.nRows h) (s.nRows h * (edge - frameEdge) / s.framePer h)

/-- The frame being sampled: the oldest whose read rows are not complete. -/
def State.curFrame (s : State) (h : Nat) : Option Frame := (s.head h).frames.find? fun f => f.rows < s.nRows h

/-- The frame row `r` is sampled for: the row in progress or the one after it, whose first samples are taken before the
last pixels of the row in progress are corrected (R74). -/
def State.frameAt (s : State) (h r : Nat) : Option Frame :=
  (s.head h).frames.find? fun f => f.rows < s.nRows h && (f.rows == r || f.rows + 1 == r)

/-- Change the frame being sampled. -/
def State.modCur (s : State) (h : Nat) (f : Frame → Frame) : State :=
  match s.curFrame h with
  | some c => s.modHead h fun x => { x with frames := x.frames.map fun g => if g.no = c.no then f g else g }
  | none => s

/-- The frame that started last. -/
def State.newFrame (s : State) (h : Nat) : Option Frame := (s.head h).frames.getLast?

/-- The latest sampling phase of the video taps that a test admits, in 1/64 tap period (R74); samples of the reference taps do
not count as a frame's last (R41). (DESIGN CHOICE, log entry 87) -/
def State.lastPhase (s : State) (h : Nat) (admits : Nat → Bool) : Nat :=
  (List.range 38).foldl (fun m l =>
    let i := 38 * h + l
    let k := s.fld (R.afeSliceCtlInput i)
    if k < s.nTaps h && s.fld (R.afeSliceCtlRole i) == 0 && admits k then max m (s.fld (R.afeSlicePhaseSphase i)) else m) 0

/-- ns from T_START to the last of the samples of a frame's first n tap periods, of which the last has those of the taps a test
admits (R41, R74). -/
def State.readNs (s : State) (h n : Nat) (admits : Nat → Bool := fun _ => true) : Nat :=
  (64 * (n - 1) + s.lastPhase h admits - s.tapPhase h 0) * s.framePer h / (64 * s.nRows h * s.nPer h) / unitsPerNs

/-- T_READ of a frame that keeps its first rows (R28, R41). -/
def State.readRows (s : State) (h rows : Nat) : Nat := s.readNs h (rows * s.nPer h)

/-- Change the frame with a number. -/
def State.modFrame (s : State) (h no : Nat) (f : Frame → Frame) : State :=
  s.modHead h fun x => { x with frames := x.frames.map fun g => if g.no = no then f g else g }

end Sys2Proof.Machine
end

