-- ==== Sys2Proof/Machine/ActBase.lean ====
section
/-!
DEFINITION. Actuator channels: profile arithmetic (R143, R149), the start checks and waits (R147, R148, R152), and the end
of a profile (R146).
-/
namespace Sys2Proof.Machine

def State.act (s : State) (c : Nat) : Act := tget (fun _ => {}) s.acts c
def State.setAct (s : State) (c : Nat) (x : Act) : State := { s with acts := tset (fun _ => {}) c x s.acts }
def State.modAct (s : State) (c : Nat) (f : Act → Act) : State := s.setAct c (f (s.act c))
def State.actState (s : State) (c : Nat) : Nat := s.fld (R.actChStatState c)

/-! ### Phase words (R143) -/
def phItgt (w : Nat) : Int := sext 11 (nbits w 0 11)
def phDur (w : Nat) : Nat := nbits w 11 16
def phMode (w : Nat) : Nat := nbits w 27 3
def phaseWord (itgt : Int) (dur mode : Nat) : Nat := unsx 11 itgt + dur * 2 ^ 11 + mode * 2 ^ 27

/-- A slot's length; 0 marks it empty. -/
def State.slotLen (s : State) (c slot : Nat) : Nat := nbits (s.fld (R.actChSlotlen c)) (4 * slot) 4
/-- The phase words of a slot. -/
def State.phases (s : State) (c slot : Nat) : List Nat :=
  (List.range (s.slotLen c slot)).map fun p => s.fld (R.actChPhase c slot p)

/-- The target a phase leaves behind (R144): none in coast and brake. -/
def phFinal (w : Nat) : Int := if phMode w = 0 || phMode w = 3 then 0 else phItgt w

/-- Twice the planned charge of a phase in mA x 10 us, after a phase that ended at `a` (R149). -/
def phCharge2 (a : Int) (w : Nat) : Nat :=
  let b := phItgt w
  match phMode w with
  | 1 | 2 => 2 * b.natAbs * phDur w
  | 4 => if 0 ≤ a * b then (a.natAbs + b.natAbs) * phDur w else 2 * max a.natAbs b.natAbs * phDur w
  | _ => 0

/-- Twice the planned charge of a list of phases, mA x 10 us. -/
def planned2 (a : Int) : List Nat → Nat
  | [] => 0
  | w :: t => phCharge2 a w + planned2 (phFinal w) t

/-- A slot's planned charge (R149) in 1/200 mA ms. -/
def State.planned2 (s : State) (c slot : Nat) : Nat := Machine.planned2 0 (s.phases c slot)
/-- A slot's planned charge in mA ms, rounded up. -/
def State.planned (s : State) (c slot : Nat) : Nat := ceilDiv (s.planned2 c slot) 200

/-- A slot's peak |ITGT| over its phases (R147, R152). -/
def State.peak (s : State) (c slot : Nat) : Nat := ((s.phases c slot).map fun w => (phItgt w).natAbs).foldl max 0

/-! ### The bridge (R142, R144) -/

/-- What phase p of the channel's slot makes the bridge do. DIR swaps the outputs (R142). -/
def State.phaseBridge (s : State) (c p : Nat) : Bridge :=
  let slot := s.fld (R.actChStatSlot c)
  let w := s.fld (R.actChPhase c slot p)
  let atBalls (i : Int) : Int := if s.flag (R.actChCtlDir c) then -i else i
  let from_ := if p = 0 then 0 else phFinal (s.fld (R.actChPhase c slot (p - 1)))
  let b := atBalls (phItgt w)
  match phMode w with
  | 1 => .regulate false b b
  | 2 => .regulate true b b
  | 3 => .brake
  | 4 => .regulate false (atBalls from_) b
  | _ => .coast

/-- Set what a bridge does. -/
def State.setBridge (s : State) (c : Nat) (b : Bridge) : State := s.modAct c fun x => { x with bridge := b }

/-- The target `t` after the start of a list of phases, and the number it is to be divided by: none while the loop is open
(R144). -/
def targetIn (a : Int) (t : Nat) : List Nat → Option (Int × Nat)
  | [] => none
  | w :: later =>
    let len := phDur w * 10 * unitsPerUs
    if t < len then
      match phMode w with
      | 1 | 2 => if phItgt w = 0 then none else some (phItgt w * len, len)
      | 4 => let v := a * len + (phItgt w - a) * t; if v = 0 then none else some (v, len)
      | _ => none
    else targetIn (phFinal w) (t - len) later

/-- The closed loop's target of a channel at an instant of its running profile; none while the loop is open (R144). -/
def State.targetAt (s : State) (c t : Nat) : Option (Int × Nat) :=
  let x := s.act c
  if s.actState c = 4 && !x.last && !x.stopping && x.profT ≤ t then
    targetIn 0 (t - x.profT) (s.phases c (s.fld (R.actChStatSlot c)))
  else none

/-! ### Starts -/

/-- The measured charge over the current bin and the 63 before it (R149). -/
def State.charge (s : State) (c : Nat) : Nat := (s.act c).cur + (s.act c).bins.sum

/-- Show the charge in ACT_CH_USED. -/
def State.showUsed (s : State) (c : Nat) : State := s.setFld (R.actChUsed c) (min (s.charge c) (2 ^ 24 - 1))

def State.setActState (s : State) (c v : Nat) : State := s.setFld (R.actChStatState c) v

/-- Is a channel reserved by the sequencer (R151)? -/
def State.reserved (s : State) (c : Nat) : Bool := s.flag (R.actChStatRsv c)

/-- The first cause of R147 that refuses a start. The reserved open profile is never refused for budget (R151), and the
reservation of the close profile is its own. (DEDUCED, log entry 76) -/
def State.startCause (s : State) (c slot : Nat) (src : ActSrc) : Option Nat :=
  let st := s.actState c
  let v := s.fld R.actVact
  if !s.flag (R.actChCtlEn c) then some 1
  else if s.slotLen c slot = 0 then some 2
  else if st = 5 then some 3
  else if st = 2 || st = 3 || st = 4 || (src == .host && s.reserved c) then some 4
  else if src != .openP && 200 * s.fld (R.actChBudget c) < 200 * s.charge c + s.planned2 c slot
      + (if src == .close then 0 else ((s.act c).rsvClose).getD 0) + ((s.act c).rsvOpen).getD 0 then some 5
  else if v < 4750 || 16500 < v then some 6
  else if s.fld (R.actChIlim c) < s.peak c slot then some 7
  else none

/-- The sum of the peaks of the running channels (R152). -/
def State.peakSum (s : State) : Nat :=
  ((List.range 8).map fun c => if s.actState c = 4 then s.peak c (s.fld (R.actChStatSlot c)) else 0).sum

/-- Run a started profile: phase 0 begins, the count rises here and in the peat store (R146, R347). A reservation ends with
the start of its profile, and the channel's mark with the last of them (R151). -/
def State.runProfile (s : State) (c : Nat) : State :=
  let s := (s.setActState c 4).setFld (R.actChStatPhase c) 0
  let s := s.bump (R.actChCount c)
  let s := s.peatUpd (.count (0x20 + 4 * c))
  let s := if (s.act c).src == .openP && (s.act c).rsvClose = none then s.setFlag (R.actChStatRsv c) false else s
  s.modAct c fun x =>
    { x with phaseT := s.now, profT := s.now, last := false, stopping := false,
             bridge := s.phaseBridge c 0,
             rsvClose := if x.src == .close then none else x.rsvClose,
             rsvOpen := if x.src == .openP then none else x.rsvOpen }

/-- The total-current wait (R152): run, or queue behind earlier starts. -/
def State.runOrQueue (s : State) (c : Nat) : State :=
  if s.actQ.isEmpty && decide (s.peakSum + s.peak c (s.fld (R.actChStatSlot c)) ≤ s.fld R.actTotalLim) then s.runProfile c
  else { (s.setActState c 3) with actQ := s.actQ ++ [c] }

/-- Has the minimum off time passed (R148)? -/
def State.offPassed (s : State) (c : Nat) : Bool :=
  match (s.act c).lastEnd with
  | none => true
  | some t => t + s.fld (R.actChMinoff c) * unitsPerMs ≤ s.now

/-- A start takes effect (R147, R148): refused with its cause, or the waits begin. A reservation is released when its
profile starts. -/
def State.actStart (s : State) (c slot : Nat) (src : ActSrc) (cmd : Option Nat) : State :=
  match s.startCause c slot src with
  | some k => ((s.refuse (0x110034 + 0x100 * c) k).raise 0x0601 c k).finishO cmd 1 k 0 0
  | none =>
    let s := s.setFld (R.actChStatSlot c) slot
    let s := s.modAct c fun x => { x with src, cmd }
    if s.offPassed c then s.runOrQueue c else s.setActState c 2

/-- The starts that waited take effect, in the order in which they came (R329). -/
def State.startsGoOn (s : State) : State :=
  if s.alive then
    s.therm.starts.foldl (fun (s : State) (x : Nat × Nat) => s.actStart x.1 x.2 .host none)
      { s with therm := { s.therm with starts := [] } }
  else s

/-- R147: a start bound to a tick takes effect. -/
def State.actTickStart (s : State) (c : Nat) : State :=
  match s.committedReq .actStart c with
  | none => s
  | some q => (s.dropReq q).actStart c q.p0 .host q.cmd

/-- Time into the profile in 10 us units. -/
def State.profTime (s : State) (c : Nat) : Nat := (s.now - (s.act c).profT) / (10 * unitsPerUs)

/-- A close or open profile of a shutter event has ended: tell the sequencer. -/
def State.tellCal (s : State) (c : Nat) : State :=
  match (s.act c).src with
  | .host => s
  | .close => s.modCal (c / 2) fun k => { k with closeDone := true, closeT := s.now }
  | .openP => s.modCal (c / 2) fun k => { k with openDone := true }

/-- The end of a profile (R146): the outputs are high impedance (R142), the channel is idle, or off when disabled, and the
command that waits completes with code 0 ended or 1 stopped. -/
def State.profileEnd (s : State) (c code : Nat) : State :=
  let t := s.profTime c
  let x := s.act c
  let s := s.tellCal c
  let s := s.setActState c (if s.flag (R.actChCtlEn c) then 1 else 0)
  let s := s.modAct c fun x => { x with last := false, stopping := false, cmd := none, lastEnd := some s.now, bridge := .highZ }
  s.finishO x.cmd 0 0 code t

/-- An open profile that a freeze or a shutdown takes from a running event counts as not run: it runs at thaw (R157). -/
def State.reopen (s : State) (c : Nat) : State :=
  if (s.act c).src == .openP && s.fld (R.calStatusState (c / 2)) != 0 && (s.actState c == 2 || s.actState c == 3 ||
      s.actState c == 4) then
    (s.modAct c fun x => { x with src := .host }).modCal (c / 2) fun k => { k with openRun := false, openWait := true }
  else s

/-- Abandon a channel's profile without a fault: freeze or shutdown (R157). -/
def State.coastAll (s : State) : State :=
  (List.range 8).foldl (fun s c =>
    let s := s.reopen c
    if s.actState c = 4 then (s.profileEnd c 1).setBridge c .coast
    else if s.actState c = 2 || s.actState c = 3 then
      { (s.setActState c 1) with actQ := s.actQ.erase c }.finishO (s.act c).cmd 0 0 1 0
    else s) s

end Sys2Proof.Machine
end

