-- ==== Sys2Proof/Machine/Deliver.lean ====
section
/-!
DEFINITION. Frame buffers (R111) and the offer of frames and results to the bound streams: the words of the frame metadata
header (R41, R283) and the overflow of a delivery backlog (R284).
-/
namespace Sys2Proof.Machine

/-! ### Addresses -/

def State.recBase (s : State) (h b : Nat) : Nat := s.base (R.corrBankRecLo h b) (R.corrBankRecHi h b)
def State.lutBase (s : State) (h b : Nat) : Nat := s.base (R.corrBankLutLo h b) (R.corrBankLutHi h b)
/-- The size of one buffer of format f (R111). -/
def State.fmtSize (s : State) (h f : Nat) : Nat := ceilDiv (s.nCols h * s.nRows h * fmtWidth f) 4096 * 4096
/-- The address of a pixel in a slot of format f (R111). -/
def State.outAddr (s : State) (h f slot r c : Nat) : Nat :=
  s.base (R.corrOutLo h f) (R.corrOutHi h f) + slot * s.fmtSize h f + (r * s.nCols h + c) * fmtWidth f
def State.lstatAddr (s : State) (h slot r : Nat) : Nat :=
  s.base (R.corrLstatLo h) (R.corrLstatHi h) + slot * 4096 + 2 * r
def State.fmtOn (s : State) (h f : Nat) : Bool := nbits (s.fld (R.corrFmtEn h)) f 1 == 1


/-- Limit a count to 16 bits. -/
def sat16 (n : Nat) : Nat := min n 0xFFFF

/-- The header words of a frame (R41, R283); the buffer, gap and phase fields are set when the header is written. -/
def State.headerWords (s : State) (h kind task slot : Nat) (f : Frame) (src : Nat) (stale : Nat) : List Nat :=
  let b (x : Bool) (k : Nat) : Nat := if x then 2 ^ k else 0
  [kind + h * 16 + slot % 16 * 256 + task * 65536,
   b f.held 0 + b f.repaired 1 + b f.truncated 2 + b f.sliceChg 3 + b (f.nLate != 0) 7
     + (if kind = 6 then f.layerStale * 256 else 0) + stale * 4096 + b f.genNew 13 + b f.refStale 14 + b f.drift 15
     + f.gen % 65536 * 65536,
   f.no, f.tick, f.tStart % 2 ^ 32, f.tStart / 2 ^ 32 % 2 ^ 32, f.tRead,
   b f.wrap 0 + b f.fly 1 + b f.holdover 2 + b f.contBreak 3 + f.src * 16 + s.divN h * 256
     + s.fld (R.headCadPhase h) * 65536,
   f.tfpa % 2 ^ 20, if kind < 6 && f.held then f.heldNo else src,
   sat16 f.nLate + sat16 f.nRepl * 65536, sat16 f.nSusp + sat16 f.nLim * 65536, 0, 0, 0, 0]

/-- Is tick a at or after tick b, counting mod 2^32? -/
def tickFrom (a b : Nat) : Bool := (a + 2 ^ 32 - b % 2 ^ 32) % 2 ^ 32 < 2 ^ 31

/-- Headers waiting for room in a delivery ring (R284). -/
def State.backlogOf (s : State) (d : Nat) : List (List Nat) := tget (fun _ => []) s.backlog d

/-- Offer a frame or result to the stream bound to its kind (R282, R284). -/
def State.offer (s : State) (h kind task : Nat) (f : Frame) (slot addr bytes src stale : Nat) : State :=
  match s.streams.find? (fun t => t.head == h && t.kind == kind && t.task == task && t.bound && !t.ending) with
  | none => s
  | some t =>
    if !tickFrom f.tick t.tick then s
    else if 64 ≤ (s.backlogOf t.dq).length then
      let s := { s with streams := s.streams.map fun u => if u = t then { u with gap := u.gap + 1 } else u }
      (s.bump (R.hostDqOvf t.dq)).raise 0x0B02 t.dq
    else
      { s with offers := s.offers ++
                 [{ head := h, kind, task, no := f.no, slot, ws := s.headerWords h kind task slot f src stale,
                    addr, bytes, t := s.now, gap := t.gap }],
               streams := s.streams.map fun u => if u = t then { u with gap := 0 } else u }

end Sys2Proof.Machine
end

