-- ==== Sys2Proof/Machine/Radiometry.lean ====
section
/-!
DEFINITION. The correction and radiometric arithmetic: record fields (R93), V and C (R101), CCOUNT16 (R103), replacement
(R106), the temperature of a pixel (R114), the record build (R129, R130) and the searches in LT (R112, R133).
-/
namespace Sys2Proof.Machine

/-! ### Records (R93), as 128-bit numbers -/
def recAcode (x : Nat) : Nat := nbits x 0 14
def recDoff (x : Nat) : Int := sext 18 (nbits x 14 18)
def recGain (x : Nat) : Nat := nbits x 32 16
def recD1 (x : Nat) : Int := sext 16 (nbits x 48 16)
def recD2 (x : Nat) : Int := sext 12 (nbits x 64 12)
def recRes (x : Nat) : Int := sext 14 (nbits x 76 14)
def recBad (x : Nat) : Bool := nbits x 90 1 == 1
def recRepl (x : Nat) : Nat := nbits x 91 3
def recNoisy (x : Nat) : Bool := nbits x 94 1 == 1
def recSuspect (x : Nat) : Bool := nbits x 95 1 == 1
def recGen4 (x : Nat) : Nat := nbits x 98 4
def recUser (x : Nat) : Nat := nbits x 102 16

/-- A number with a bit field replaced. -/
def setBits (x lo len v : Nat) : Nat := x - nbits x lo len * 2 ^ lo + v % 2 ^ len * 2 ^ lo

/-- V (R101): the full-range value in counts. -/
def corrV (d a w : Nat) : Int := satI 22 (rne (((d : Int) - 32768) * 4096 + (w : Int) * ((a : Int) - 8192)) 12)

/-- t of R101: T_fpa - Tcal limited to 16 bits. -/
def corrT (tfpa tcal : Nat) : Int := satI 16 ((tfpa : Int) - tcal)

/-- Does the limit of R102 bind? A difference of exactly -128 K is not changed by it. (DESIGN CHOICE, log entry 70) -/
def corrTLimited (tfpa tcal : Nat) : Bool := corrT tfpa tcal != (tfpa : Int) - tcal

/-- S8 (R101). -/
def corrS8 (v t : Int) (rec : Nat) : Int :=
  satI 32 (rne ((v - recDoff rec) * 2 ^ 26 - recD1 rec * t * 2 ^ 10 - recD2 rec * t * t - recRes rec * 2 ^ 24) 18)

/-- C in Q26.22 (R101). -/
def corrC22 (v t : Int) (rec : Nat) : Int := (recGain rec : Int) * corrS8 v t rec

/-- CCOUNT16 before its limit (R103). -/
def ccountRaw (c22 : Int) : Int := rne c22 22 + 32768
def ccount (c22 : Int) : Nat := (clampI 0 65535 (ccountRaw c22)).toNat
def ccountLimited (c22 : Int) : Bool := ccountRaw c22 != clampI 0 65535 (ccountRaw c22)

/-- Interpolation in a 4096-entry table of step 2^k (R114). -/
def lutAt (l : List Nat) (base mask i f k : Nat) : Nat :=
  let lo := l.getD (base + i) 0 % mask
  let hi := l.getD (base + min 4095 (i + 1)) 0 % mask
  ((lo : Int) + rne (((hi : Int) - lo) * f) k).toNat

/-- LT at a 24-bit radiance, Q16.16 K (R114). -/
def ltAt (lut : List Nat) (lo : Nat) : Nat := lutAt lut 4096 (2 ^ 32) (lo / 4096) (lo % 4096) 12

/-- The temperature of a pixel, with the number of clamps that bound (R114). -/
def pixelTemp (lut : List Nat) (c22 : Int) (loff inv : Nat) : Nat × Nat :=
  let x := rne c22 18 + 0x80000
  let u := clampI 0 0xFFFFF x
  let lm := lutAt lut 0 (2 ^ 24) (u.toNat / 256) (u.toNat % 256) 8
  let y := rne (((lm : Int) - loff) * inv) 16
  let lo := clampI 0 0xFFFFFF y
  (ltAt lut lo.toNat, (if u = x then 0 else 1) + (if lo = y then 0 else 1))

/-- The emissivity pair of a material entry (R112), with whether its INV_EPS had to be replaced. -/
def materialPair (lut : List Nat) (user : Nat) : Nat × Nat × Bool :=
  let e := user % 256
  let loff := lut.getD (8192 + 2 * e) 0 % 2 ^ 24
  let inv := lut.getD (8192 + 2 * e + 1) 0 % 2 ^ 24
  if 0x10000 ≤ inv && inv ≤ 0x640000 then (loff, inv, false) else (loff, 0x10000, true)

/-- TEMP16 (R110). -/
def temp16 (t : Nat) (lsb : Bool) : Nat := min 0xFFFF (rne t (if lsb then 12 else 10)).toNat

/-- The mean of some values: rounded to an integer, ties to even (R106). -/
def meanOf (l : List Int) : Int := rdiv l.sum l.length

/-- The median of R106 over its usable values: one, two (their mean) or three. -/
def medianOf : List Int → Int
  | [a, b, c] => max (min a b) (min (max a b) c)
  | l => meanOf l

/-- A replacement value (R106, R107): left, right and upper neighbours where usable; method 7 when none is. -/
def replValue (m : Nat) (l r u : Option Int) (const : Nat) : Int :=
  let k7 := ((const : Int) - 32768) * 2 ^ 22
  let use (xs : List (Option Int)) (f : List Int → Int) : Int :=
    match xs.filterMap id with
    | [] => k7
    | ys => f ys
  match m with
  | 0 => use [l] meanOf
  | 1 => use [r] meanOf
  | 2 => use [l, r] meanOf
  | 3 => use [u] meanOf
  | 4 => use [l, u] meanOf
  | 5 => use [l, r, u] meanOf
  | 6 => use [l, r, u] medianOf
  | _ => k7

/-- The settings a record build reads (R129, R130). -/
structure BuildCfg where
  driftEn : Bool
  lastValid : Bool
  minDt : Nat
  shift : Nat
  navg : Nat
  limStep : Nat
  t : Int
  tp : Int
  gen4 : Nat
  deriving DecidableEq, Repr

/-- A built record: the new record, whether the pixel fails, and its dres (R129, R130). -/
structure Built where
  word : Nat
  fail : Bool
  dres : Int
  deriving DecidableEq, Repr

/-- The record build of R129 and R130 from the old record and the accumulator entry. -/
def buildRecord (k : BuildCfg) (old : Nat) (sum : Int) (n : Nat) (accUe : Bool) : Built :=
  let dres := if n = 0 then 0 else rne (rdiv sum n) 2
  let res1 := recRes old + dres
  let dd1 := if k.driftEn && k.lastValid && !recSuspect old && k.t != k.tp && (k.minDt : Int) ≤ (k.t - k.tp).natAbs
    then rdiv (dres * 16384) ((k.t - k.tp) * 2 ^ k.shift) else 0
  let d1n := recD1 old + dd1
  let resn := res1 - rne (dd1 * k.t) 14
  let fail := 2 * n < k.navg || (!recSuspect old && (k.limStep : Int) < dres.natAbs)
    || resn < -8192 || 8191 < resn || d1n < -32768 || 32767 < d1n || accUe
  let g := setBits old 98 4 k.gen4
  if fail then { word := setBits g 95 1 1, fail, dres }
  else { word := setBits (setBits (setBits g 76 14 (unsx 14 resn)) 48 16 (unsx 16 d1n)) 95 1 0, fail, dres }

/-- A record rewritten from its golden copy (R137). -/
def goldRecord (gold gen4 : Nat) : Nat :=
  let keep := setBits (setBits (setBits gold 76 14 0) 95 1 1) 98 4 gen4
  setBits (setBits keep 96 2 0) 118 10 0

/-- A record repaired without a golden copy (R137): a bad pixel. -/
def badRecord (gen4 : Nat) : Nat := 8192 + 2 ^ 90 + 2 * 2 ^ 91 + 2 ^ 95 + gen4 * 2 ^ 98

/-- The smallest offset of a rising segment that reaches the target, by bisection: interpolation is monotone in it. -/
def segBisect (lut : List Nat) (j tgt : Nat) : Nat → Nat → Nat → Nat
  | 0, lo, _ => 4096 * j + lo
  | n + 1, lo, hi =>
    if hi ≤ lo then 4096 * j + lo
    else
      let m := (lo + hi) / 2
      if tgt ≤ ltAt lut (4096 * j + m) then segBisect lut j tgt n lo m else segBisect lut j tgt n (m + 1) hi

/-- Search the segments of LT in order for the smallest 24-bit radiance whose interpolation reaches the target (R112,
R133). In a segment that does not rise, the first offset decides; in one that rises, the interpolation is monotone. -/
def ltSearch (lut : List Nat) (tgt : Nat) : Nat → Nat → Option Nat
  | 0, _ => none
  | n + 1, j =>
    if tgt ≤ ltAt lut (4096 * j) then some (4096 * j)
    else if tgt ≤ ltAt lut (4096 * j + 4095) then some (segBisect lut j tgt 13 0 4095)
    else ltSearch lut tgt n (j + 1)

/-- L_refl and L_sh: the smallest 24-bit radiance whose interpolation of LT is at least T x 256 (R112, R133). -/
def radianceFor (lut : List Nat) (t : Nat) : Option Nat := ltSearch lut (t * 256) 4096 0

/-- Does LT decrease anywhere (R133)? -/
def ltFalls (lut : List Nat) : Bool :=
  (List.range 4095).any fun j => lut.getD (4096 + j + 1) 0 < lut.getD (4096 + j) 0

end Sys2Proof.Machine
end

