-- ==== Sys2Proof/Machine/Corr.lean ====
section
/-!
DEFINITION. The correction pipelines: record fetch (R96 to R98), the pixel (R99, R101 to R114), row and frame completion
(R51, R100, R111, R116), the record build of a shutter event (R129, R130), its accumulator (R128) and table repair (R137,
R138).
-/
namespace Sys2Proof.Machine

/-- A pipeline's write of a value of a row it is processing: rows are whole 8-byte groups, so a group is written whole and
its check byte is good once its last byte is written. `part`: late pixels leave gaps in the group, which is merged (R221).
Outside device DRAM each burst is refused (R218), and the bursts are of 256 bytes (R217). (DESIGN CHOICE, log entry 87) -/
def State.outPut (s : State) (h a n v : Nat) (part : Bool := false) : State :=
  if inDram a n then
    let s := s.putBytes a (leBytes n v)
    if (a + n) % 8 != 0 then s else if part then s.eccWrite h a n (a / 8) else s.setEcc (a / 8) 0
  else if a % 256 = 0 then s.oor h a else s

/-- A pipeline's write of one value: in the row's stream, or by itself for a late fill, which merges its group (R99, R221). -/
def State.putValue (s : State) (fill part : Bool) (h a n v : Nat) : State :=
  if fill then s.dramPut h a n v else s.outPut h a n v part

/-- The frame number before (R37). -/
def prevNo (n : Nat) : Nat := (n + 2 ^ 32 - 1) % 2 ^ 32

/-! ### Record fetch -/

/-- The bank a frame uses: the frame's own once started, else the bank the next edge makes active (R98, R122). -/
def State.bankFor (s : State) (h no : Nat) : Nat :=
  match (s.head h).frames.find? (·.no == no) with
  | some f => f.bank
  | none =>
    match (s.pipe h).actNext with
    | some a => a.1
    | none => (s.pipe h).active.getD 0

/-- Has the first sample of row r of a frame been taken? -/
def State.rowBegun (s : State) (h : Nat) (f : Frame) (r : Nat) : Bool :=
  r < f.rows || ((s.curFrame h).any (·.no == f.no) && (List.range (s.nCols h)).any fun c =>
    (tget (fun _ => ({} : Pix)) (s.pipe h).pix (r * 2048 + c)).have_)

/-- Is the fetch of row q of frame `no` due (R96, R98): the first sample of row q - LEAD has been taken, where that row is
one of the frame before, of that frame unless it is over; and the commit point of the tick that starts the frame has
passed? -/
def State.fetchDue (s : State) (h no q : Nat) : Bool :=
  let x := s.head h
  let lead := s.fld (R.corrPfLead h)
  let before := match x.frames.find? (·.no == prevNo no) with
    | some p => s.nRows h ≤ p.rows || s.rowBegun h p (s.nRows h + q - lead)
    | none => true
  match x.frames.find? (·.no == no) with
  | some f => f.rows ≤ q && (if lead ≤ q then s.rowBegun h f (q - lead) else before)
  | none => no == x.nextNo && s.hState h == 4 && x.timing && (x.due || (s.tick.committed && s.divN h ≤ x.div + 1)) &&
      q < lead && before

/-- The period of a head that is not running to which row r belongs: the one before, whose last rows are read after the edge
that ended it (R52), until its successor is being read. -/
def State.idleFor (s : State) (h r : Nat) : Option Frame :=
  let x := s.head h
  let tail := decide (s.nRows h * s.nPer h < s.lead h + (r + 1) * s.nPer h)
  match s.curFrame h with
  | none => (if tail then x.idleOld else none).or x.idleP
  | some f => if tail && 0 < r && f.rows = 0 && !s.rowBegun h f 0 then x.idleOld else none

/-- The frame that row r, now being read, belongs to. -/
def State.frameFor (s : State) (h r : Nat) : Option Frame := if (s.idleFor h r).isSome then none else s.frameAt h r

/-- The frame period, of a frame or not, that row r, now being read, belongs to. -/
def State.periodFor (s : State) (h r : Nat) : Option Frame := (s.idleFor h r).or (s.frameAt h r)

/-- R96, R98: the fetch of row q of frame `no` is issued when it is due into slot q mod 8, which is free. -/
def rowFetchIssue (h no q : Nat) (s : State) : State :=
  if q < s.nRows h && s.fetchDue h no q && !(tget (fun _ => ({} : Slot)) (s.pipe h).slots (q % 8)).issued then
    let x : Slot := { row := q, frame := no, bank := s.bankFor h no, issued := true }
    s.modPipe h fun p => { p with slots := tset (fun _ => {}) (q % 8) x p.slots }
  else s

/-- Note a record found bad, to be repaired within 1 ms (R137). -/
def State.noteRepair (s : State) (h b idx : Nat) : State :=
  if (s.cal h).repairs.contains (b, idx) then s
  else (s.modCal h fun c => { c with repairs := c.repairs ++ [(b, idx)] }).faultFound 4 (h * 2 ^ 32 + b * 2 ^ 31 + idx)

/-- R97: the records of row q arrive in their slot; uncorrectable ones are counted and noted for repair. -/
def rowFetchDone (h q : Nat) (s : State) : State :=
  let sl := tget (fun _ => ({} : Slot)) (s.pipe h).slots (q % 8)
  if sl.issued && !sl.arrived && sl.row == q then
    let a := s.recBase h sl.bank + 16 * (q * s.nCols h)
    let recs := (List.range (s.nCols h)).map fun c => (s.rd (a + 16 * c) 16, !s.ueIn (a + 16 * c) 16)
    let bad := (List.range (s.nCols h)).filter fun c => s.ueIn (a + 16 * c) 16
    let s' := (s.dramRead h a (16 * s.nCols h)).2.2
    let s' := bad.foldl (fun s c => (s.bump (R.corrRecEcc h)).noteRepair h sl.bank (q * s.nCols h + c)) s'
    s'.modPipe h fun p =>
      { p with slots := tset (fun _ => {}) (q % 8) { sl with arrived := true, recs := recs } p.slots }
  else s

def pixKey (r c : Nat) : Nat := r * 2048 + c
def State.pix (s : State) (h r c : Nat) : Pix := tget (fun _ => {}) (s.pipe h).pix (pixKey r c)
def State.setPix (s : State) (h r c : Nat) (x : Pix) : State :=
  s.modPipe h fun p => { p with pix := tset (fun _ => {}) (pixKey r c) x p.pix }

/-- R74, R97: the ACODE of a pixel is due. Its record is judged, and its code loads if the record is usable and the slice
does not calibrate; a late record leaves the DAC as it is (R75). -/
def acodeLoad (h r c : Nat) (s : State) : State :=
  match s.frameAt h r with
  | none => s
  | some f =>
    if c < s.nCols h then
      let sl := tget (fun _ => ({} : Slot)) (s.pipe h).slots (r % 8)
      let here := sl.arrived && sl.row == r && sl.frame == f.no && sl.bank == f.bank
      let (rec, good) := sl.recs.getD c (0, false)
      let usable := here && good && recGen4 rec == f.gen % 16
      let s := s.setPix h r c
        { s.pix h r c with late := !usable, recOk := here, ue := here && !good, rec_ := if here then rec else 0 }
      if usable && !s.isCalRow h r then
        match s.sliceOn h (s.tapOf h c) with
        | some l => s.modSlice (38 * h + l) fun x => { x with dac := recAcode rec }
        | none => s
      else s
    else s

/-! ### The pixel -/

/-- Is a pixel replaced under R104, orders 3 to 8? -/
def pixReplaced (f : Frame) (x : Pix) : Bool :=
  x.st == 3 || x.st == 2 || recBad x.rec_ || (recNoisy x.rec_ && f.noisyBad) || (recSuspect x.rec_ && f.suspectBad) ||
    (x.st == 1 && f.satRepl)

/-- A pixel's computed, unreplaced C (R101). -/
def pixC22 (f : Frame) (x : Pix) : Int := corrC22 (corrV x.d x.a x.w) (corrT f.tfpa f.tcal) x.rec_

/-- A neighbour's C where it is usable (R107): same side of the blind boundary, not in a calibration row, record not
late, not itself replaced. -/
def State.neighbour (s : State) (h : Nat) (f : Frame) (blind : Bool) (r c : Nat) : Option Int :=
  let x := s.pix h r c
  if x.have_ && c < s.nCols h && s.isBlind h c == blind && !s.isCalRow h r && !x.late && !pixReplaced f x
  then some (pixC22 f x) else none

/-- The replacement value of a pixel by a method (R106, R107). -/
def State.replace (s : State) (h : Nat) (f : Frame) (r c m : Nat) : Int :=
  let b := s.isBlind h c
  replValue m (if c = 0 then none else s.neighbour h f b r (c - 1)) (s.neighbour h f b r (c + 1))
    (if r = 0 then none else s.neighbour h f b (r - 1) c) (s.fld (R.corrBadConst h))

/-- The on-chip copy of a bank's radiometric part. -/
def Pipe.lut (p : Pipe) (b : Nat) : List Nat := if b = 0 then p.lut0 else p.lut1

/-- Set SAT for a row (R100, R114): in the status of the row in progress, or in the status word of a row that is complete. -/
def State.satRow (s : State) (h : Nat) (f : Frame) (r : Nat) : State :=
  if ((s.head h).frames.find? (·.no == f.no)).any (fun g => r < g.rows) then
    let a := s.lstatAddr h f.slot r
    s.dramPut h a 2 (s.rd a 2 ||| 32)
  else s.modFrame h f.no fun g => { g with line := g.line ||| 32 }

/-- The other columns of the 8-byte group that holds a pixel's value of `n` bytes. -/
def groupCols (n c : Nat) : List Nat := ((List.range (8 / n)).map (c / (8 / n) * (8 / n) + ·)).erase c

/-- Do late pixels, whose values come by late fills, leave gaps in a pixel's group (R99, R221)? -/
def State.lateGap (s : State) (h : Nat) (f : Frame) (r c n : Nat) : Bool :=
  !f.held && !f.contBreak && (groupCols n c).any fun k => (s.pix h r k).late

/-- A late pixel that ends a group leaves it to be merged with what the others wrote (R221). -/
def State.lateEnd (s : State) (h : Nat) (f : Frame) (r c k : Nat) : State :=
  let n := fmtWidth k
  let a := s.outAddr h k f.slot r c
  if inDram a n && (a + n) % 8 = 0 && (groupCols n c).any fun k => !(s.pix h r k).late then s.eccWrite h a n (a / 8) else s

/-- Write the formats derived from C (R103, R110, R114) and count their limits; a clamp sets SAT. CORR_SAT_PIX counts where
CCOUNT16 is enabled. `fill`: by a late fill. (DESIGN CHOICE, log entry 81) -/
def State.writeDerived (s : State) (h : Nat) (f : Frame) (r c : Nat) (c22 : Int) (user : Nat) (fill : Bool) : State :=
  let lim := s.fmtOn h 2 && ccountLimited c22
  let s := if s.fmtOn h 2 then s.putValue fill (s.lateGap h f r c 2) h (s.outAddr h 2 f.slot r c) 2 (ccount c22) else s
  let s := if lim then s.bump (R.corrSatPix h) else s
  if s.fmtOn h 3 || s.fmtOn h 4 then
    let lut := (s.pipe h).lut f.bank
    let (loff, inv, mbad) := if f.emap then materialPair lut user else (f.loff, f.inv, false)
    let (t, cl) := pixelTemp lut c22 loff inv
    let s := s.bump (R.corrRadClamp h) ((if mbad then 1 else 0) + cl)
    let s := if s.fmtOn h 3 then
        s.putValue fill (s.lateGap h f r c 2) h (s.outAddr h 3 f.slot r c) 2 (temp16 t (s.flag (R.corrFmtTemp16Lsb h))) else s
    let s := if s.fmtOn h 4 then s.putValue fill (s.lateGap h f r c 4) h (s.outAddr h 4 f.slot r c) 4 t else s
    (if cl = 0 then s else s.satRow h f r).modFrame h f.no fun g =>
      { g with nLim := g.nLim + (if lim || cl != 0 then 1 else 0) }
  else if lim then s.modFrame h f.no fun g => { g with nLim := g.nLim + 1 } else s

/-- The derived formats enabled for a head: CCOUNT16, TEMP16, TEMP32. -/
def State.derivedFmts (s : State) (h : Nat) : List Nat := [2, 3, 4].filter (s.fmtOn h)

/-- R99, R127: copy a pixel's values from the head's previous frame; an uncorrectable value is replaced by the value `c22` of
method 2 and marks the frame repaired (R220). Each value is read by a burst of its own. `fill`: by a late fill.
(DESIGN CHOICE, log entry 87) -/
def State.copyPrev (s : State) (h : Nat) (f : Frame) (r c : Nat) (c22 : Int) (user : Nat) (fill : Bool) : State :=
  let prev := f.prev
  let fs := s.derivedFmts h
  let bad := fs.any fun k => s.ueIn (s.outAddr h k prev r c) (fmtWidth k)
  let (vs, s) := fs.foldl (fun (acc : List (Nat × Nat) × State) k =>
    let (bs, _, s) := acc.2.dramRead h (acc.2.outAddr h k prev r c) (fmtWidth k)
    (acc.1 ++ [(k, leNat bs)], s)) (([], s) : List (Nat × Nat) × State)
  if bad then
    (s.writeDerived h f r c c22 user fill).modFrame h f.no
      fun g => { g with repaired := true }
  else vs.foldl (fun (s : State) (v : Nat × Nat) =>
    s.putValue fill false h (s.outAddr h v.1 f.slot r c) (fmtWidth v.1) v.2) s

/-- Line status bits one pixel contributes (R100, R104). -/
def pixLine (f : Frame) (x : Pix) (cal : Bool) : Nat :=
  (if x.late then 1 ||| (if x.ue then 4 else if x.recOk && recGen4 x.rec_ != f.gen % 16 then 2 else 0) else 0)
    ||| (if x.st = 2 then 8 else 0) ||| (if x.st = 3 then 16 else 0) ||| (if x.st = 1 then 32 else 0)
    ||| (if cal then 64 else 0) ||| (if !x.late && recSuspect x.rec_ then 512 else 0)
    ||| (if !x.late && !cal && pixReplaced f x then 1024 else 0)

/-- The accumulator entry address of a record index (R128). -/
def State.accAddr (s : State) (h idx : Nat) : Nat := s.base (R.calAccLo h) (R.calAccHi h) + 4 * idx

/-- The settings of a build (R129). -/
def State.buildCfg (s : State) (h tcal : Nat) : BuildCfg :=
  { driftEn := s.flag (R.calCtlDriftEn h), lastValid := s.flag (R.calLastTValid h), minDt := s.fld (R.calDriftMinDt h),
    shift := s.fld (R.calCtlDriftShift h), navg := s.fld (R.calFramesNavg h), limStep := s.fld (R.calLimStep h),
    t := corrT (s.cal h).tLast tcal, tp := corrT (s.fld (R.calLastTT h)) tcal, gen4 := (s.cal h).gen % 16 }

/-- The record a repair writes at an index of a bank (R137): from the golden copy in the flash when there is one and its read
gets no error response, as it does outside the XIP window. (DESIGN CHOICE, log entry 70) -/
def State.repaired (s : State) (h b idx : Nat) : Nat × State :=
  let g := s.base (R.calGoldLo h) (R.calGoldHi h)
  let gen4 := s.fld (R.corrBankGen h b) % 16
  if g = 0 then (badRecord gen4, s)
  else match s.xipGet (g + 16 * idx) 16 with
    | (some bs, s) => (goldRecord (leNat bs) gen4, s)
    | (none, s) => (badRecord gen4, s)

/-- Does a read of the golden copy wait for a poll of the flash port to end (R314)? -/
def State.goldWaits (s : State) (h : Nat) : Bool := s.xipWaits (s.base (R.calGoldLo h) (R.calGoldHi h))

/-- The record of a pixel as fetched for its frame, and whether its read carried an uncorrectable error (R97, R129): the one its
ACODE came from, else the one in the row's slot, else that of a fetch made now. -/
def State.fetchedRec (s : State) (h : Nat) (f : Frame) (r c : Nat) : Nat × Bool :=
  let x := s.pix h r c
  let sl := tget (fun _ => ({} : Slot)) (s.pipe h).slots (r % 8)
  if x.recOk then (x.rec_, x.ue)
  else if sl.arrived && sl.row == r && sl.frame == f.no && sl.bank == f.bank then
    let e := sl.recs.getD c (0, false)
    (e.1, !e.2)
  else
    let src := s.recBase h f.bank + 16 * (r * s.nCols h + c)
    (s.rd src 16, s.ueIn src 16)

/-- R129, R130: build the record at an index of the inactive bank from the active bank's, whose read carried an uncorrectable error
or not; records of calibration and cut rows get only their GEN4. -/
def State.buildRec (s : State) (h tcal idx old : Nat) (ue plain : Bool) : State :=
  let k := s.cal h
  let dst := s.recBase h k.bank + 16 * idx
  if plain then s.dramPut h dst 16 (setBits old 98 4 (k.gen % 16))
  else
    let aa := s.accAddr h idx
    let accUe := s.ueIn aa 4
    let e := s.rd aa 4
    let b := buildRecord (s.buildCfg h tcal) old (sext 27 (nbits e 0 27)) (nbits e 27 5) (accUe || ue)
    let s := (s.dramRead h aa 4).2.2
    let s := s.dramPut h dst 16 b.word
    if recBad old then s
    else s.modCal h fun k =>
      { k with nCount := k.nCount + 1, nFail := k.nFail + (if b.fail then 1 else 0),
               nPass := k.nPass + (if b.fail then 0 else 1), sumDres := k.sumDres + (if b.fail then 0 else b.dres) }

/-- Build from the record as fetched for the build frame, or repaired (R137); where the golden copy cannot be read yet the build
waits (R314). -/
def State.buildAt (s : State) (h : Nat) (f : Frame) (r c : Nat) (plain : Bool) : State :=
  let idx := r * s.nCols h + c
  let e := s.fetchedRec h f r c
  if !e.2 then s.buildRec h f.tcal idx e.1 false plain
  else if s.goldWaits h then s.modCal h fun k => { k with builds := k.builds ++ [(f.bank, f.tcal, idx, plain)] }
  else
    let g := s.repaired h f.bank idx
    g.2.buildRec h f.tcal idx g.1 true plain

/-- The golden copy can be read again: the builds that waited for it, of a bank not given up meanwhile, go on. -/
def State.buildsGoOn (s : State) : State :=
  (List.range 4).foldl (fun (s : State) (h : Nat) =>
    let k := s.cal h
    (if k.building then k.builds else []).foldl (fun (s : State) (b : Nat × Nat × Nat × Bool) =>
      let g := s.repaired h b.1 b.2.2.1
      g.2.buildRec h b.2.1 b.2.2.1 g.1 true b.2.2.2) (s.modCal h fun k => { k with builds := [] })) s

/-- The material index of a pixel (R112): its record's USER, and 0 for a late pixel, which has no record.
(DESIGN CHOICE, log entry 81) -/
def Pix.user (x : Pix) : Nat := if x.late then 0 else recUser x.rec_

/-- R104: the pipeline handles one pixel by the first case that applies. -/
def pixelCorrect (h r c : Nat) (s : State) : State :=
  match s.curFrame h with
  | none => s
  | some f =>
    let x := s.pix h r c
    if f.rows = r && c < s.nCols h && x.have_ && !x.done then
      let cal := s.isCalRow h r
      let v := corrV x.d x.a x.w
      let mism := x.late && x.recOk && !x.ue && recGen4 x.rec_ != f.gen % 16
      -- RAW16 and RECON24 always carry the converted code and V (R105)
      let s := if s.fmtOn h 0 then s.outPut h (s.outAddr h 0 f.slot r c) 2 x.d else s
      let s := if s.fmtOn h 1 then s.outPut h (s.outAddr h 1 f.slot r c) 4 (unsx 24 v + x.st * 2 ^ 24) else s
      -- counters of R109 and R116
      let s := if x.late then s.bump (R.corrLatePix h) else s
      let s := if mism then s.bump (R.corrGenMiss h) else s
      -- the frame's counts and line flags
      let rep := !x.late && !cal && pixReplaced f x
      let s := s.modFrame h f.no fun g =>
        { g with line := g.line ||| pixLine f x cal,
                 nLate := g.nLate + (if x.late then 1 else 0), lateRow := if g.nLate = 0 && x.late then r else g.lateRow,
                 nGen := g.nGen + (if mism then 1 else 0), genRow := if g.nGen = 0 && mism then r else g.genRow,
                 nRepl := g.nRepl + (if rep then 1 else 0),
                 nSusp := g.nSusp + (if !x.late && recSuspect x.rec_ then 1 else 0) }
      -- the limit of R102, once a frame
      let s := if corrTLimited f.tfpa f.tcal && !f.drift then
          ((s.setFlag (R.corrStatusDriftRange h) true).raise 0x0402 h).modFrame h f.no fun g => { g with drift := true }
        else s
      -- C as it goes on: a replaced pixel's replacement, a late one's method 2 where no previous value serves (R99, R105)
      let c22 := if x.late then s.replace h f r c 2 else if rep then s.replace h f r c (recRepl x.rec_) else pixC22 f x
      let s := s.setPix h r c { x with done := true, c22 }
      let s :=
        if f.held then s.copyPrev h f r c (s.replace h f r c 2) x.user false
        else if x.late && !f.contBreak then
          if (s.derivedFmts h).isEmpty then s
          else ((s.derivedFmts h).foldl (fun (s : State) (k : Nat) => s.lateEnd h f r c k) s).modPipe h fun p =>
            { p with lateFill := p.lateFill ++ [(f.no, r, c, c22)] }
        else s.writeDerived h f r c c22 x.user false
      if f.build then s.buildAt h f r c cal else s
    else s

/-- R99: the previous-frame value read for a late pixel arrives and is written to the derived formats. -/
def lateFillDone (h r c : Nat) (s : State) : State :=
  match (s.pipe h).lateFill.find? fun e => e.2.1 == r && e.2.2.1 == c with
  | some e =>
    match (s.head h).frames.find? (·.no == e.1) with
    | some f => (s.copyPrev h f r c e.2.2.2 0 true).modPipe h fun p => { p with lateFill := p.lateFill.erase e }
    | none => s
  | none => s

/-- R128: one pixel of an averaged frame enters the accumulator; the first averaged frame writes without reading. -/
def accumulate (h r c : Nat) (s : State) : State :=
  match s.curFrame h with
  | none => s
  | some f =>
    let x := s.pix h r c
    if 0 < f.avg && f.rows = r && c < s.nCols h && x.done then
      let a := s.accAddr h (r * s.nCols h + c)
      let ok := !x.late && x.st == 0 && !s.isCalRow h r
      let term := if ok then satI 23 (rne (corrS8 (corrV x.d x.a x.w) (corrT f.tfpa f.tcal) x.rec_) 4) else 0
      if f.avg = 1 then s.outPut h a 4 (unsx 27 term + (if ok then 2 ^ 27 else 0))
      else if ok then
        let e := s.rd a 4
        let s := (s.dramRead h a 4).2.2
        s.dramPut h a 4 (unsx 27 (sext 27 (nbits e 0 27) + term) + (nbits e 27 5 + 1) % 32 * 2 ^ 27)
      else s
    else s

/-! ### Rows and frames -/

/-- Write a row of zeros in every enabled format (R51, R64); in the first averaged frame the accumulator entries of the
row are zeroed too, and in the build frame its records are copied (R128, R130). Values still to come for its late pixels are not
written any more. -/
def State.zeroRow (s : State) (h : Nat) (f : Frame) (r : Nat) : State :=
  let s := s.modPipe h fun p => { p with lateFill := p.lateFill.filter fun e => !(e.1 == f.no && e.2.1 == r) }
  let s := ((List.range 5).filter (s.fmtOn h)).foldl (fun s k =>
    s.dramWrite h (s.outAddr h k f.slot r 0) (List.replicate (s.nCols h * fmtWidth k) 0)) s
  let s := if f.avg = 1 then s.dramWrite h (s.accAddr h (r * s.nCols h)) (List.replicate (4 * s.nCols h) 0) else s
  if f.build then (List.range (s.nCols h)).foldl (fun s c => s.buildAt h f r c true) s else s

/-- Write a row's line status word (R100). -/
def State.putLine (s : State) (h : Nat) (f : Frame) (r line : Nat) : State :=
  s.dramPut h (s.lstatAddr h f.slot r) 2 line

/-- The line status of a row that was sampled, at least in part, is written; a row with LATE is counted (R100, R116). -/
def State.endLine (s : State) (h : Nat) (f : Frame) (r line : Nat) : State :=
  let s := s.putLine h f r line
  if nbits line 0 1 = 1 then s.bump (R.corrLateRows h) else s

/-- The line status bits a row carries whether or not it is processed (R100): CAL and SLICE. -/
def State.rowBits (s : State) (h : Nat) (f : Frame) (r : Nat) : Nat :=
  (if s.isCalRow h r then 64 else 0) ||| (if f.sliceRows.contains r then 256 else 0)

/-- The value x of a pixel as the video pipeline takes it from the pipeline (R198): of a held frame or a late pixel the previous
frame's CCOUNT16 value where that format is enabled and its read is good, method 2 otherwise (R99, R127, R220). A clamp of T
that this path alone computes is not counted. (DESIGN CHOICE, log entry 81) -/
def State.inlineX (s : State) (h : Nat) (f : Frame) (r c : Nat) : Nat :=
  let x := s.pix h r c
  let prev := f.prev
  let c22 : Int :=
    if f.held || (x.late && !f.contBreak) then
      if s.fmtOn h 2 && !(s.derivedFmts h).any fun k => s.ueIn (s.outAddr h k prev r c) (fmtWidth k) then
        ((s.rd (s.outAddr h 2 prev r c) 2 : Int) - 32768) * 2 ^ 22
      else s.replace h f r c 2
    else x.c22
  if s.flag (R.vidHeadCtlInput h) then
    let lut := (s.pipe h).lut f.bank
    let (loff, inv, _) := if f.emap then materialPair lut x.user else (f.loff, f.inv, false)
    temp16 (pixelTemp lut c22 loff inv).1 (s.flag (R.corrFmtTemp16Lsb h))
  else ccount c22

/-- R11: the pipeline of an in-line frame hands an active row over to the video pipeline; a cut row holds zeros, as its outputs
do (R51). (DEDUCED, log entry 77) -/
def State.inlineRow (s : State) (h : Nat) (f : Frame) (r : Nat) (cut : Bool) : State :=
  if r < s.actH h && s.vid.inls.any (fun x => x.head == h && x.no == f.no) then
    let xs := (List.range (s.actW h)).map fun x => if cut then 0 else s.inlineX h f r (s.actX0 h + x)
    let give (x : InFrame) : InFrame := if x.head == h && x.no == f.no then { x with rows := x.rows ++ [xs] } else x
    { s with vid := { s.vid with inls := s.vid.inls.map give } }
  else s

/-- R96, R100: the last sample of a row: its slot is freed, its line status written; a cut row is zero and marked CUT. -/
def rowComplete (h r : Nat) (s : State) : State :=
  match s.curFrame h with
  | none => s
  | some f =>
    if f.rows = r then
      let cutRow := s.nRows h ≤ r + f.cut
      let s := if cutRow then s.zeroRow h f r else s
      let line := (if cutRow then 128 else f.line) ||| s.rowBits h f r
      let s := (s.endLine h f r line).inlineRow h f r cutRow
      let s := s.modFrame h f.no fun g => { g with rows := r + 1, line := 0 }
      s.modPipe h fun p =>
        { p with
          slots := if (tget (fun _ => ({} : Slot)) p.slots (r % 8)).row = r then tdel (r % 8) p.slots else p.slots
          -- the row stays for the upper neighbours of the next (R107); row 0 may already be the next frame's
          pix := p.pix.filter fun kv => if r + 1 < s.nRows h then r ≤ kv.1 / 2048 else kv.1 < 2048 }
    else s

/-- Is a row of the frame being sampled wholly sampled? -/
def State.rowSampled (s : State) (h r : Nat) : Bool := (List.range (s.nCols h)).all fun c => (s.pix h r c).have_

/-- The pipeline finishes a row whose samples are all taken. -/
def State.finishRow (s : State) (h r : Nat) : State :=
  if s.rowSampled h r then
    rowComplete h r ((List.range (s.nCols h)).foldl (fun (s : State) (c : Nat) => pixelCorrect h r c s) s)
  else s

/-- The pipeline finishes the rows of the frame being sampled that are wholly sampled: the row in progress and the one after
it, whose samples may have begun (R74). -/
def State.finishRows (s : State) (h : Nat) : State :=
  match s.curFrame h with
  | none => s
  | some f =>
    let s := s.finishRow h f.rows
    if f.rows + 1 < s.nRows h then s.finishRow h (f.rows + 1) else s

/-- The tap periods of a frame with a sample: its complete rows and those sampled of the row after them. -/
def State.sampledPers (s : State) (h : Nat) (f : Frame) : Nat :=
  let js := (List.range (s.nPer h)).filter fun j => (List.range (s.nTaps h)).any fun k => (s.pix h f.rows (s.colOf h k j)).have_
  f.rows * s.nPer h + (js.foldl (fun m j => max m (j + 1)) 0)

/-- T_READ of a frame as far as it has been sampled (R41). -/
def State.readSampled (s : State) (h : Nat) (f : Frame) : Nat :=
  let n := s.sampledPers h f
  if n = 0 then 0
  else s.readNs h n fun k => n % s.nPer h = 0 || (s.pix h f.rows (s.colOf h k ((n - 1) % s.nPer h))).have_

/-- R64, R406: truncate the frame being sampled: rows wholly sampled keep their values, the others are zero and marked CUT;
T_READ ends with the last sample taken. A frame whose rows are all read, but for those cut under R28, completes. -/
def State.truncateCur (s : State) (h : Nat) : State :=
  match s.curFrame h with
  | none => s
  | some f0 =>
    let s := s.finishRows h
    let f := ((s.head h).frames.find? (·.no == f0.no)).getD f0
    let rest := (List.range (s.nRows h)).filter fun r => f.rows ≤ r
    if s.nRows h ≤ f.rows + f.cut then rest.foldl (fun s r => rowComplete h r s) s
    else
      let read := s.readSampled h f
      let s := rest.foldl (fun s r => (s.zeroRow h f r).putLine h f r (128 ||| s.rowBits h f r)) s
      let s := s.modFrame h f.no fun g =>
        { g with truncated := true, rows := s.nRows h, line := 0, tRead := read }
      s.modPipe h fun p => { p with pix := [], slots := [] }

/-- R64, R406: every frame that the head has begun and not read is truncated, the older first: at a removal between the edge
of a frame and the last rows of the one before it there are two (R52). -/
def State.truncate (s : State) (h : Nat) : State := (s.head h).frames.foldl (fun s _ => s.truncateCur h) s

/-- Has a head a frame whose last sample is still to be taken (R65)? -/
def State.sampling (s : State) (h : Nat) : Bool :=
  (s.head h).frames.any fun f => f.rows + f.cut < s.nRows h &&
    !((List.range (s.nRows h - f.cut)).all fun r => r < f.rows || ((s.curFrame h).any (·.no == f.no) && s.rowSampled h r))

/-- R13, R109, R116: every output of a frame is in DRAM; its events are raised and it is offered for delivery. -/
def frameLanded (h : Nat) (s : State) : State :=
  match (s.head h).frames.find? (!·.landed) with
  | none => s
  | some f =>
    if s.nRows h ≤ f.rows && !(s.pipe h).lateFill.any (·.1 == f.no) then
      let s := if f.nGen = 0 then s else s.raise 0x0403 h f.nGen (f.genRow + f.no % 2 ^ 16 * 2 ^ 16)
      let s := if f.nLate = 0 then s else s.raise 0x0404 h f.no (min f.nLate 0xFFFF + f.lateRow * 2 ^ 16)
      let g := { f with landed := true, landTick := s.fld R.tickCount }
      let s := s.modFrame h f.no fun _ => g
      (List.range 6).foldl (fun s k =>
        if k = 5 then s.offer h 5 0 g f.slot (s.lstatAddr h f.slot 0) (2 * s.nRows h) g.no 0
        else if s.fmtOn h k then
          s.offer h k 0 g f.slot (s.outAddr h k f.slot 0 0) (s.nCols h * s.nRows h * fmtWidth k) g.no 0
        else s) s
    else s

/-! ### Repair -/

/-- R137: rewrite a record found bad from the golden copy, once that can be read (R314), or as a bad pixel, when its turn comes
(R364). -/
def tableRepair (h b idx : Nat) (s : State) : State :=
  if (s.cal h).repairs.contains (b, idx) && !s.goldWaits h && s.faultTurn 4 (h * 2 ^ 32 + b * 2 ^ 31 + idx) then
    let (w, s) := s.repaired h b idx
    let s := s.dramPut h (s.recBase h b + 16 * idx) 16 w
    let s := s.bump (R.calRepairs h)
    let s := (s.raise 0x0503 h b idx).handled 4
    s.modCal h fun c => { c with repairs := c.repairs.erase (b, idx) }
  else s

/-- R138: an uncorrectable error in a bank's radiometric part: the active bank's is rewritten from the on-chip copy, the
inactive bank becomes invalid. -/
def radiometricRepair (h b : Nat) (s : State) : State :=
  let a := s.lutBase h b
  if s.ueIn a 0x8800 then
    if (s.pipe h).active = some b then
      s.dramWrite h a (((s.pipe h).lut b).map (leBytes 4)).flatten
    else
      (s.setFlag (if b = 0 then R.calStatusBank0Valid h else R.calStatusBank1Valid h) false).raise 0x0503 h (b + 2) 0
  else s

/-! ### Radiometric pair and bank generation -/

/-- R113: a write of CORR_LOFF commits it with the present CORR_INV_EPS, for the next frame start. -/
def corrLoffWrite (h v : Nat) (s : State) : State :=
  let s := s.setFld (R.corrLoff h) v
  s.modPipe h fun p => { p with loff := s.fld (R.corrLoff h), inv := s.fld (R.corrInvEps h) }

/-- R120: a generation is refused when its low 4 bits equal those of either bank's. -/
def State.genRefused (s : State) (h gen : Nat) : Bool :=
  gen % 16 == s.fld (R.corrBankGen h 0) % 16 || gen % 16 == s.fld (R.corrBankGen h 1) % 16

/-- R120: a write of CORR_BANKb_GEN is stored or refused; the active bank's registers are not live (R386). -/
def corrBankGenWrite (h b gen : Nat) (s : State) : State :=
  if s.genRefused h gen || (s.pipe h).active == some b then s.refuse (0xC0050 + 0x10000 * h + 0x20 * b)
  else s.setFld (R.corrBankGen h b) gen

/-! ### The commands -/

/-- ACODE_LOAD (R74). -/
def execAcodeLoad (h : Fin 4) (r c : Nat) (s : State) := ok (whenAlive (acodeLoad h r c)) s
/-- ROW_FETCH_ISSUE (R96). -/
def execRowFetchIssue (h : Fin 4) (no q : Nat) (s : State) := ok (whenAlive (rowFetchIssue h no q)) s
/-- ROW_FETCH_DONE (R97). -/
def execRowFetchDone (h : Fin 4) (q : Nat) (s : State) := ok (whenAlive (rowFetchDone h q)) s
/-- PIXEL_CORRECTION (R104). -/
def execPixelCorrection (h : Fin 4) (r c : Nat) (s : State) := ok (whenAlive (pixelCorrect h r c)) s
/-- LATE_FILL_DONE (R99). -/
def execLateFillDone (h : Fin 4) (r c : Nat) (s : State) := ok (whenAlive (lateFillDone h r c)) s
/-- ROW_COMPLETE (R100). -/
def execRowComplete (h : Fin 4) (r : Nat) (s : State) := ok (whenAlive (rowComplete h r)) s
/-- FRAME_LANDED (R13). -/
def execFrameLanded (h : Fin 4) (s : State) := ok (whenAlive (frameLanded h)) s
/-- CORR_LOFF_WRITE (R113). -/
def execCorrLoffWrite (h : Fin 4) (v : BitVec 32) (s : State) := ok (whenReg (R.corrLoff h).off (corrLoffWrite h v.toNat)) s
/-- CORR_BANK_GEN_WRITE (R120). -/
def execCorrBankGenWrite (h : Fin 4) (b : Fin 2) (gen : BitVec 16) (s : State) :=
  ok (whenReg (R.corrBankGen h b).off (corrBankGenWrite h b gen.toNat)) s
/-- CAL_AVERAGE_FRAME (R128). -/
def execCalAverageFrame (h : Fin 4) (r c : Nat) (s : State) := ok (whenAlive (accumulate h r c)) s
/-- TABLE_REPAIR (R137). -/
def execTableRepair (h : Fin 4) (b : Fin 2) (idx : Nat) (s : State) := ok (whenAlive (tableRepair h b idx)) s
/-- RADIOMETRIC_REPAIR (R138). -/
def execRadiometricRepair (h : Fin 4) (b : Fin 2) (s : State) := ok (whenAlive (radiometricRepair h b)) s

end Sys2Proof.Machine
end

