-- ==== Sys2Proof/Machine/Cal.lean ====
section
/-!
DEFINITION. The calibration sequencer: loads and activations (R118 to R122), requests (R123, R124), the shutter event
(R125 to R136) and its refusal causes (R140).
-/
namespace Sys2Proof.Machine

def State.calState (s : State) (h : Nat) : Nat := s.fld (R.calStatusState h)
def State.setCalState (s : State) (h v : Nat) : State := s.setFld (R.calStatusState h) v
/-- A shutter event runs on the head: from acceptance to the first live frame. -/
def State.calRuns (s : State) (h : Nat) : Bool := s.calState h != 0 || (s.cal h).accepted
def bankValid (h b : Nat) : Fld := if b = 0 then R.calStatusBank0Valid h else R.calStatusBank1Valid h
/-- The inactive bank; bank 0 when no bank is active. -/
def State.inactive (s : State) (h : Nat) : Nat :=
  match (s.pipe h).active with
  | some b => 1 - b
  | none => 0
/-- Shutter channel AnS of a head (R141). -/
def shutCh (h : Nat) : Nat := 2 * h

/-- Latch a refused CAL command: the offset is that of CAL_CMD. -/
def State.calRefuse (s : State) (h cause : Nat) : State := s.refuse (0x100050 + 0x100 * h) cause

/-! ### Held trim steps (R79) -/

/-- Apply the held trim steps of a group's slices; one that a trim stepped or written meanwhile has no room for is dropped
(R80). (DESIGN CHOICE, log entry 88) -/
def State.applyTrims (s : State) (g : Nat) : State :=
  (List.range 38).foldl (fun s l =>
    let i := 38 * g + l
    let x := s.slice i
    if x.holdG = 0 && x.holdC = 0 then s
    else
      let g0 := s.fld (R.afeSliceTrimGtrim i)
      let g1 := (clampI 0 255 ((g0 : Int) + x.holdG)).toNat
      let s := s.setFld (R.afeSliceTrimGtrim i) g1
      let s := s.setFld (R.afeSliceTrimCtrim i) (clampI 0 63 ((s.fld (R.afeSliceTrimCtrim i) : Int) + x.holdC)).toNat
      -- a gain trim that changes during a weight accumulation restarts it (R77)
      s.modSlice i fun x =>
        if g1 != g0 && x.meas == 2 then
          { x with holdG := 0, holdC := 0, rows := 0, sumA := 0, nA := 0, sumB := 0, nB := 0, bad := false }
        else { x with holdG := 0, holdC := 0 }) s

/-! ### Loads (R118, R119) -/

/-- Is an activation pending for the head? -/
def State.actPending (s : State) (h : Nat) : Bool :=
  s.reqs.any (fun q => q.kind == .activation && q.obj == h) || (s.pipe h).actNext.isSome

/-- Load-open of a bank (R119): why it is refused, if it is. -/
def State.openRefused (s : State) (h b : Nat) : Bool :=
  s.flag (R.calStatusLock h) || (s.pipe h).active == some b || s.calRuns h || s.flag (R.calStatusPending h) ||
    s.actPending h

/-- Load-open: the bank becomes invalid and LOCK is set; an on-chip copy of its radiometric part is no longer that of the
bank (R121). -/
def State.loadOpen (s : State) (h b : Nat) : State :=
  if s.openRefused h b then s.calRefuse h 9
  else
    let s := ((s.setFlag (bankValid h b) false).setFlag (R.calStatusLock h) true).modCal h fun c => { c with lockBank := b }
    s.modPipe h fun p => { p with filled := p.filled.erase b, refill := p.refill.filter (·.1 != b) }

/-- Load-close: LOCK clears and the bank becomes valid; refused without a load-open of that bank (R140 cause 9). -/
def State.loadClose (s : State) (h b : Nat) : State :=
  if s.flag (R.calStatusLock h) && (s.cal h).lockBank == b then
    ((s.setFlag (R.calStatusLock h) false).setFlag (bankValid h b) true).modCal h fun c =>
      { c with loaded := c.loaded.erase b ++ [b] }
  else s.calRefuse h 9

/-- Serial-number order of R39: a newer than b. -/
def newerGen (a b : Nat) : Bool :=
  let d := (a + 65536 - b % 65536) % 65536
  1 ≤ d && d ≤ 32767

/-! ### Activation (R121, R122) -/

/-- The first cause of R121 in the numbering of R140 (10 to 14). -/
def State.activationCause (s : State) (h b gen : Nat) (own : Bool) : Option Nat :=
  let st := s.hState h
  if st != 3 && st != 4 then some 10
  else if (s.pipe h).active == some b || !s.flag (bankValid h b) then some 11
  else if gen != s.fld (R.corrBankGen h b) then some 12
  else if (s.pipe h).active.isSome && !newerGen gen (s.fld (R.corrActiveGen h)) then some 13
  else if (s.calRuns h && !own) || s.flag (R.calStatusLock h) then some 14
  else none

/-- A request arrives: the refill of the on-chip copy starts when the bank is valid and not active (R121). -/
def State.startRefill (s : State) (h b : Nat) : State :=
  if s.flag (bankValid h b) && (s.pipe h).active != some b then
    s.modPipe h fun p => { p with refill := some (b, s.now), filled := p.filled.erase b }
  else s

/-- A host request for an activation. -/
def State.requestActivation (s : State) (h b gen : Nat) (cmd : Option Nat) : State :=
  (s.startRefill h b).request { kind := .activation, obj := h, p0 := b, p1 := gen, cmd }

/-- Refuse an activation: its cause goes to CAL_ERR and to the completion. -/
def State.activationRefuse (s : State) (h cause : Nat) (cmd : Option Nat) : State :=
  (s.calRefuse h cause).finishO cmd 1 cause 0 0

/-- R121: the refill of the named bank's radiometric part finishes: 8704 words of its part are on chip. -/
def lutRefillDone (h : Nat) (s : State) : State :=
  match (s.pipe h).refill with
  | none => s
  | some (b, _) =>
    let a := s.lutBase h b
    let ws := (List.range 8704).map fun k => s.rd (a + 4 * k) 4
    let s := (s.dramRead h a 0x8800).2.2
    s.modPipe h fun p =>
      { p with refill := none, filled := p.filled.erase b ++ [b],
               lut0 := if b = 0 then ws else p.lut0, lut1 := if b = 0 then p.lut1 else ws }

/-- An overrun of work bound to a tick (R31): counted, and an overrun event raised. -/
def State.overrun (s : State) (row obj : Nat) (extra : Nat := 0) : State :=
  (s.bump R.tickOverrun).raise 0x0104 obj (row + extra) (s.fld R.tickCount)

/-- An activation whose refill is not complete is deferred: bound anew at the next commit point (R31). A refill that never
began, its bank having been invalid or active when the request came, begins now. (DESIGN CHOICE, log entry 70) -/
def State.deferActivation (s : State) (h : Nat) (q : Req) : State :=
  let s := if ((s.pipe h).refill.map (·.1)) == some q.p0 then s else s.startRefill h q.p0
  (s.overrun 2 h).deferReq q

/-- R121, R122: at its commit point an activation is checked; it switches at the edge, or is refused, or deferred while
its refill runs. The refused activation of a sequencer is asked for again at the next commit point while the event lasts.
(DESIGN CHOICE, log entry 70) -/
def activationCommit (h : Nat) (s : State) : State :=
  match s.reqs.find? (fun q => q.committed && q.kind == .activation && q.obj == h) with
  | some q =>
    match s.activationCause h q.p0 q.p1 false with
    | some c => (s.dropReq q).activationRefuse h c q.cmd
    | none =>
      if (s.pipe h).filled.contains q.p0 then
        (s.dropReq q).modPipe h fun p => { p with actNext := some (q.p0, q.p1, q.cmd, false) }
      else s.deferActivation h q
  | none =>
    match s.reqs.find? (fun q => q.committed && q.kind == .seqActivation && q.obj == h) with
    | some q =>
      match s.activationCause h q.p0 q.p1 true with
      | some c => (s.dropReq q).activationRefuse h c none
      | none =>
        if (s.pipe h).filled.contains q.p0 then
          ((s.dropReq q).modPipe h fun p => { p with actNext := some (q.p0, q.p1, none, true) }).modCal h
            fun c => { c with lDone := true }
        else s.deferActivation h q
    | none => s

/-- An activation takes effect at a tick edge (R122): the bank in use and CORR_ACTIVE change. A host-loaded bank clears
CAL_LAST_T.VALID (R132). -/
def State.activateAtEdge (s : State) (h : Nat) : State :=
  match (s.pipe h).actNext with
  | none => s
  | some (b, gen, cmd, _) =>
    let s := (s.setFld (R.corrActiveBank h) b).setFld (R.corrActiveGen h) gen
    let s := s.modPipe h fun p => { p with active := some b, actNext := none }
    let s := if (s.cal h).loaded.contains b then s.setFlag (R.calLastTValid h) false else s
    let s := s.modHead h fun x => { x with genNew := true }
    s.finishO cmd 0 0 (s.fld R.tickCount) (s.head h).nextNo

/-! ### Requests (R123, R124) -/

/-- A request for a shutter event: 1 automatic, 2 takeover, 3 host. It merges into one pending or running. -/
def State.calRequest (s : State) (h src : Nat) (cmd : Option Nat) : State :=
  let addCmd (s : State) : State := match cmd with
    | some u => s.modCal h fun c => { c with reqCmds := c.reqCmds ++ [u] }
    | none => s
  if s.calRuns h then
    if src = 2 && 4 ≤ s.calState h then
      (s.modCal h fun c => { c with takeoverNext := true }).setFlag (R.calStatusPending h) true
    else addCmd s
  else if s.flag (R.calStatusPending h) then
    (addCmd s).modCal h fun c => { c with reqSrc := max c.reqSrc src }
  else
    let s := (addCmd s).modCal h fun c => { c with reqSrc := src }
    let s := s.setFlag (R.calStatusPending h) true
    { s with reqs := s.reqs ++ [{ kind := .shutter, obj := h }] }

/-- Complete every SHUTTER command merged into the request or event. -/
def State.calFinish (s : State) (h status cause r0 r1 : Nat) : State :=
  let s := (s.cal h).reqCmds.foldl (fun s u => s.finish u status cause r0 r1) s
  s.modCal h fun c => { c with reqCmds := [] }

/-- Has a bank base a region that breaks R94 or R95? -/
def State.bankBad (s : State) (h b : Nat) : Bool :=
  let r := s.recBase h b
  let l := s.lutBase h b
  r % 256 != 0 || !inDram r (16 * s.nCols h * s.nRows h) || l % 4096 != 0 || !inDram l 0x8800

/-- Does CAL_ACC break R128? -/
def State.accBad (s : State) (h : Nat) : Bool :=
  let a := s.accAddr h 0
  a % 4096 != 0 || !inDram a (4 * s.nCols h * s.nRows h)

/-- Does CAL_RESP break R133? -/
def State.respBad (s : State) (h : Nat) : Bool :=
  let a := s.base (R.calRespLo h) (R.calRespHi h)
  a % 4096 != 0 || !inDram a 0x4000

/-- Is the shutter channel configured (R151)? -/
def State.shutterReady (s : State) (h : Nat) : Bool :=
  let c := shutCh h
  let cl := s.fld (R.calProfClose h)
  let op := s.fld (R.calProfOpen h)
  let st := s.actState c
  s.flag (R.actChCtlEn c) && st != 5 && st != 2 && st != 3 && st != 4 && s.slotLen c cl != 0 && s.slotLen c op != 0 &&
    decide (200 * s.charge c + s.planned2 c cl + s.planned2 c op ≤ 200 * s.fld (R.actChBudget c))

/-- The first cause of R124. -/
def State.requestCause (s : State) (h : Nat) : Option Nat :=
  if s.hState h != 4 then some 1
  else if s.flag (R.calStatusLock h) then some 2
  else if s.actPending h then some 3
  else if !s.fmtOn h 2 then some 4
  else if s.bankBad h (s.inactive h) || s.accBad h then some 5
  else if s.flag (R.calCtlLrMode h) && s.respBad h then some 6
  else if !s.flag (R.calCtlMode h) &&
      (!s.shutterReady h || (s.flag (R.calCtlAposReq h) && !s.flag (R.actChCtlPosEn (shutCh h)))) then some 7
  else none

/-- R124: a request at its commit point: refused with its cause, or accepted with its charges reserved (R151). Where an automatic
and a host request have merged, a refusal is reported as the host's alone. (DESIGN CHOICE, log entry 82) -/
def calRequestCommit (h : Nat) (s : State) : State :=
  match s.committedReq .shutter h with
  | none => s
  | some q =>
    let s := (s.dropReq q).setFlag (R.calStatusPending h) false
    match s.requestCause h with
    | some k =>
      let src := (s.cal h).reqSrc
      let s := if src = 3 then s.calRefuse h k else s.raise 0x0501 h k 0
      let s := s.calFinish h 1 k 0 0
      s.modCal h fun c => { c with reqSrc := 0 }
    | none =>
      let ch := shutCh h
      let s := if s.flag (R.calCtlMode h) then s else
        (s.modAct ch fun x => { x with rsvClose := some (s.planned2 ch (s.fld (R.calProfClose h))),
                                       rsvOpen := some (s.planned2 ch (s.fld (R.calProfOpen h))) }).setFlag (R.actChStatRsv ch) true
      let s := s.setFld (R.calStatusRestarts h) 0
      s.modCal h fun c =>
        { c with accepted := true, cnt := 0, closed := false, avgNext := false, opened := false,
                 osDone := false, closeDone := false, openRun := false, openDone := false, openWait := false, openNow := false,
                 building := false, verdict := 0, lDone := false, anyStale := false, respBad := false, nCount := 0,
                 nFail := 0, nPass := 0, sumDres := 0, restartNext := false, abandoned := false }

/-! ### The event -/

/-- The end of an event: idle, reservations gone, and a takeover's own request runs next (R136). -/
def State.calEnd (s : State) (h : Nat) : State :=
  let ch := shutCh h
  let s := (s.modAct ch fun x => { x with rsvClose := none, rsvOpen := none }).setFlag (R.actChStatRsv ch) false
  let next := (s.cal h).takeoverNext
  let s := s.setCalState h 0
  let s := s.modCal h fun c =>
    { c with accepted := false, lastEnd := some s.now, takeoverNext := false, building := false,
             abandoned := false }
  let s := if next then s.setFlag (R.calStatusPending h) false else s
  if next then s.calRequest h 2 none else s

/-- R135: abandon a running event with a result. An event already abandoned keeps its result; it ends when the head leaves
the running state, and a channel that faults before it is open leaves it to the abandon hold. (DEDUCED, log entry 63) -/
def State.calAbandon (s : State) (h result : Nat) : State :=
  let k := s.cal h
  let ch := shutCh h
  let usable := s.actState ch != 5 && s.flag (R.actChCtlEn ch)
  let mode1 := s.flag (R.calCtlMode h)
  if !s.calRuns h then s
  else if k.abandoned then
    if result = 8 then s.calEnd h
    else if s.calState h = 5 && !usable && !mode1 && !k.opened then
      (s.setCalState h 7).modCal h fun c => { c with cnt := 0, openWait := false, openNow := false }
    else s
  else
    let s := if k.building then s.setFlag (bankValid h k.bank) false else s
    let s := s.setFld (R.calStatusLastResult h) result
    let s := (s.bump (R.calRefused h)).raise 0x0502 h result 0
    let s := s.calFinish h 0 0 result 0
    let s : State := { s with reqs := s.reqs.filter fun (q : Req) => !(q.kind == .seqActivation && q.obj == h) }
    let s := if (s.pipe h).actNext.any (fun a => a.2.2.2) then s.modPipe h fun p => { p with actNext := none } else s
    let s := s.modCal h fun c =>
      { c with abandoned := true, building := false, accepted := false, avgNext := false, restartNext := false,
               openWait := !mode1 && usable && !c.openRun,
               opened := c.opened || mode1, cnt := if !usable && !mode1 then 0 else c.cnt }
    if result = 8 || k.accepted then s.calEnd h
    else if !usable && !mode1 then s.setCalState h 7
    else if s.calState h < 5 then s.setCalState h 5
    else s

/-- The newest frame is one that has only just started. (DESIGN CHOICE, log entry 12) -/
def State.freshFrame (s : State) (h : Nat) : Option Frame := (s.newFrame h).filter fun f => f.rows == 0 && !f.truncated

/-- Is a profile of the sequencer still to start on this edge (R125, R152)? -/
def State.seqStartDue (s : State) (h : Nat) : Bool :=
  let k := s.cal h
  !s.flag (R.calCtlMode h) &&
    ((k.accepted && ((s.head h).due || (s.freshFrame h).any (!·.contBreak))) ||
     (s.calState h == 3 && s.fld (R.calFramesNavg h) ≤ k.cnt && ((s.head h).due || (s.freshFrame h).any (·.avg == 0))))

/-- Starts of the same edge on lower channels that the host asked for go first (R152). -/
def State.lowerStarts (s : State) (c : Nat) : State := (List.range c).foldl (fun s k => s.actTickStart k) s

/-- R135 step 2: the open profile of an abandoned event starts, once the starts of lower channels on the edge have gone (R152);
a refused start leaves the event to the abandon hold. (DEDUCED, log entry 63) -/
def State.openGo (s : State) (h : Nat) : State :=
  if (s.cal h).openNow && !((List.range h).any s.seqStartDue) then
    let ch := shutCh h
    let s := (s.lowerStarts ch).modCal h fun c => { c with openNow := false, openRun := true }
    let refused := (s.startCause ch (s.fld (R.calProfOpen h)) .openP).isSome
    let s := s.actStart ch (s.fld (R.calProfOpen h)) .openP none
    if refused && s.calState h = 5 then (s.setCalState h 7).modCal h fun c => { c with cnt := 0 } else s
  else s

/-- At a tick edge the open profile of an abandoned event is due once its channel is free (R135). -/
def State.calAtEdge (s : State) (h : Nat) : State :=
  let k := s.cal h
  let s := if k.openWait && s.actState (shutCh h) = 1 then
      s.modCal h fun c => { c with openWait := false, openNow := true }
    else s
  s.openGo h

/-- Start the sequencer's profile; a refused start abandons the event with result 1. Starts of the same edge on lower channels go
first, and open profiles that waited for this start go after it (R152). (DESIGN CHOICE, log entry 89) -/
def State.seqStart (s : State) (h : Nat) (src : ActSrc) : State :=
  let ch := shutCh h
  let s := s.lowerStarts ch
  let slot := if src == .close then s.fld (R.calProfClose h) else s.fld (R.calProfOpen h)
  let s := match s.startCause ch slot src with
    | some _ => (s.actStart ch slot src none).calAbandon h 1
    | none => s.actStart ch slot src none
  (List.range 4).foldl (fun s k => s.openGo k) s

/-- R125: F0 starts: closing begins, or settling at once with an external source. -/
def calClosingStart (h : Nat) (s : State) : State :=
  match s.freshFrame h with
  | none => s
  | some f =>
    if (s.cal h).accepted && !f.contBreak then
      let s := s.modFrame h f.no fun g => { g with held := true, heldNo := prevNo f.no }
      let s := s.modCal h fun c => { c with accepted := false, f0 := f.no, cnt := 1 }
      if s.flag (R.calCtlMode h) then
        let s := s.setCalState h 2
        if s.fld (R.calFramesSettle h) = 1 then s.applyTrims h else s
      else (s.setCalState h 1).seqStart h .close
    else s

/-- R125: closing has ended: the close profile has, and the position reads closed if it is required. -/
def calClosingEnd (h : Nat) (s : State) : State :=
  if s.calState h = 1 && (s.cal h).closeDone &&
      (!s.flag (R.calCtlAposReq h) || s.flag (R.actChStatPos (shutCh h))) then
    s.modCal h fun c => { c with closed := true }
  else s

/-- R125: the position does not read closed within one frame period after the close profile: abandoned, result 2. -/
def calPositionTimeout (h : Nat) (s : State) : State :=
  let k := s.cal h
  if s.calState h = 1 && k.closeDone && !k.closed && s.flag (R.calCtlAposReq h) &&
      !s.flag (R.actChStatPos (shutCh h)) then
    (s.at (k.closeT + s.framePer h)).calAbandon h 2
  else s

/-- R125: SETTLE frames have passed; averaging begins at the next frame start. -/
def calSettleDone (h : Nat) (s : State) : State :=
  if s.calState h = 2 && s.fld (R.calFramesSettle h) ≤ (s.cal h).cnt then
    s.modCal h fun c => { c with avgNext := true }
  else s

/-- The generation of a build (R134): the first value newer than the active one whose low 4 bits differ from both
banks'. -/
def State.buildGen (s : State) (h : Nat) : Nat :=
  let a := s.fld (R.corrActiveGen h)
  let g1 := (a + 1) % 65536
  if s.genRefused h g1 then (a + 2) % 65536 else g1

/-- Write the radiometric part of the built bank (R133): a copy of the active bank's, its LR rebuilt from RESP in
LR_MODE 1. -/
def State.buildLut (s : State) (h bank : Nat) : State :=
  let k := s.cal h
  let old := (s.pipe h).active.getD 0
  let src := s.lutBase h old
  let dst := s.lutBase h bank
  let ws := (List.range 8704).map fun i => s.rd (src + 4 * i) 4
  let s := (s.dramRead h src 0x8800).2.2
  if s.flag (R.calCtlLrMode h) then
    let ra := s.base (R.calRespLo h) (R.calRespHi h)
    let tsh := if s.flag (R.calCtlTshSrc h) then s.fld (R.calShutT h) else k.tLast
    let tgt := tsh * 256
    let found := !ltFalls ws && decide (ws.getD 4096 0 ≤ tgt) && decide (tgt ≤ ws.getD 8191 0)
    let ue := s.ueIn ra 0x4000
    match (if found && !ue then radianceFor ws tsh else none) with
    | some l =>
      let lr := (List.range 4096).map fun i => (clampI 0 0xFFFFFF (sext 32 (s.rd (ra + 4 * i) 4) + l)).toNat
      let s := (s.dramRead h ra 0x4000).2.2
      s.dramWrite h dst ((lr ++ ws.drop 4096).map (leBytes 4)).flatten
    | none => (s.dramRead h ra 0x4000).2.2.modCal h fun c => { c with respBad := true }
  else s.dramWrite h dst (ws.map (leBytes 4)).flatten

/-- R125, R134: the build frame starts: the inactive bank gets its generation, the open profile starts. -/
def calBuildFrameStart (h : Nat) (s : State) : State :=
  match s.freshFrame h with
  | none => s
  | some f =>
    if s.calState h = 3 && s.fld (R.calFramesNavg h) ≤ (s.cal h).cnt && f.avg = 0 then
      let b := s.inactive h
      let gen := s.buildGen h
      let s := s.modHead h fun x => { x with frames := x.frames.map fun g => { g with build := g.no == f.no } }
      let s := s.setFld (R.corrBankGen h b) gen
      let s := s.modCal h fun c => { c with bank := b, gen, loaded := c.loaded.erase b, building := true, builds := [], nCount := 0, nFail := 0,
                                            nPass := 0, sumDres := 0, openRun := true }
      let s := s.buildLut h b
      let s := s.setCalState h 4
      if s.flag (R.calCtlMode h) then s.modCal h fun c => { c with opened := true }
      else s.seqStart h .openP
    else s

/-- The result code of a verdict (R131): the first condition of the table that refuses, 0 accepted. (DESIGN CHOICE, log entry
89) -/
def State.verdictOf (s : State) (h : Nat) : Nat :=
  let k := s.cal h
  if s.fld (R.calLimFail h) * k.nCount < k.nFail * 65536 then 3
  -- |mean dres| in quarter counts against a limit in sixteenth counts
  else if s.fld (R.calLimMean h) * k.nPass < 4 * k.sumDres.natAbs then 4
  else if s.fld (R.calLimDt h) < k.tMax - k.tMin then 5
  else if k.anyStale then 6
  else if k.respBad then 7
  else 0

/-- R131, R132: with the build outputs in DRAM the build is accepted or refused. An accepted one raises an
event that names the head. (DESIGN CHOICE, log entry 82) -/
def calVerdict (h : Nat) (s : State) : State :=
  let k := s.cal h
  match (s.head h).frames.find? (·.build) with
  | none => s
  | some f =>
    if k.building && k.builds.isEmpty && s.nRows h ≤ f.rows && !f.truncated then
      let res := s.verdictOf h
      let old := (s.pipe h).active.getD 0
      let s := s.modCal h fun c => { c with building := false }
      let s := s.setFld (R.calStatusLastResult h) res
      let s := if s.calState h = 4 then s.setCalState h 5 else s
      if res = 0 then
        let s := s.setFlag (bankValid h k.bank) true
        let s := s.setFld (R.corrBankTcal h k.bank) (s.fld (R.corrBankTcal h old))
        let s := (s.setFld (R.calLastTT h) k.tLast).setFlag (R.calLastTValid h) true
        let s := s.setFld (R.calFailpix h) k.nFail
        let s := s.bump (R.calEvents h)
        let s := s.raise 0x0504 h
        let s := s.startRefill h k.bank
        s.modCal h fun c => { c with verdict := 1 }
      else
        let s := s.setFlag (bankValid h k.bank) false
        let s := (s.bump (R.calRefused h)).raise 0x0501 h res 1
        s.modCal h fun c => { c with verdict := 2 }
    else s

/-- R125: opening has ended. -/
def calOpeningEnd (h : Nat) (s : State) : State :=
  if (s.calState h = 4 || s.calState h = 5) && (s.cal h).openDone &&
      (!s.flag (R.calCtlAposReq h) || !s.flag (R.actChStatPos (shutCh h))) then
    s.modCal h fun c => { c with opened := true }
  else s

/-- R125: OPEN_SETTLE frames have passed. -/
def calOpenSettleDone (h : Nat) (s : State) : State :=
  if s.calState h = 6 && s.fld (R.calFramesOpenSettle h) ≤ (s.cal h).cnt then
    s.modCal h fun c => { c with osDone := true }
  else s

/-- R126: at a commit point, the activation of an accepted build is asked for when the tick starts the earliest possible
live frame. One that was refused is asked for again while held frames go on (R10). (DESIGN CHOICE, log entry 70) -/
def State.calAtCommit (s : State) (h : Nat) : State :=
  let k := s.cal h
  let x := s.head h
  if s.calState h = 6 && !k.abandoned && s.fld (R.calFramesOpenSettle h) ≤ k.cnt && x.div + 1 ≥ s.divN h then
    if k.verdict = 1 && !k.lDone && !(s.reqs.any fun q => q.kind == .seqActivation && q.obj == h) then
      { s with reqs := s.reqs ++ [{ kind := .seqActivation, obj := h, p0 := k.bank, p1 := k.gen, committed := true }] }
    else if k.verdict = 2 then s.modCal h fun c => { c with lDone := true }
    else s
  else s

/-- R126: the live frame L starts: held frames end and the event returns to idle. -/
def calLiveFrame (h : Nat) (s : State) : State :=
  let k := s.cal h
  match s.freshFrame h with
  | none => s
  | some f =>
    let ready := k.abandoned || k.verdict = 2 || (k.verdict = 1 && k.lDone && (s.pipe h).actNext.isNone)
    if s.calState h = 6 && k.osDone && decide (s.fld (R.calFramesOpenSettle h) < k.cnt) && ready then
      let s := s.modFrame h f.no fun g => { g with held := false, heldNo := 0 }
      let s := s.calFinish h 0 0 (s.fld (R.calStatusLastResult h)) f.no
      s.calEnd h
    else s

/-- R135: held frames end after an abandonment with a faulted channel: ABANDON_HOLD frames have passed, or the position
reads open. -/
def abandonHoldExpired (h : Nat) (s : State) : State :=
  let k := s.cal h
  let passed := if (s.curFrame h).isSome then k.cnt - 1 else k.cnt
  if s.calState h = 7 && (s.fld (R.calFramesAbandonHold h) ≤ passed ||
      (s.flag (R.actChCtlPosEn (shutCh h)) && !s.flag (R.actChStatPos (shutCh h)))) then
    let s := match s.freshFrame h with
      | some f => s.modFrame h f.no fun g => { g with held := false, heldNo := 0 }
      | none => s
    s.calEnd h
  else s

/-- A frame of the head starts: the phases that count frames advance (R125), and the frame's part in the event is set:
(held, averaged frame number). (DESIGN CHOICE, log entry 12) -/
def State.calFrameStart (s : State) (h : Nat) : State × Bool × Nat :=
  let k := s.cal h
  match s.calState h with
  | 1 =>
    if k.closed then
      let s := (s.setCalState h 2).modCal h fun c => { c with cnt := 1 }
      (if s.fld (R.calFramesSettle h) = 1 then s.applyTrims h else s, true, 0)
    else (s, true, 0)
  | 2 =>
    if k.avgNext then
      ((s.setCalState h 3).modCal h fun c =>
        { c with cnt := 1, avgNext := false, tMin := s.fld (R.headFpaTT h), tMax := s.fld (R.headFpaTT h),
                 tLast := s.fld (R.headFpaTT h), anyStale := false }, true, 1)
    else
      let s := s.modCal h fun c => { c with cnt := c.cnt + 1 }
      (if s.fld (R.calFramesSettle h) = k.cnt + 1 then s.applyTrims h else s, true, 0)
  | 3 =>
    if k.restartNext then
      (s.modCal h fun c => { c with cnt := 1, restartNext := false, tMin := s.fld (R.headFpaTT h),
                                    tMax := s.fld (R.headFpaTT h), anyStale := false }, true, 1)
    else if k.cnt < s.fld (R.calFramesNavg h) then
      (s.modCal h fun c => { c with cnt := c.cnt + 1 }, true, k.cnt + 1)
    else (s, true, 0)
  | 4 | 5 =>
    if k.opened then ((s.setCalState h 6).modCal h fun c => { c with cnt := 1 }, true, 0) else (s, true, 0)
  | 6 => (s.modCal h fun c => { c with cnt := c.cnt + 1 }, true, 0)
  | 7 => (s.modCal h fun c => { c with cnt := c.cnt + 1 }, true, 0)
  | _ => (s, false, 0)

/-- A takeover during averaging restarts the accumulator at the next frame start; the third abandons (R136). With AUTO = 1 a
running head requests an event of its own otherwise (R123). -/
def State.calTakeover (s : State) (h : Nat) : State :=
  if s.calState h = 3 && !(s.cal h).abandoned then
    let n := s.fld (R.calStatusRestarts h) + 1
    let s := s.setFld (R.calStatusRestarts h) n
    if n = 3 then s.calAbandon h 9 else s.modCal h fun c => { c with restartNext := true }
  else if s.calState h = 1 || s.calState h = 2 then s
  else if s.flag (R.calCtlAuto h) && s.hState h = 4 then s.calRequest h 2 none
  else s

/-- R123: powered time INTERVAL since the last event, or since the first start, makes an automatic request. -/
def calIntervalTrigger (h : Nat) (s : State) : State :=
  let iv := s.fld (R.calTrigInterval h)
  let since := match (s.cal h).lastEnd with
    | some t => some t
    | none => (s.head h).firstStart
  match since with
  | none => s
  | some t =>
    let due := t + max iv (s.fld (R.calMinGap h)) * unitsPerS
    if iv != 0 && s.flag (R.calCtlAuto h) && s.hState h = 4 && !s.calRuns h then (s.at due).calRequest h 1 none else s

/-- R123: an accepted T_fpa that differs from CAL_LAST_T by TRIG_DT makes an automatic request, MIN_GAP observed. -/
def State.calTempTrigger (s : State) (h t : Nat) : State :=
  let dt := s.fld (R.calTrigTrigDt h)
  let lt := s.fld (R.calLastTT h)
  let gap := match (s.cal h).lastEnd, (s.head h).firstStart with
    | some e, _ => e + s.fld (R.calMinGap h) * unitsPerS ≤ s.now
    | none, some e => e + s.fld (R.calMinGap h) * unitsPerS ≤ s.now
    | none, none => false
  if s.flag (R.calCtlAuto h) && s.hState h = 4 && s.flag (R.calLastTValid h) && dt != 0 &&
      decide (dt ≤ max t lt - min t lt) && gap && !s.calRuns h then s.calRequest h 1 none else s

/-- R135: a host abort: refused with CAUSE 8 after L's commit point or with no event running. -/
def State.calAbort (s : State) (h : Nat) : State × Bool :=
  if s.calRuns h && !(s.cal h).lDone && !(s.cal h).abandoned then (s.calAbandon h 10, true) else (s.calRefuse h 8, false)

/-! ### The commands -/

/-- CAL_CMD_REQUEST (R123). -/
def execCalCmdRequest (h : Fin 4) (s : State) := ok (whenReg (R.calCmd h).off fun s => s.calRequest h 3 none) s
/-- CAL_CMD_ABORT (R135). -/
def execCalCmdAbort (h : Fin 4) (s : State) := ok (whenReg (R.calCmd h).off fun s => (s.calAbort h).1) s
/-- CAL_CMD_LOAD_OPEN (R119). -/
def execCalCmdLoadOpen (h : Fin 4) (b : Fin 2) (s : State) := ok (whenReg (R.calCmd h).off fun s => s.loadOpen h b) s
/-- CAL_CMD_LOAD_CLOSE (R119). -/
def execCalCmdLoadClose (h : Fin 4) (b : Fin 2) (s : State) := ok (whenReg (R.calCmd h).off fun s => s.loadClose h b) s
/-- CAL_CMD_ACTIVATE (R121). -/
def execCalCmdActivate (h : Fin 4) (b : Fin 2) (gen : BitVec 16) (s : State) :=
  ok (whenReg (R.calCmd h).off fun s => s.requestActivation h b gen.toNat none) s
/-- LUT_REFILL_DONE (R121). -/
def execLutRefillDone (h : Fin 4) (s : State) := ok (whenAlive (lutRefillDone h)) s
/-- ACTIVATION_COMMIT (R122). -/
def execActivationCommit (h : Fin 4) (s : State) := ok (whenAlive (activationCommit h)) s
/-- CAL_INTERVAL_TRIGGER (R123). -/
def execCalIntervalTrigger (h : Fin 4) (s : State) := ok (whenAlive (calIntervalTrigger h)) s
/-- CAL_REQUEST_COMMIT (R124). -/
def execCalRequestCommit (h : Fin 4) (s : State) := ok (whenAlive (calRequestCommit h)) s
/-- CAL_CLOSING_START (R125). -/
def execCalClosingStart (h : Fin 4) (s : State) := ok (whenAlive (calClosingStart h)) s
/-- CAL_CLOSING_END (R125). -/
def execCalClosingEnd (h : Fin 4) (s : State) := ok (whenAlive (calClosingEnd h)) s
/-- CAL_POSITION_TIMEOUT (R125). -/
def execCalPositionTimeout (h : Fin 4) (s : State) := ok (whenAlive (calPositionTimeout h)) s
/-- CAL_SETTLE_DONE (R125). -/
def execCalSettleDone (h : Fin 4) (s : State) := ok (whenAlive (calSettleDone h)) s
/-- CAL_BUILD_FRAME_START (R134). -/
def execCalBuildFrameStart (h : Fin 4) (s : State) := ok (whenAlive (calBuildFrameStart h)) s
/-- CAL_VERDICT (R131). -/
def execCalVerdict (h : Fin 4) (s : State) := ok (whenAlive (calVerdict h)) s
/-- CAL_OPENING_END (R125). -/
def execCalOpeningEnd (h : Fin 4) (s : State) := ok (whenAlive (calOpeningEnd h)) s
/-- CAL_OPEN_SETTLE_DONE (R125). -/
def execCalOpenSettleDone (h : Fin 4) (s : State) := ok (whenAlive (calOpenSettleDone h)) s
/-- CAL_LIVE_FRAME (R126). -/
def execCalLiveFrame (h : Fin 4) (s : State) := ok (whenAlive (calLiveFrame h)) s
/-- ABANDON_HOLD_EXPIRED (R135). -/
def execAbandonHoldExpired (h : Fin 4) (s : State) := ok (whenAlive (abandonHoldExpired h)) s

end Sys2Proof.Machine
end

