-- ==== Sys2Proof/Machine/Flags.lean ====
section
/-!
DEFINITION. Conditions and limits of the engine instructions: the conditions of BR and VCMP, SAT, RSHR and the per-lane
operations (R165). The block has no condition flags.
-/
namespace Sys2Proof.Machine

/-- cond(A, B) of BR on values of `n` bits: 0 always, 1 eq, 2 ne, 3 lt, 4 ge, 5 ltu, 6 geu. -/
def condOf (n x a b : Nat) : Bool :=
  match x with
  | 0 => true
  | 1 => a == b
  | 2 => a != b
  | 3 => decide (sext n a < sext n b)
  | 4 => decide (sext n b ≤ sext n a)
  | 5 => decide (a < b)
  | _ => decide (b ≤ a)

/-- SAT: to X[4:0] + 2 bits signed, or with X[5] = 1 to 0 up to 2^(X[4:0] + 1) - 1. -/
def satOf (x : Nat) (a : Word) : Word :=
  let n := x % 32
  let v := sext 32 a.toNat
  let r := if nbits x 5 1 = 1 then clampI 0 ((2 ^ (n + 1) : Nat) - 1) v
    else clampI (-(2 ^ (n + 1) : Nat)) ((2 ^ (n + 1) : Nat) - 1) v
  BitVec.ofInt 32 r

/-- RSHR: A / 2^k, round half even. -/
def rshrOf (a : Word) (k : Nat) : Word := BitVec.ofInt 32 (rne (sext 32 a.toNat) k)

/-- A per-lane result wrapped or limited to the lane width. -/
def laneFit (w : Nat) (sat : Bool) (v : Int) : Int := if sat then satI (laneW w) v else v

/-- One lane of VLOGIC: and, or, xor, and-not. -/
def vlogic (w x a b : Nat) : Nat :=
  match x with
  | 0 => a &&& b
  | 1 => a ||| b
  | 2 => a ^^^ b
  | _ => a &&& (2 ^ laneW w - 1 - b)

/-- One lane of VSH by X[4:0]: left, logical right, arithmetic right, rne right. -/
def vshift (w x a : Nat) : Nat :=
  let k := x % 32
  match nbits x 5 2 with
  | 0 => a * 2 ^ k
  | 1 => a / 2 ^ k
  | 2 => unsx (laneW w) (sext (laneW w) a / (2 ^ k : Nat))
  | _ => unsx (laneW w) (rne (sext (laneW w) a) k)

/-- One lane of VMINMAX: X[0] 0 min, 1 max; X[1] unsigned. -/
def vminmax (w x a b : Nat) : Nat :=
  let less := if nbits x 1 1 = 1 then decide (a < b) else decide (sext (laneW w) a < sext (laneW w) b)
  if nbits x 0 1 = 0 then (if less then a else b) else (if less then b else a)

end Sys2Proof.Machine
end

