-- ==== Sys2Proof/Machine/EngIsa.lean ====
section
/-!
DEFINITION. The engine instructions (R163 to R169). A command names the engine; the instruction word is fetched from its
program memory at its PC, and the command has its effect when the engine runs a tile and the word is a legal instruction
of that mnemonic. An instruction that waits leaves the engine as it is.
-/
namespace Sys2Proof.Machine

/-! ### Issue -/

/-- Stores that have become visible are written in their order (R167). -/
def State.applyStores (s : State) (l : List (Nat × List Byte)) : State := l.foldl (fun s a => s.engStore a.1 a.2) s

/-- Make the oldest `n` stores of an engine visible. -/
def State.drainStores (s : State) (e n : Nat) : State :=
  let x := s.eng e
  (s.applyStores (x.stores.take n)).modEng e fun x => { x with stores := x.stores.drop n }

/-- The PC after sequential flow, with the loops left or repeated (R165). -/
def seqPc (pc : Nat) : List (Nat × Nat × Nat) → Nat × List (Nat × Nat × Nat)
  | [] => ((pc + 1) % 2048, [])
  | (st, en, left) :: t =>
    if pc = en then if 1 < left then (st, (st, en, left - 1) :: t) else seqPc pc t
    else ((pc + 1) % 2048, (st, en, left) :: t)

/-- The engine issues instructions: it runs a tile, is neither parked nor retired, and has no fault waiting. -/
def State.engIssues (s : State) (e : Nat) : Bool :=
  let x := s.eng e
  s.alive && x.cur.isSome && x.fault.isNone && s.engRole e != 2 && s.engRole e != 3

/-- The instruction word at an engine's PC. -/
def State.engWord (s : State) (e : Nat) : Nat := s.rd (progDev e (s.eng e).pc) 8

/-- Count an instruction's issue cost and its wait. (DESIGN CHOICE, log entry 21) -/
def State.engCost (s : State) (e cost : Nat) : State :=
  (s.modEng e fun x => { x with cyc := x.cyc + cost + Config.stall s.freeCtr }).fresh

/-- Go on to the next instruction. -/
def State.engNext (s : State) (e cost : Nat) : State :=
  (s.modEng e fun x => { x with pc := (seqPc x.pc x.loops).1, loops := (seqPc x.pc x.loops).2 }).engCost e cost

/-- Go on at a target. -/
def State.engJump (s : State) (e t cost : Nat) : State := (s.modEng e fun x => { x with pc := t % 2048 }).engCost e cost

/-! ### Local address space (R161) -/

inductive Area where
  | local_ | desc | shared | bad
  deriving DecidableEq, Repr

/-- Where an access of `n` bytes lies; a misaligned one is refused (R179 cause 2). -/
def areaOf (a n : Nat) : Area :=
  if a % n ≠ 0 then .bad
  else if a + n ≤ 0xFF00 then .local_
  else if 0xFF00 ≤ a && a + n ≤ 0x10000 then .desc
  else if 0x1000000 ≤ a && a + n ≤ 0x1100000 then .shared
  else .bad

/-- A transfer covers a local address. -/
def Xfer.covers (t : Xfer) (a : Nat) : Bool := t.loc ≤ a && a < t.loc + t.len * t.lines
/-- A byte of local memory as the engine sees it: under a transfer into it, the old or the new value of its block
(R168). (DESIGN CHOICE, log entry 21) -/
def State.locByte (s : State) (e a : Nat) : Byte :=
  match (s.eng e).xfers.find? (fun t => !t.put && t.covers a) with
  | some t => if Config.newBlock (s.freeCtr + a / 16) then s.byte (t.farOf a) else s.byte (localDev e a)
  | none => s.byte (localDev e a)

/-- Read bytes through the local address space; none where the access faults. -/
def State.engRead (s : State) (e a n : Nat) : Option Nat :=
  match areaOf a n with
  | .local_ | .desc => some (leNat ((List.range n).map fun i => s.locByte e (a + i)))
  | .shared => some ((s.applyStores (s.eng e).stores).rd (sharedDev (mireOf e) (a - 0x1000000)) n)
  | .bad => none

/-- Note the first write to a local block under transfer (R168). -/
def Eng.touch (x : Eng) (blk : Nat) (old : List Byte) : Eng :=
  { x with xfers := x.xfers.map fun t =>
      if t.covers (16 * blk) && !(t.touched.any (·.1 == blk)) then { t with touched := t.touched ++ [(blk, old)] } else t }

/-- Write bytes through the local address space; none where the access faults. -/
def State.engWrite (s : State) (e a : Nat) (bs : List Byte) : Option State :=
  match areaOf a bs.length with
  | .local_ =>
    let blk := a / 16
    let s := s.modEng e fun x => x.touch blk (s.bytes (localDev e (16 * blk)) 16)
    some (s.engStore (localDev e a) bs)
  | .shared =>
    some (s.modEng e fun x => { x with stores := x.stores ++ [(sharedDev (mireOf e) (a - 0x1000000), bs)] })
  | .desc | .bad => none

/-- The address A + IMM of a memory instruction. -/
def State.engAddr (s : State) (e w : Nat) : Nat := ((s.eng e).s (iA w) + BitVec.ofNat 32 (iImm w)).toNat

/-- Bytes a size code names. -/
def sizeOf (x : Nat) : Nat := 2 ^ (x % 4)

/-! ### Running an instruction -/

/-- The device ranges that the instruction at the PC reads: its own word, what a load, an AMO, a look-up or a count names, the
words that a narrow store merges into, and the descriptor's windows for a block transfer (R160, R165, R168). -/
def State.engReads (s : State) (e : Nat) : List (Nat × Nat) :=
  let w := s.engWord e
  let dev (a n : Nat) : List (Nat × Nat) := match areaOf a n with
    | .local_ | .desc => [(localDev e a, n)]
    | .shared => [(sharedDev (mireOf e) (a - 0x1000000), n)]
    | .bad => []
  let byLane (n : Nat) : List (Nat × Nat) :=
    (lanes w ((s.eng e).v (iB w))).flatMap fun k => dev (((s.eng e).s (iA w)).toNat + n * (k / 2 ^ iX w)) n
  (progDev e (s.eng e).pc, 8) :: match iOp w with
    | 0x10 => dev (s.engAddr e w) (sizeOf (iX w))
    | 0x11 => if sizeOf (iX w) < 4 then dev (s.engAddr e w) (sizeOf (iX w)) else []
    | 0x12 => dev (s.engAddr e w) 4
    | 0x20 | 0x21 => [(localDev e 0xFF14, 64)]
    | 0x28 => dev (s.engAddr e w) 16
    | 0x36 => byLane (laneW w / 8)
    | 0x37 => byLane 4
    | _ => []

/-- Does the instruction at the PC read an uncorrectable group? -/
def State.engBad (s : State) (e : Nat) : Bool := (s.engReads e).any fun r => !(s.engMet 2 r.1 r.2).isEmpty

/-- Run the instruction at the PC when it is a legal one of the given opcode: first some earlier stores may become
visible (R167), then its reads correct what can be corrected, or raise engine fault cause 6 (R160, R179).
(DESIGN CHOICE, log entry 20; DEDUCED, log entry 84) -/
def engRun (e op : Nat) (f : Nat → State → State) (s : State) : State :=
  if s.engIssues e && iOp (s.engWord e) == op && insLegal (s.engWord e) then
    let s' := s.drainStores e (Config.drain s.freeCtr)
    if s'.engBad e then s'.engFault e 6
    else f (s.engWord e) ((s.engReads e).foldl (fun s r => s.engCorrect r.1 r.2) s')
  else s

/-- An instruction that only changes the engine's registers. -/
def engAlu (e op cost : Nat) (f : Nat → Eng → Eng) (s : State) : State :=
  engRun e op (fun w s => (s.modEng e (f w)).engNext e cost) s

/-! ### Scalar instructions -/

def engNop (e : Nat) : State → State := engAlu e 0x00 1 fun _ x => x
def engAdd (e : Nat) : State → State := engAlu e 0x01 1 fun w x => x.setS (iD w) (x.s (iA w) + x.b' w)
def engSub (e : Nat) : State → State := engAlu e 0x02 1 fun w x => x.setS (iD w) (x.s (iA w) - x.b' w)
def engMul (e : Nat) : State → State := engAlu e 0x03 1 fun w x => x.setS (iD w) (x.s (iA w) * x.b' w)
def engAnd (e : Nat) : State → State := engAlu e 0x04 1 fun w x => x.setS (iD w) (x.s (iA w) &&& x.b' w)
def engOr (e : Nat) : State → State := engAlu e 0x05 1 fun w x => x.setS (iD w) (x.s (iA w) ||| x.b' w)
def engXor (e : Nat) : State → State := engAlu e 0x06 1 fun w x => x.setS (iD w) (x.s (iA w) ^^^ x.b' w)
def engShl (e : Nat) : State → State :=
  engAlu e 0x07 1 fun w x => x.setS (iD w) (x.s (iA w) <<< ((x.b' w).toNat % 32))
def engShr (e : Nat) : State → State :=
  engAlu e 0x08 1 fun w x => x.setS (iD w) (x.s (iA w) >>> ((x.b' w).toNat % 32))
def engSra (e : Nat) : State → State :=
  engAlu e 0x09 1 fun w x => x.setS (iD w) ((x.s (iA w)).sshiftRight ((x.b' w).toNat % 32))
def engSlt (e : Nat) : State → State :=
  engAlu e 0x0A 1 fun w x =>
    let less := if iX w = 1 then (x.s (iA w)).ult (x.b' w) else (x.s (iA w)).slt (x.b' w)
    x.setS (iD w) (if less then 1 else 0)
def engLi (e : Nat) : State → State := engAlu e 0x0B 1 fun w x => x.setS (iD w) (BitVec.ofNat 32 (iImm w))
def engRshr (e : Nat) : State → State :=
  engAlu e 0x0C 1 fun w x => x.setS (iD w) (rshrOf (x.s (iA w)) ((x.b' w).toNat % 32))
def engSat (e : Nat) : State → State := engAlu e 0x0D 1 fun w x => x.setS (iD w) (satOf (iX w) (x.s (iA w)))

/-- LD: 1, 2 or 4 bytes, zero- or sign-extended. -/
def engLd (e : Nat) : State → State := engRun e 0x10 fun w s =>
  let n := sizeOf (iX w)
  match s.engRead e (s.engAddr e w) n with
  | none => s.engFault e 2
  | some v =>
    let r : Word := if nbits (iX w) 2 1 = 1 then BitVec.ofInt 32 (sext (8 * n) v) else BitVec.ofNat 32 v
    (s.modEng e fun x => x.setS (iD w) r).engNext e 1

/-- ST. -/
def engSt (e : Nat) : State → State := engRun e 0x11 fun w s =>
  match s.engWrite e (s.engAddr e w) (leBytes (sizeOf (iX w)) ((s.eng e).s (iB w)).toNat) with
  | none => s.engFault e 2
  | some s => s.engNext e 1

/-- AMO on a word of shared memory: add, signed max or swap. The engine's own earlier stores come first. -/
def engAmo (e : Nat) : State → State := engRun e 0x12 fun w s =>
  let a := s.engAddr e w
  if areaOf a 4 = .shared then
    let s := s.drainStores e (s.eng e).stores.length
    let dev := sharedDev (mireOf e) (a - 0x1000000)
    let old : Word := BitVec.ofNat 32 (s.rd dev 4)
    let b := (s.eng e).s (iB w)
    let new := match iX w with
      | 0 => old + b
      | 1 => if old.slt b then b else old
      | _ => b
    ((s.engStore dev (leBytes 4 new.toNat)).modEng e fun x => x.setS (iD w) old).engNext e 1
  else s.engFault e 2

/-- FENCE: earlier stores are visible to every engine of the mire. -/
def engFence (e : Nat) : State → State := engRun e 0x13 fun _ s => (s.drainStores e (s.eng e).stores.length).engNext e 1

/-- BR. -/
def engBr (e : Nat) : State → State := engRun e 0x18 fun w s =>
  let x := s.eng e
  if condOf 32 (iX w) (x.s (iA w)).toNat (x.s (iB w)).toNat then s.engJump e (iImm w) 2 else s.engNext e 1

/-- CALL: D ← PC + 1. -/
def engCall (e : Nat) : State → State := engRun e 0x19 fun w s =>
  (s.modEng e fun x => x.setS (iD w) (BitVec.ofNat 32 (x.pc + 1))).engJump e (iImm w) 2

/-- JR. -/
def engJr (e : Nat) : State → State := engRun e 0x1A fun w s => s.engJump e (((s.eng e).s (iA w)).toNat % 2048) 2

/-- LOOP: a count of 0 skips the body; a third level is no legal program (R165: depth 2). (DESIGN CHOICE, log entry 20) -/
def engLoop (e : Nat) : State → State := engRun e 0x1B fun w s =>
  let x := s.eng e
  let n := if iI w then iImm w % 65536 else (x.s (iA w)).toNat
  if n = 0 then
    (s.modEng e fun x => { x with pc := (seqPc (x.pc + iX w) x.loops).1, loops := (seqPc (x.pc + iX w) x.loops).2 }).engCost e 1
  else if 2 ≤ x.loops.length then s.engFault e 1
  else (s.modEng e fun x => { x with loops := (x.pc + 1, x.pc + iX w, n) :: x.loops, pc := (x.pc + 1) % 2048 }).engCost e 1

/-- CSR: a special register. -/
def engCsr (e : Nat) : State → State := engRun e 0x1C fun w s =>
  let x := s.eng e
  let v := match iX w with
    | 0 => e
    | 1 => x.cyc
    | 2 => s.fld R.tickCount
    | 3 => x.ue
    | _ => (x.cur.map (·.retry)).getD 0
  (s.modEng e fun x => x.setS (iD w) (BitVec.ofNat 32 v)).engNext e 1

/-- A tile ends: its task has one more tile, and its result is complete with the last one (R177). -/
def State.tileEnd (s : State) (e : Nat) : State :=
  match (s.eng e).cur with
  | none => s
  | some t =>
    let s := s.modEng e fun x => { x with cur := none, ran := x.ran + 1, busy := x.busy + x.cyc }
    s.modTask t.task fun k =>
      let d := k.done + 1
      if d = k.total && !k.stale then
        { k with done := d, resNo := some k.no, resHeld := k.held, resRepaired := k.repaired }
      else { k with done := d }

/-- DONE: once every tag is free the tile ends; the engine's stores are visible by then. -/
def engDone (e : Nat) : State → State := engRun e 0x1D fun _ s =>
  if (s.eng e).xfers.isEmpty then (s.drainStores e (s.eng e).stores.length).engCost e 1 |>.tileEnd e else s

/-- TRAP: engine fault cause 4 with a code. -/
def engTrap (e : Nat) : State → State := engRun e 0x1E fun w s => s.engFault e 4 (iImm w % 256)

/-! ### Block transfers (R168) -/

/-- Word k of the tile descriptor (R170). -/
def State.descWord (s : State) (e k : Nat) : Nat := s.rd (localDev e (0xFF00 + 4 * k)) 4
def State.winBase (s : State) (e k : Nat) : Nat := s.descWord e (5 + 2 * k) + 2 ^ 32 * s.descWord e (6 + 2 * k)
def State.winLen (s : State) (e k : Nat) : Nat := s.descWord e (13 + k)
def State.winStr (s : State) (e k : Nat) : Nat := s.descWord e (17 + k)

/-- BLKGET and BLKPUT: refused with cause 3, refused by the local address space with cause 2, waiting for the tag, or
started. -/
def engBlk (e op : Nat) (put : Bool) : State → State := engRun e op fun w s =>
  let x := s.eng e
  let win := iX w % 4
  let tag := nbits (iX w) 2 3
  let two := nbits (iX w) 5 1 == 1
  let len := if two then iImm w % 65536 else iImm w
  let n := if two then iImm w / 65536 else 1
  let str := if two then s.winStr e win else 0
  let loc := (x.s (iA w)).toNat
  let off := (x.s (iB w)).toNat
  if x.xfers.any (·.tag == tag) then s
  else if loc % 16 != 0 || off % 16 != 0 || len % 16 != 0 || str % 16 != 0 ||
      s.winLen e win < off + (n - 1) * str + len || (put && (win == 0 || win == 2)) then s.engFault e 3
  -- BLKPUT may read the tile descriptor, BLKGET may not write it (R161)
  else if (if put then 0x10000 else 0xFF00) < loc + len * n then s.engFault e 2
  else
    let t : Xfer := { tag, put, far := s.winBase e win + off, len, lines := n, stride := str, loc, since := s.now }
    (s.modEng e fun x => { x with xfers := x.xfers ++ [t] }).engNext e 1

def engBlkget (e : Nat) : State → State := engBlk e 0x20 false
def engBlkput (e : Nat) : State → State := engBlk e 0x21 true

/-- WAIT: for one tag, or for every tag; its bits of CSR 3 clear (R169). -/
def engWait (e : Nat) : State → State := engRun e 0x22 fun w s =>
  let x := s.eng e
  let all := nbits (iX w) 3 1 == 1
  let tag := iX w % 8
  if all then
    if x.xfers.isEmpty then (s.modEng e fun x => { x with ue := 0 }).engNext e 1 else s
  else if x.xfers.any (·.tag == tag) then s
  else (s.modEng e fun x => { x with ue := x.ue - nbits x.ue tag 1 * 2 ^ tag }).engNext e 1

/-! ### Vector instructions -/

/-- A lane-wise operation of vA and vB. -/
def engLanes (e op cost : Nat) (f : Nat → Nat → Nat → Nat) : State → State :=
  engAlu e op cost fun w x =>
    x.setV (iD w) (ofLanes w (((lanes w (x.v (iA w))).zip (lanes w (x.v (iB w)))).map fun p => f w p.1 p.2))

/-- VLD: 16 aligned bytes. -/
def engVld (e : Nat) : State → State := engRun e 0x28 fun w s =>
  match s.engRead e (s.engAddr e w) 16 with
  | none => s.engFault e 2
  | some v => (s.modEng e fun x => x.setV (iD w) v).engNext e 1

/-- VST: 16 aligned bytes. -/
def engVst (e : Nat) : State → State := engRun e 0x29 fun w s =>
  match s.engWrite e (s.engAddr e w) (leBytes 16 ((s.eng e).v (iB w))) with
  | none => s.engFault e 2
  | some s => s.engNext e 1

def engVadd (e : Nat) : State → State := engLanes e 0x2A 1 fun w a b =>
  unsx (laneW w) (laneFit w (iX w == 1) (sext (laneW w) a + sext (laneW w) b))
def engVsub (e : Nat) : State → State := engLanes e 0x2B 1 fun w a b =>
  unsx (laneW w) (laneFit w (iX w == 1) (sext (laneW w) a - sext (laneW w) b))
def engVmulr (e : Nat) : State → State := engLanes e 0x2C 1 fun w a b =>
  unsx (laneW w) (satI (laneW w) (rne (sext (laneW w) a * sext (laneW w) b) (iX w)))

/-- VMAC: exact lane products into an accumulator that wraps at its width. -/
def engVmac (e : Nat) : State → State := engRun e 0x2D fun w s =>
  let f := s.freeCtr
  (s.modEng e fun x =>
    let acc := accLanes f (tget (fun _ => {}) x.accs (iD w)) w
    let new := (acc.zip ((lanesS w (x.v (iA w))).zip (lanesS w (x.v (iB w))))).map fun p =>
      sext (accW w) (unsx (accW w) (p.1 + p.2.1 * p.2.2))
    { x with accs := tset (fun _ => {}) (iD w) { form := iW w, lanes := new } x.accs }).engNext e 1

/-- VACC: read an accumulator rounded and limited, and clear it with X[6]. -/
def engVacc (e : Nat) : State → State := engRun e 0x2E fun w s =>
  let f := s.freeCtr
  (s.modEng e fun x =>
    let acc := accLanes f (tget (fun _ => {}) x.accs (iA w)) w
    let x := x.setV (iD w) (ofLanesS w (acc.map fun v => satI (laneW w) (rne v (iX w % 64))))
    if nbits (iX w) 6 1 = 1 then { x with accs := tset (fun _ => {}) (iA w) {} x.accs } else x).engNext e 1

def engVminmax (e : Nat) : State → State := engLanes e 0x2F 1 fun w a b => vminmax w (iX w) a b
def engVlogic (e : Nat) : State → State := engLanes e 0x30 1 fun w a b => vlogic w (iX w) a b
def engVcmp (e : Nat) : State → State := engLanes e 0x31 1 fun w a b =>
  if condOf (laneW w) (iX w) a b then 2 ^ laneW w - 1 else 0
def engVsh (e : Nat) : State → State := engAlu e 0x32 1 fun w x =>
  x.setV (iD w) (ofLanes w ((lanes w (x.v (iA w))).map fun a => vshift w (iX w) a))
def engVsplat (e : Nat) : State → State := engAlu e 0x33 1 fun w x =>
  x.setV (iD w) (ofLanes w (List.replicate (laneN w) (x.s (iA w)).toNat))

/-- VRED: sum, minimum or maximum over the lanes, signed. -/
def engVred (e : Nat) : State → State := engAlu e 0x34 1 fun w x =>
  let l := lanesS w (x.v (iA w))
  let r := match iX w with
    | 0 => l.sum
    | 1 => l.foldl min (l.headD 0)
    | _ => l.foldl max (l.headD 0)
  x.setS (iD w) (BitVec.ofInt 32 r)

/-- VPERM: lane i takes lane (vB lane i)[2:0] of vA; an index the form does not have gives a free value. -/
def engVperm (e : Nat) : State → State := engRun e 0x35 fun w s =>
  let f := s.freeCtr
  (s.modEng e fun x =>
    let a := lanes w (x.v (iA w))
    x.setV (iD w) (ofLanes w ((lanes w (x.v (iB w))).map fun k => a.getD (k % 8) (Config.freeLane (f + k % 8))))).engNext e 1

/-- VLUT: each lane looks up a lane-wide entry of local memory. -/
def engVlut (e : Nat) : State → State := engRun e 0x36 fun w s =>
  let x := s.eng e
  let n := laneW w / 8
  let base := (x.s (iA w)).toNat
  let vs := (lanes w (x.v (iB w))).map fun k =>
    let a := base + n * (k / 2 ^ iX w)
    if areaOf a n = .local_ || areaOf a n = .desc then s.engRead e a n else none
  if vs.all Option.isSome then (s.modEng e fun x => x.setV (iD w) (ofLanes w (vs.map (·.getD 0)))).engNext e 4
  else s.engFault e 2

/-- VHIST: each lane counts in a word of local memory, lanes in order. -/
def engVhist (e : Nat) : State → State := engRun e 0x37 fun w s =>
  let x := s.eng e
  let addrs := (lanes w (x.v (iB w))).map fun k => (x.s (iA w)).toNat + 4 * (k / 2 ^ iX w)
  if addrs.all fun a => areaOf a 4 == .local_ then
    (addrs.foldl (fun s a =>
      match s.engRead e a 4 with
      | some v => (s.engWrite e a (leBytes 4 (v + 1))).getD s
      | none => s) s).engNext e 8
  else s.engFault e 2

/-- VEXT: one lane, sign-extended; a lane the form does not have gives a free value. -/
def engVext (e : Nat) : State → State := engRun e 0x38 fun w s =>
  let f := s.freeCtr
  (s.modEng e fun x =>
    x.setS (iD w) (BitVec.ofInt 32 (sext (laneW w) ((lanes w (x.v (iA w))).getD (iX w) (Config.freeLane f))))).engNext e 1

/-- R164: an unassigned opcode or a bad field raises engine fault cause 1; a word that has an uncorrectable error is fault
cause 6 (R179). -/
def illegalInstruction (e : Nat) (s : State) : State :=
  if s.engIssues e && !insLegal (s.engWord e) then s.engFault e (if s.engBad e then 6 else 1) else s

/-! ### The commands: engine e issues its next instruction -/

/-- ENG_NOP (R165). -/
def execEngNop (e : Fin 192) (s : State) := ok (whenAlive (engNop e)) s
/-- ADD (R165). -/
def execEngAdd (e : Fin 192) (s : State) := ok (whenAlive (engAdd e)) s
/-- SUB (R165). -/
def execEngSub (e : Fin 192) (s : State) := ok (whenAlive (engSub e)) s
/-- MUL (R165). -/
def execEngMul (e : Fin 192) (s : State) := ok (whenAlive (engMul e)) s
/-- AND (R165). -/
def execEngAnd (e : Fin 192) (s : State) := ok (whenAlive (engAnd e)) s
/-- OR (R165). -/
def execEngOr (e : Fin 192) (s : State) := ok (whenAlive (engOr e)) s
/-- XOR (R165). -/
def execEngXor (e : Fin 192) (s : State) := ok (whenAlive (engXor e)) s
/-- SHL (R165). -/
def execEngShl (e : Fin 192) (s : State) := ok (whenAlive (engShl e)) s
/-- SHR (R165). -/
def execEngShr (e : Fin 192) (s : State) := ok (whenAlive (engShr e)) s
/-- SRA (R165). -/
def execEngSra (e : Fin 192) (s : State) := ok (whenAlive (engSra e)) s
/-- SLT (R165). -/
def execEngSlt (e : Fin 192) (s : State) := ok (whenAlive (engSlt e)) s
/-- LI (R165). -/
def execEngLi (e : Fin 192) (s : State) := ok (whenAlive (engLi e)) s
/-- RSHR (R165). -/
def execEngRshr (e : Fin 192) (s : State) := ok (whenAlive (engRshr e)) s
/-- SAT (R165). -/
def execEngSat (e : Fin 192) (s : State) := ok (whenAlive (engSat e)) s
/-- LD (R165). -/
def execEngLd (e : Fin 192) (s : State) := ok (whenAlive (engLd e)) s
/-- ST (R165). -/
def execEngSt (e : Fin 192) (s : State) := ok (whenAlive (engSt e)) s
/-- AMO (R165). -/
def execEngAmo (e : Fin 192) (s : State) := ok (whenAlive (engAmo e)) s
/-- FENCE (R165). -/
def execEngFence (e : Fin 192) (s : State) := ok (whenAlive (engFence e)) s
/-- BR (R165). -/
def execEngBr (e : Fin 192) (s : State) := ok (whenAlive (engBr e)) s
/-- CALL (R165). -/
def execEngCall (e : Fin 192) (s : State) := ok (whenAlive (engCall e)) s
/-- JR (R165). -/
def execEngJr (e : Fin 192) (s : State) := ok (whenAlive (engJr e)) s
/-- LOOP (R165). -/
def execEngLoop (e : Fin 192) (s : State) := ok (whenAlive (engLoop e)) s
/-- CSR (R165). -/
def execEngCsr (e : Fin 192) (s : State) := ok (whenAlive (engCsr e)) s
/-- DONE (R165). -/
def execEngDone (e : Fin 192) (s : State) := ok (whenAlive (engDone e)) s
/-- TRAP (R165). -/
def execEngTrap (e : Fin 192) (s : State) := ok (whenAlive (engTrap e)) s
/-- BLKGET (R168). -/
def execEngBlkget (e : Fin 192) (s : State) := ok (whenAlive (engBlkget e)) s
/-- BLKPUT (R168). -/
def execEngBlkput (e : Fin 192) (s : State) := ok (whenAlive (engBlkput e)) s
/-- WAIT (R165). -/
def execEngWait (e : Fin 192) (s : State) := ok (whenAlive (engWait e)) s
/-- VLD (R165). -/
def execEngVld (e : Fin 192) (s : State) := ok (whenAlive (engVld e)) s
/-- VST (R165). -/
def execEngVst (e : Fin 192) (s : State) := ok (whenAlive (engVst e)) s
/-- VADD (R165). -/
def execEngVadd (e : Fin 192) (s : State) := ok (whenAlive (engVadd e)) s
/-- VSUB (R165). -/
def execEngVsub (e : Fin 192) (s : State) := ok (whenAlive (engVsub e)) s
/-- VMULR (R165). -/
def execEngVmulr (e : Fin 192) (s : State) := ok (whenAlive (engVmulr e)) s
/-- VMAC (R165). -/
def execEngVmac (e : Fin 192) (s : State) := ok (whenAlive (engVmac e)) s
/-- VACC (R165). -/
def execEngVacc (e : Fin 192) (s : State) := ok (whenAlive (engVacc e)) s
/-- VMINMAX (R165). -/
def execEngVminmax (e : Fin 192) (s : State) := ok (whenAlive (engVminmax e)) s
/-- VLOGIC (R165). -/
def execEngVlogic (e : Fin 192) (s : State) := ok (whenAlive (engVlogic e)) s
/-- VCMP (R165). -/
def execEngVcmp (e : Fin 192) (s : State) := ok (whenAlive (engVcmp e)) s
/-- VSH (R165). -/
def execEngVsh (e : Fin 192) (s : State) := ok (whenAlive (engVsh e)) s
/-- VSPLAT (R165). -/
def execEngVsplat (e : Fin 192) (s : State) := ok (whenAlive (engVsplat e)) s
/-- VRED (R165). -/
def execEngVred (e : Fin 192) (s : State) := ok (whenAlive (engVred e)) s
/-- VPERM (R165). -/
def execEngVperm (e : Fin 192) (s : State) := ok (whenAlive (engVperm e)) s
/-- VLUT (R165). -/
def execEngVlut (e : Fin 192) (s : State) := ok (whenAlive (engVlut e)) s
/-- VHIST (R165). -/
def execEngVhist (e : Fin 192) (s : State) := ok (whenAlive (engVhist e)) s
/-- VEXT (R165). -/
def execEngVext (e : Fin 192) (s : State) := ok (whenAlive (engVext e)) s
/-- ILLEGAL_INSTRUCTION (R164). -/
def execIllegalInstruction (e : Fin 192) (s : State) := ok (whenAlive (illegalInstruction e)) s

end Sys2Proof.Machine
end

