-- ==== Sys2Proof/Machine/EngArray.lean ====
section
/-!
DEFINITION. The engine array around the programs: tile start (R170), tasks, declarations and the schedule (R172 to R177,
R187), the governor (R178), faults and restarts (R179 to R183), reload and broadcast (R184 to R186) and the end-of-tick
barrier (R33).
-/
namespace Sys2Proof.Machine

/-! ### Task descriptors (R172) -/

def Task.w (t : Task) (k : Nat) : Nat := t.ws.getD k 0
def Task.en (t : Task) : Bool := nbits (t.w 0) 0 1 == 1
def Task.head (t : Task) : Nat := nbits (t.w 0) 1 2
def Task.fmt (t : Task) : Nat := nbits (t.w 0) 3 3
def Task.nonidem (t : Task) : Bool := nbits (t.w 0) 6 1 == 1
def Task.skipHeld (t : Task) : Bool := nbits (t.w 0) 7 1 == 1
def Task.prio (t : Task) : Nat := nbits (t.w 0) 8 4
def Task.recs (t : Task) : Bool := nbits (t.w 0) 12 1 == 1
def Task.mask (t : Task) : Nat := nbits (t.w 0) 16 8
def Task.entry (t : Task) : Nat := nbits (t.w 0) 24 3
def Task.tw (t : Task) : Nat := nbits (t.w 1) 0 16
def Task.th (t : Task) : Nat := nbits (t.w 1) 16 16
def Task.cyc (t : Task) : Nat := t.w 2
def Task.prog (t : Task) : Nat := nbits (t.w 3) 0 16
def Task.maxEng (t : Task) : Nat := nbits (t.w 3) 16 8
def Task.outBase (t : Task) : Nat := t.w 4 + 2 ^ 32 * t.w 5
def Task.outSlot (t : Task) : Nat := t.w 6
def Task.nslot (t : Task) : Nat := nbits (t.w 7) 0 5
def Task.outStr (t : Task) : Nat := t.w 8
def Task.auxBase (t : Task) : Nat := t.w 9 + 2 ^ 32 * t.w 10
def Task.auxLen (t : Task) : Nat := t.w 11
def Task.auxStr (t : Task) : Nat := t.w 12
def Task.param (t : Task) : Nat := nbits (t.w 13) 0 20

/-- The zero fields of a descriptor. -/
def Task.zeros (t : Task) : Bool :=
  nbits (t.w 0) 13 3 == 0 && nbits (t.w 0) 27 5 == 0 && nbits (t.w 3) 24 8 == 0 && nbits (t.w 7) 5 27 == 0 &&
    nbits (t.w 13) 20 12 == 0 && t.w 14 == 0 && t.w 15 == 0

/-- The ranges of R172. -/
def Task.fieldsOk (t : Task) : Bool :=
  t.fmt ≤ 5 && 8 ≤ t.tw && t.tw ≤ 1344 && 1 ≤ t.th && t.th ≤ 1088 && t.cyc != 0 && 1 ≤ t.nslot && t.nslot ≤ 16

/-- The columns and rows of tiles (R175). -/
def State.tilesX (s : State) (t : Task) : Nat := ceilDiv (s.nCols t.head) t.tw
def State.tileCount (s : State) (t : Task) : Nat := s.tilesX t * ceilDiv (s.fld (R.headRowsAct t.head)) t.th

/-! ### Working engines and the assignment (R175, R176) -/

/-- The image a mire holds from the next tick: a reload that is done, or staged well for the same tick, comes first
(R188). -/
def State.progNext (s : State) (m : Nat) : Option Nat :=
  match s.arr.reloads.find? (·.1 == m) with
  | some r => some r.2.1
  | none =>
    match (s.mire m).staged with
    | some (true, img) =>
      if s.reqs.any (fun q => q.committed && q.kind == .reload && q.obj == m) then some (leNat ((img.drop 2).take 2))
      else if (s.mire m).entries.isEmpty then none else some (s.fld (R.engMireProgId m))
    | _ => if (s.mire m).entries.isEmpty then none else some (s.fld (R.engMireProgId m))

/-- A mire is in service with an image. -/
def State.mireOn (s : State) (m : Nat) : Bool :=
  s.flag R.engCtlEn && s.flag (R.engMireCtlEn m) && s.fld (R.engMireStatState m) != 3

/-- What ENG_MIRE_STAT.STATE shows of a mire (R190): 3 not loaded while a copy is to be repeated (R188), 2 staging until the
reload's commit point, 1 running with an image, else 0 off, as at reset. (DEDUCED, log entry 59) -/
def State.mireState (s : State) (m : Nat) : Nat :=
  if (s.mire m).redo then 3 else if (s.mire m).staging.isSome || (s.mire m).staged.isSome then 2
  else if s.flag (R.engMireCtlEn m) && !(s.mire m).entries.isEmpty then 1 else 0

/-- An engine works: it is neither a spare nor retired, parked or not (R176). -/
def State.engWorks (s : State) (e : Nat) : Bool := s.mireOn (mireOf e) && (s.engRole e == 0 || s.engRole e == 3)

/-- The engines a task may use. -/
def State.engsFor (s : State) (t : Task) : List Nat :=
  (List.range 192).filter fun e =>
    nbits t.mask (mireOf e) 1 == 1 && s.engWorks e && s.progNext (mireOf e) == some t.prog

/-- The engine of a list with the least load, ties to the first. -/
def leastLoaded (loads : Tbl Nat) : List Nat → Option Nat
  | [] => none
  | e :: t =>
    match leastLoaded loads t with
    | none => some e
    | some f => if tget (fun _ => 0) loads e ≤ tget (fun _ => 0) loads f then some e else some f

/-- An assignment in progress: the cycles of each engine and the tiles in the order given. -/
structure Assign where
  loads : Tbl Nat := []
  tiles : List (Nat × Tile) := []
  ok : Bool := true
  deriving DecidableEq, Repr

/-- Assign `n` tiles of a task from tile `i` on; `used` are the engines it uses already. -/
def assignTiles (cands : List Nat) (t : Task) : Nat → Nat → List Nat → Assign → Assign
  | 0, _, _, a => a
  | n + 1, i, used, a =>
    let allowed := if t.maxEng = 0 || used.length < t.maxEng then cands else cands.filter used.contains
    match leastLoaded a.loads allowed with
    | none => { a with ok := false }
    | some e =>
      assignTiles cands t n (i + 1) (if used.contains e then used else used ++ [e])
        { a with loads := tset (fun _ => 0) e (tget (fun _ => 0) a.loads e + t.cyc + 200) a.loads,
                 tiles := a.tiles ++ [(e, { task := t.idx, tile := i })] }

/-- The tasks in the order of R175: PRIO, then index. -/
def byPrio (ts : List Task) : List Task := (List.range 16).flatMap fun p => ts.filter (·.prio == p)

/-- The assignment of R175 for a set of tasks. -/
def State.assign (s : State) (ts : List Task) : Assign :=
  (byPrio ts).foldl (fun a t => assignTiles (s.engsFor t) t (s.tileCount t) 0 [] a) {}

/-- Engine clock in MHz. -/
def State.engFreq (s : State) : Nat := 200 * (s.fld R.engCtlFreq + 1)

/-- Each engine's budget in cycles (R176). -/
def State.engBudget (s : State) : Nat :=
  9 * ((s.tick.period - s.tick.guard * unitsPerUs) * s.engFreq) / (10 * unitsPerUs)

/-- The schedule check of R176. -/
def State.schedOk (s : State) (ts : List Task) : Bool :=
  let a := s.assign ts
  a.ok && a.loads.all fun p => p.2 ≤ s.engBudget

/-- `ENG_SCHED_LOAD`: the highest engine's share, 0.01 % units to the nearest (R176). -/
def State.schedLoad (s : State) (ts : List Task) : Nat :=
  let top := ((s.assign ts).loads.map (·.2)).foldl max 0
  if s.engBudget = 0 then 0 else min (2 ^ 14 - 1) (rhalfUp (top * 10000) s.engBudget).toNat

/-! ### Declaration (R173) -/

/-- The tasks of a list of descriptors. -/
def tasksOf (ds : List (List Nat)) : List Task := ds.zipIdx.map fun (ws, i) => { idx := i, ws }

/-- The first cause of R173 for a table. A descriptor with EN = 0 declares no task. -/
def State.declareCause (s : State) (ts : List Task) : Option Nat :=
  let es := ts.filter (·.en)
  if !(ts.all fun t => t.zeros && t.fieldsOk) then some 1
  else if !(es.all fun t => (List.range 8).any fun m => nbits t.mask m 1 == 1 && s.progNext m == some t.prog) then some 2
  else if es.any fun t => (t.fmt < 5 && !s.fmtOn t.head t.fmt) || (t.recs && (s.pipe t.head).active.isNone) then some 3
  else if es.any fun t => !inDram t.outBase (t.outSlot * t.nslot) || (!t.recs && !inDram t.auxBase t.auxLen) then some 4
  else if !s.schedOk es then some 5
  else none

/-- The words of a table in memory, read descriptor by descriptor as the host's inbound traffic reads (R173), and whether the
host answered for all that lies in its memory (R289); outside device DRAM a read is refused and gives zeros (R218).
(DESIGN CHOICE, log entry 26) -/
def State.readTable (s : State) (base : Nat) : Nat → List (List Nat) × Bool × State
  | 0 => ([], true, s)
  | n + 1 =>
    let (ds, ok, s) := s.readTable base n
    let a := base + 64 * n
    let (bs, good, s) := if isHost a then (((s.hostRead a 64).1.getD []), (s.hostRead a 64).1.isSome, s)
      else ((s.dramRead 7 a 64).1, true, (s.dramRead 7 a 64).2.2)
    (ds ++ [(List.range 16).map fun k => leNat ((bs.drop (4 * k)).take 4)], ok && good, s)

/-- The descriptors Wisoa firmware declares for a head: the tasks in force with the chosen Wisoa tasks of the head in the
lowest free places; what its own measurements set is free within the ranges of R172 (R189). (DESIGN CHOICE, log entry 26) -/
def wisoaWords (h k : Nat) : List Nat :=
  let free (lo n i : Nat) : Nat := lo + Config.wisoaWord k i % n
  let fmt := match k with
    | 1 | 3 => 3
    | 5 => 4
    | 7 => 5
    | _ => 2
  (List.range 16).map fun i =>
    match i with
    | 0 => 1 + h * 2 + fmt * 8 + (if k = 1 || k = 5 then 2 ^ 12 else 0) + Config.wisoaWord k 0 % 16 * 256
        + Config.wisoaWord k 16 % 256 * 65536 + Config.wisoaWord k 17 % 8 * 2 ^ 24
    | 1 => free 8 1337 1 + free 1 1088 18 * 65536
    | 2 => free 1 (2 ^ 32 - 1) 2
    | 3 => k + free 0 256 3 * 65536
    | 7 => free 1 16 7
    | 13 => free 0 (2 ^ 20) 13
    | 14 | 15 => 0
    | _ => free 0 (2 ^ 32) i

/-- A descriptor that declares no task, every field in its range. -/
def noTask : List Nat := [0, 8 + 65536, 1, 0, 0, 0, 0, 1, 0, 0, 0, 0, 0, 0, 0, 0]

/-- The task indices a TASK_WISOA for a head uses: the lowest free ones. -/
def State.wisoaIdx (s : State) (n : Nat) : List Nat :=
  ((List.range 64).filter fun i => !(s.arr.tasks.any fun t => t.idx == i && t.en)).take n

/-- The Wisoa tasks a mask chooses. -/
def wisoaKinds (mask : Nat) : List Nat := (List.range 7).filterMap fun i => if nbits mask i 1 = 1 then some (i + 1) else none

/-- The table a request declares: a table in memory, or Wisoa's (marked by `p2`). -/
def State.declTable (s : State) (q : Req) : List (List Nat) × Bool × State :=
  if q.p2 = 0 then s.readTable q.p1 q.p0
  else
    let ks := wisoaKinds q.p1
    let add := (s.wisoaIdx ks.length).zip ks
    let top := max (s.arr.tasks.map (·.idx + 1) |>.foldl max 0) ((add.map (·.1 + 1)).foldl max 0)
    ((List.range top).map fun i =>
      match add.find? (·.1 == i) with
      | some p => wisoaWords q.p0 p.2
      | none => ((s.task i).map (·.ws)).getD noTask, !(isHost (q.p2 - 1) && !s.host.linkUp), s)

/-- R173: at the commit point the declared table is read and checked; it takes effect at the edge, or is refused. One in host
memory that cannot be read ends its command with status 0x07 (R274). -/
def taskDeclareCommit (s : State) : State :=
  match s.reqs.find? (fun q => q.committed && q.kind == .taskDeclare) with
  | none => s
  | some q =>
    let (ds, ok, s) := s.declTable q
    if !ok then (s.dropReq q).finishO q.cmd 7 0 0 0
    else match s.declareCause (tasksOf ds) with
    | some c => ((s.dropReq q).refuse 0x12800C c).finishO q.cmd 1 c 0 0
    | none =>
      let mask := if q.p2 = 0 then none else some ((s.wisoaIdx (wisoaKinds q.p1).length).map (2 ^ ·)).sum
      (s.dropReq q).modArr fun a => { a with next := some (ds, q.cmd, mask) }

/-! ### Results (R177, R13) -/

/-- The newest frame of a head whose outputs are in DRAM. -/
def State.lastLanded (s : State) (h : Nat) : Option Frame := (s.head h).frames.filter (·.landed) |>.getLast?

/-- The frame of a head that landed in the previous tick, seen at the edge (R174): the later one where two did, as a truncated
frame and the one before it may. (DESIGN CHOICE, log entry 79) -/
def State.landedPrev (s : State) (h prev : Nat) : Option Frame :=
  (s.head h).frames.filter (fun f => f.landed && f.landTick == prev) |>.getLast?

def State.frameOf (s : State) (h no : Nat) : Frame := ((s.head h).frames.find? (·.no == no)).getD {}

/-- Offer the result of a task's run: its own, or the previous one when it is stale (R177), or when it skips a held frame:
then the previous result stands, marked held (R174). -/
def State.offerResult (s : State) (t : Task) : State :=
  let fresh := !t.stale && t.resNo == some t.no
  match (if fresh then some t.no else t.resNo) with
  | none => s
  | some no =>
    let f := s.frameOf t.head t.no
    let f := { f with no := t.no, held := f.held || (!fresh && t.resHeld), repaired := if fresh then t.repaired else t.resRepaired }
    let slot := no % t.nslot
    s.offer t.head 7 t.idx f slot (t.outBase + slot * t.outSlot) t.outSlot no (if t.stale then 1 else 0)

/-- The task's result is stale for the tick (R31, R180). -/
def State.staleTask (s : State) (i : Nat) : State :=
  match s.task i with
  | none => s
  | some t => if t.stale then s else (s.modTask i fun t => { t with stale := true }).bump R.engStale

/-- R33: the barrier releases after the last engine arrives, or closes without the late ones after the commit point; the
results of the tick are then offered. -/
def engineBarrierRelease (s : State) : State :=
  let idle := s.arr.restarts.isEmpty &&
    (List.range 192).all fun e => (s.eng e).cur.isNone && (s.eng e).queue.isEmpty
  if !s.arr.released && (idle || s.arr.stopped) then
    let s := s.arr.tasks.foldl (fun s t => if (t.runs || t.skip) && !t.offered then s.offerResult t else s) s
    s.modArr fun a =>
      { a with released := true, tasks := a.tasks.map fun t => if t.runs || t.skip then { t with offered := true } else t }
  else s

/-- R177: at the commit point every engine still running is stopped; its tiles are stale and overrun (R31). A task late on
several mires is one overrun, of the first of them. (DESIGN CHOICE, log entry 70) -/
def State.engStop (s : State) : State :=
  let late := (List.range 192).filter fun e => (s.eng e).cur.isSome || !(s.eng e).queue.isEmpty
  let tiles := late.flatMap fun e => ((s.eng e).cur.toList ++ (s.eng e).queue).map fun t => (t.task, mireOf e)
  let tiles := tiles ++ s.arr.restarts.flatMap fun r => (r.tile.toList ++ r.rest).map fun t => (t.task, mireOf r.eng)
  let ids := s.arr.tasks.filter fun t => tiles.any (·.1 == t.idx)
  let s := ids.foldl (fun s t =>
    let m := ((tiles.find? (·.1 == t.idx)).map (·.2)).getD 0
    ((s.staleTask t.idx).bump R.tickOverrun).raise 0x0104 m (1 + t.idx * 256) (s.fld R.tickCount)) s
  let s := late.foldl (fun s e => s.modEng e fun x =>
    { x with cur := none, queue := [], xfers := [], fault := none, busy := x.busy + (if x.cur.isSome then x.cyc else 0) }) s
  s.modArr fun a => { a with stopped := true, restarts := [] }

/-! ### Capacity (R178, R181, R182) -/

/-- Is an engine a spare, parked or not? -/
def State.isSpare (s : State) (e : Nat) : Bool := s.engRole e == 1 || (s.engRole e == 3 && s.arr.parkedL.contains (e, 1))

/-- Has a spare been taken for a faulted engine's tiles: it waits for them, runs them, or has run them in this tick (R181)? -/
def State.taken (s : State) (e : Nat) : Bool :=
  let x := s.eng e
  s.arr.restarts.any (·.spare == e) || x.cur.isSome || !x.queue.isEmpty || x.ran != 0 || x.busy != 0

/-- Give an engine a role for its unparked time. -/
def State.giveRole (s : State) (e v : Nat) : State :=
  if s.engRole e = 3 && v != 2 then
    s.modArr fun a => { a with parkedL := a.parkedL.map fun p => if p.1 = e then (e, v) else p }
  else s.setEngRole e v

/-- Show a mire's free spares and retired engines; warn when the free spares fall below `SPARES` (R181). -/
def State.showSpares (s : State) (m : Nat) : State :=
  let free := ((List.range 24).filter fun j => s.isSpare (24 * m + j) && !s.taken (24 * m + j)).length
  let ret := ((List.range 24).filter fun j => s.engRole (24 * m + j) == 2).length
  let old := s.fld (R.engMireStatFreeSpares m)
  let s := (s.setFld (R.engMireStatFreeSpares m) free).setFld (R.engMireStatRetired m) ret
  if free < old && free < s.fld (R.engMireCtlSpares m) then (s.raise 0x0704 m free).faultBit 4 else s

/-- The engines the governor lets run at once, A of R178, from the cap in mW. -/
def State.govA (s : State) : Nat := (s.fld R.thermCap - 350) * 8000 / (234 * s.engFreq)

/-- R178: each bundle the governor recomputes A and parks or resumes engines. Each cut of A that leaves fewer engines than the
schedule assigned raises one event. -/
def governorBundle (s : State) : State :=
  let a := s.govA
  let running := (List.range 192).filter fun e => s.engRole e != 3 && s.engRole e != 2 && (s.eng e).cur.isSome
  let s :=
    if a < running.length then
      let out := (running.drop a).reverse
      out.foldl (fun s e => (s.setEngRole e 3).modArr fun r => { r with parkedL := (e, s.engRole e) :: r.parkedL }) s
    else
      let back := s.arr.parkedL.take (a - running.length)
      back.foldl (fun s p => (s.setEngRole p.1 p.2).modArr fun r => { r with parkedL := r.parkedL.erase p }) s
  let s := s.setFld R.engParked s.arr.parkedL.length
  if a < s.arr.assigned && a < s.arr.deficitA then
    (s.raise 0x0706 0 a s.arr.assigned).modArr fun r => { r with deficitA := a }
  else s.modArr fun r => { r with deficitA := max r.deficitA a }

/-- Free spares for a program, those of a mire first (R181). -/
def State.sparesFor (s : State) (m prog : Nat) : List Nat :=
  let free (e : Nat) : Bool := s.engRole e == 1 && !s.taken e && s.mireOn (mireOf e)
  let own := (List.range 24).map (24 * m + ·) |>.filter free
  if own.isEmpty then (List.range 192).filter fun e => free e && s.progNext (mireOf e) == some prog else own

/-- A spare for a task's tiles: which of several is not said (R181). (DESIGN CHOICE, log entry 17) -/
def State.pickSpare (s : State) (m prog : Nat) : Option Nat :=
  let l := s.sparesFor m prog
  l[Config.runChoice s.freeCtr % l.length]?

/-- A hardware fault retires the engine; its tiles go to a spare, or are stale (R181, R182, R188). -/
def State.retireEng (s : State) (e cause : Nat) : State :=
  let x := s.eng e
  let m := mireOf e
  let prior := s.arr.restarts.find? (·.spare == e)
  let tile : Option Tile := match prior with
    | some r => r.tile
    | none => x.cur
  let rest : List Tile := match prior with
    | some r => r.rest
    | none => x.queue
  let task : Option Task := match tile, rest with
    | some t, _ => s.task t.task
    | none, t :: _ => s.task t.task
    | none, [] => none
  let s := s.setEngRole e 2
  let s := s.modEng e fun x => { x with cur := none, fault := none, xfers := [], queue := [] }
  let s := s.modArr fun a => { a with restarts := a.restarts.filter (·.spare != e),
                                      parkedL := a.parkedL.filter (·.1 != e) }
  -- its request at the mire's port is dropped, one that has the grant runs to its end without effect (R235)
  let off (b : Burst) : Burst := if b.eng.any (·.1 == e) then { b with off := true } else b
  let s : State := { s with msys := { s.msys with run0 := s.msys.run0.map off, run1 := s.msys.run1.map off } }
  let s := (s.bump (R.engMireFaults m)).setFld (R.engEngCause m (e % 24)) cause
  let spare : Option Nat := task.bind fun (t : Task) => s.pickSpare m t.prog
  -- without a spare the schedule check runs from the next tick (R182)
  let s := if spare.isSome || (x.cur.isNone && x.queue.isEmpty && prior.isNone && !(s.sparesFor m 0).isEmpty) then s
    else s.modArr fun a => { a with recheck := true }
  let s := s.fresh
  let s := s.raise 0x0703 e cause (spare.getD 0xFF)
  let s := match spare with
    | some sp =>
      let again := tile.filter fun (t : Tile) => t.retry == 0 && !(task.any fun (k : Task) => k.nonidem) && !s.arr.stopped
      let s := match tile with
        | some t => if again.isSome then s else s.staleTask t.task
        | none => s
      let r : Restart := { eng := e, spare := sp, tile := again, rest, t := s.now }
      ((s.modArr fun a => { a with restarts := a.restarts ++ [r] }).faultFound 2 e).showSpares (mireOf sp)
    | none => (tile.toList ++ rest).foldl (fun (s : State) (t : Tile) => s.staleTask t.task) s
  s.showSpares m

/-- A hardware fault during the copy of a reload (R188): the mire is not loaded, and the copy is repeated in the next guard,
unless a newer reload of the mire waits already (R30). (DEDUCED, log entry 59) -/
def State.copyFault (s : State) (m : Nat) : State :=
  match s.arr.reloads.find? (·.1 == m), (s.mire m).copied with
  | some (_, _, cmd), some img =>
    let s := s.modArr fun a => { a with reloads := a.reloads.filter (·.1 != m) }
    let s := (s.modMire m fun x => { x with entries := [], copied := none }).setFld (R.engMireStatState m) 3
    if s.reqs.any (fun q => !q.committed && q.kind == .reload && q.obj == m) then s.finishO cmd 2 0 0 0
    else (s.modMire m fun x => { x with staged := some (true, img), redo := true }).request { kind := .reload, obj := m, cmd }
  | _, _ => s

/-- R179: an engine fault is handled: one an instruction raised, or one of the causes 5 to 8. -/
def engineFault (e cause : Nat) (s : State) : State :=
  let x := s.eng e
  let (c, code) := x.fault.getD (cause, 0)
  let real := x.fault.isSome || (cause = 5 && x.cur.isSome && 4 * x.budget < x.cyc) || (6 ≤ cause && cause ≤ 8)
  if !real || s.engRole e == 2 then s
  else if c ≤ 5 then
    match x.cur with
    | none => s
    | some t =>
      let s := s.modEng e fun x => { x with cur := none, fault := none, xfers := [], ran := x.ran + 1, busy := x.busy + x.cyc }
      let s := (s.bump (R.engMireFaults (mireOf e))).setFld (R.engEngCause (mireOf e) (e % 24)) c
      let s := (s.staleTask t.task).modTask t.task fun k => { k with fault := true }
      s.raise 0x0701 e (t.task + c * 256 + code * 65536) t.tile
  else (s.retireEng e c).copyFault (mireOf e)

/-- R180: a task with program faults in 16 consecutive ticks in which it ran is dropped. -/
def taskDropped (i : Nat) (s : State) : State :=
  match s.task i with
  | none => s
  | some t =>
    if 16 ≤ t.faultRun && !t.dropped then
      (s.modTask i fun t => { t with dropped := true, faultRun := 0 }).raise 0x0702 i
    else s

/-- R181: the tile starts again on the spare with RETRY 1, with the remaining tiles behind it, when its turn comes (R364). -/
def engineRestart (e : Nat) (s : State) : State :=
  match s.arr.restarts.find? (·.eng == e) with
  | none => s
  | some r =>
    if !s.faultTurn 2 e then s else
    let s := s.modArr fun a => { a with restarts := a.restarts.erase r }
    let s := s.modEng r.spare fun x =>
      { x with queue := (r.tile.map fun t => { t with retry := 1 }).toList ++ r.rest ++ x.queue }
    let s := if r.tile.isSome then s.bump (R.engMireRestarts (mireOf e)) else s
    s.handled 2

/-- R183: an engine test ends: the engine is a spare again, or stays retired. -/
def engineRequalifyDone (e : Nat) (pass : Bool) (s : State) : State :=
  match (s.mire (mireOf e)).requal.find? (·.1 == e % 24) with
  | none => s
  | some r =>
    let s := s.modMire (mireOf e) fun m => { m with requal := m.requal.erase r }
    let s := if pass then s.setEngRole e 1 else s
    let s := s.showSpares (mireOf e)
    let s := s.modArr fun a => { a with regain := a.regain || pass }
    s.finishO r.2 0 0 (if pass then 1 else 0) 0

/-- ENG_MIRE_CMD OP 2 and ENG_REQUALIFY (R183): the test starts on a retired engine; a second command for an engine under test
ends busy (R274). -/
def State.engRequalify (s : State) (m j : Nat) (cmd : Option Nat) : State :=
  if j < 24 && s.engRole (24 * m + j) == 2 && !((s.mire m).requal.any (·.1 == j)) then
    s.modMire m fun x => { x with requal := x.requal ++ [(j, cmd)] }
  else if cmd.isSome && (s.mire m).requal.any (·.1 == j) then s.finishO cmd 0x0A 0 0 0
  else (s.refuse (0x120014 + 0x10000 * m)).finishO cmd 1 0 0 0

/-! ### Tile start (R170) -/

/-- The words of a tile's descriptor. (DESIGN CHOICE, log entry 25) -/
def State.tileWords (s : State) (e : Nat) (t : Task) (k : Tile) : List Nat :=
  let h := t.head
  let f := s.frameOf h t.no
  let nx := s.tilesX t
  let x0 := k.tile % nx * t.tw
  let y0 := k.tile / nx * t.th
  let tw := min t.tw (s.nCols h - x0)
  let th := min t.th (s.fld (R.headRowsAct h) - y0)
  let inp := t.fmt < 5
  let w0 := if inp then s.outAddr h t.fmt f.slot 0 0 else 0
  let l0 := if inp then s.fmtSize h t.fmt else 0
  let str0 := if inp then s.nCols h * fmtWidth t.fmt else 0
  let w1 := t.outBase + t.no % t.nslot * t.outSlot
  let luma := s.base R.vidLumaLo R.vidLumaHi
  let lumaLen := (s.nCols h - s.fld (R.headColsBlind h)) * s.fld (R.headRowsAct h)
  let (w2, l2, str2) :=
    if t.recs then (s.recBase h f.bank, 16 * s.nCols h * s.nRows h, 16 * s.nCols h)
    else if t.prog = 7 then (luma + s.vid.lumaEdge * lumaLen, lumaLen, s.nCols h - s.fld (R.headColsBlind h))
    else (t.auxBase, t.auxLen, t.auxStr)
  let w3 := sharedDev (mireOf e) 0
  let hi (v : Nat) : List Nat := [v % 2 ^ 32, v / 2 ^ 32 % 2 ^ 32]
  let b (x : Bool) (n : Nat) : Nat := if x then 2 ^ n else 0
  [t.idx + k.tile * 4096, x0 + y0 * 65536, tw + th * 65536, t.no,
   b f.held 0 + b f.repaired 1 + b f.contBreak 2 + h * 16 + k.retry * 256]
    ++ hi w0 ++ hi w1 ++ hi w2 ++ hi w3
    ++ [l0, t.outSlot, l2, 0x100000, str0, t.outStr, str2, 0, 0x1000000 + t.param, t.cyc] ++ List.replicate 41 0

/-- R170: the scheduler writes the descriptor and the engine starts its next tile at the task's entry, every register,
accumulator and tag clear. -/
def tileStart (e : Nat) (s : State) : State :=
  let x := s.eng e
  match x.queue with
  | [] => s
  | k :: rest =>
    if s.alive && x.cur.isNone && x.fault.isNone && s.engRole e != 2 && s.engRole e != 3 then
      match s.task k.task with
      | none => s.modEng e fun x => { x with queue := rest }
      | some t =>
        let s := s.engStore (localDev e 0xFF00) ((s.tileWords e t k).map (leBytes 4)).flatten
        s.modEng e fun x =>
          { x with sregs := [], vregs := [], accs := [], pc := (s.mire (mireOf e)).entries.getD t.entry 0 % 2048,
                   loops := [], xfers := [], ue := 0, cyc := 0, cur := some k, budget := t.cyc, queue := rest }
    else s

/-- Does a transfer go through the mire's DRAM port? -/
def Xfer.dram (t : Xfer) : Bool := t.far < 0x1000000000

/-- The bytes of a transfer. -/
def Xfer.size (t : Xfer) : Nat := t.len * t.lines

/-- The next request of a transfer at the mire's port: address and length, within one aligned 256-byte block (R217, R233);
none once every request has been served, nor for lines of length 0. (DESIGN CHOICE, log entry 73) -/
def Xfer.request (t : Xfer) : Option (Nat × Nat) :=
  if t.dram && !t.lost && t.done < t.size then
    let far := t.far + t.done / t.len * t.stride + t.done % t.len
    some (far, min (t.len - t.done % t.len) (256 - far % 256))
  else none

/-- The request an engine has waiting: that of its oldest transfer with one (R233). (DESIGN CHOICE, log entry 73) -/
def State.engRequest (s : State) (e : Nat) : Option (Xfer × Nat × Nat) :=
  ((s.eng e).xfers.filterMap fun t => t.request.map fun r => (t, r.1, r.2)).head?

/-- Change a transfer of an engine. -/
def State.modXfer (s : State) (e tag : Nat) (f : Xfer → Xfer) : State :=
  s.modEng e fun x => { x with xfers := x.xfers.map fun t => if t.tag = tag then f t else t }

/-- R168: a block transfer whose requests have all been served completes and frees its tag. One inside the array moves its
bytes now. (DESIGN CHOICE, log entry 21) -/
def blockTransferDone (e tag : Nat) (s : State) : State :=
  match (s.eng e).xfers.find? (·.tag == tag) with
  | none => s
  | some t =>
    let held (r : Option Burst) : Bool := r.any fun b => b.eng.any fun x => x.1 == e && x.2.1 == tag
    if t.request.isSome || t.lost || held s.msys.run0 || held s.msys.run1 then s
    else
      let s := if t.dram then s else (s.xferMove e t 0 t.size).fresh
      s.modEng e fun x => { x with xfers := x.xfers.erase t }

/-! ### Reload and broadcast (R184 to R186) -/

/-- A read of an image's bytes in DRAM, by a mire's port, or in flash XIP: none for a refused or poisoned read. -/
def State.imageGet (s : State) (m a n : Nat) : Option (List Byte) × State :=
  if xipBase ≤ a then s.xipGet a n
  else
    let (bs, k, s) := s.dramRead (mireReq m) a n
    (if k = .good then some bs else none, s)

/-- The bytes of an image at an address in DRAM or flash XIP: the header, and the instructions it counts; empty when its header
does not read well. -/
def State.imageBytes (s : State) (m a : Nat) : Option (List Byte) × State :=
  match s.imageGet m a 64 with
  | (none, s) => (none, s)
  | (some hd, s) =>
    let (body, s) := s.imageGet m (a + 64) (8 * min (leNat ((hd.drop 4).take 4) % 4096) 2048)
    (body.map (hd ++ ·), s)

/-- One step of CRC-32, IEEE 802.3, reflected. -/
def crcBit (c : Nat) : Nat := if c % 2 = 1 then (c / 2) ^^^ 0xEDB88320 else c / 2
def crcByte (c : Nat) (b : Byte) : Nat :=
  let c := c ^^^ b.toNat
  crcBit (crcBit (crcBit (crcBit (crcBit (crcBit (crcBit (crcBit c)))))))
/-- CRC-32, IEEE 802.3. -/
def crc32 (l : List Byte) : Nat := l.foldl crcByte 0xFFFFFFFF ^^^ 0xFFFFFFFF

/-- The header check of an image (R171). -/
def imageOk (img : List Byte) : Bool :=
  let w (k : Nat) : Nat := leNat ((img.drop (4 * k)).take 4)
  w 0 % 65536 == 0x5E4D && 1 ≤ w 1 && w 1 ≤ 2048 && (List.range 9).all (fun k => w (7 + k) == 0) &&
    w 6 == crc32 ((img.drop 64).take (8 * w 1))

/-- A reload request (R184): staging starts at once, and the reload is bound to a tick. -/
def State.reloadReq (s : State) (m addr : Nat) (cmd : Option Nat) : State :=
  let s := s.modMire m fun x => { x with staging := some (addr, cmd), staged := none, redo := false }
  (s.setFld (R.engMireStatState m) 2).request { kind := .reload, obj := m, p0 := addr, cmd }

/-- The mires that fetch the image of mire m for the same tick: one read serves them all (R185). -/
def State.sameImage (s : State) (m : Nat) : List Nat :=
  let bound (k : Nat) : List Bool := (s.reqs.filter fun q => q.kind == .reload && q.obj == k).map (·.committed)
  (List.range 8).filter fun k => k == m ||
    ((s.mire k).staging.isSome && (s.mire k).staging.map (·.1) == (s.mire m).staging.map (·.1) && bound k == bound m)

/-- R184, R185: once the flash port can read it (R314), the image is staged in every mire that fetches it for the same tick, and
its header and CRC are checked. -/
def imageStaged (m : Nat) (s : State) : State :=
  match (s.mire m).staging with
  | none => s
  | some (a, _) =>
    if s.xipWaits a then s
    else
    let ms := s.sameImage m
    let (img, s) := s.imageBytes m a
    let staged := (img.any imageOk, img.getD [])
    ms.foldl (fun s k => s.modMire k fun x => { x with staging := none, staged := some staged }) s

/-- Copy an image into the program memories of a mire. -/
def State.loadMire (s : State) (m : Nat) (img : List Byte) : State :=
  let s := (List.range 24).foldl (fun s j => s.engStore (progDev (24 * m + j) 0) (img.drop 64)) s
  s.modMire m fun x =>
    { x with staged := none, copied := some img, redo := false,
             entries := (List.range 8).map fun k => leNat ((img.drop (8 + 2 * k)).take 2) }

/-- R184: at the commit point a staged image is copied into the program memories, the reload is deferred (R31), or it is
refused with CAUSE 6; the offset ENG_ERR shows of a command register outside its range is free (R384).
(DESIGN CHOICE, log entry 64) -/
def reloadCommit (m : Nat) (s : State) : State :=
  match s.committedReq .reload m with
  | none => s
  | some q =>
    match (s.mire m).staged with
    | none => (s.overrun 5 m).deferReq q
    | some (false, _) =>
      let s := (s.dropReq q).modMire m fun x => { x with staged := none, redo := false }
      let s := s.setFld (R.engMireStatState m) (s.mireState m)
      ((s.latch R.engErr 12 (Config.freeVal s.freeCtr) (6 * 2 ^ 16)).fresh).finishO q.cmd 1 6 0 0
    | some (true, img) =>
      let s := (s.dropReq q).loadMire m img
      s.modArr fun a => { a with reloads := a.reloads.filter (·.1 != m) ++ [(m, leNat ((img.drop 2).take 2), q.cmd)] }

/-- Levels of the broadcast tree for M receivers. -/
def log2up (n : Nat) : Nat := (List.range 9).find? (fun k => n ≤ 2 ^ k) |>.getD 9

/-- The time of R185 in ns, rounded up. -/
def bcastNs (m size : Nat) : Nat := 1000 + 40 * log2up m + ceilDiv (size * 10) 64

/-- A broadcast request of R186: `p0` source, `p1` offset, `p2` length and mask. -/
def State.bcastReq (s : State) (src off len mask : Nat) (cmd : Option Nat) : State :=
  s.request { kind := .broadcast, obj := 0, p0 := src, p1 := off, p2 := len * 256 + mask % 256, cmd }

/-- R186: at its commit point the broadcast is refused with CAUSE 7 if it would not fit the guard, or it is copied. -/
def broadcastCommit (s : State) : State :=
  match s.committedReq .broadcast 0 with
  | none => s
  | some q =>
    let len := q.p2 / 256
    let ms := (List.range 8).filter fun m => nbits q.p2 m 1 == 1
    if s.tick.guard * 1000 < bcastNs ms.length len + 640 + 10000 then
      ((s.dropReq q).refuse 0x128034 7).finishO q.cmd 1 7 0 0
    else
      let (data, _, s) := s.dramRead (mireReq (ms.headD 0)) q.p0 len
      let s := ms.foldl (fun s m => s.engStore (sharedDev m q.p1) (data.take (0x100000 - q.p1))) s
      (s.dropReq q).modArr fun a => { a with bcast := a.bcast ++ [(0, q.cmd)] }

/-! ### The tick edge -/

/-- The declared tasks that are not dropped. -/
def State.liveTasks (s : State) : List Task := s.arr.tasks.filter fun t => t.en && !t.dropped

/-- The tasks in the schedule: those of heads that have joined it, and those without an input frame (R174, R187). -/
def State.schedTasks (s : State) : List Task := s.liveTasks.filter fun t => s.arr.joined.contains t.head || t.fmt == 5

/-- Show the load that a schedule check has found (R176). -/
def State.showLoad (s : State) (ts : List Task) : State := s.setFld R.engSchedLoad (s.schedLoad ts)

/-- Drop tasks while the check fails, highest PRIO value first, highest index first (R182). -/
def State.shed : Nat → State → State
  | 0, s => s
  | n + 1, s =>
    if s.schedOk s.schedTasks then s.showLoad s.schedTasks
    else
      match (byPrio s.schedTasks).getLast? with
      | none => s
      | some t =>
        let s := (s.modTask t.idx fun t => { t with dropped := true }).raise 0x0702 t.idx
        State.shed n (s.modArr fun a => { a with droppedQ := t.idx :: a.droppedQ })

/-- Try each dropped task again, the latest first: those with which the check passes are in the schedule again (R182). -/
def State.readd (s : State) : State :=
  s.arr.droppedQ.foldl (fun (s : State) (i : Nat) =>
    let t := (s.modTask i fun t => { t with dropped := false }).modArr fun a => { a with droppedQ := a.droppedQ.erase i }
    if t.schedOk t.schedTasks then t.showLoad t.schedTasks else s) s

/-- Has a draining head had its last result (R63): every frame it began has landed, and none in the tick `prev` that ended? -/
def State.lastResult (s : State) (h prev : Nat) : Bool :=
  (s.head h).frames.all (·.landed) && (s.landedPrev h prev).isNone

/-- Is the period of a head's first frame over at this edge (R187)? -/
def State.firstOver (s : State) (h : Nat) : Bool :=
  (s.head h).everStarted && ((s.head h).due || !(s.head h).timing || (s.newFrame h).any (!·.contBreak))

/-- Heads' tasks join at the first tick after their first frame, and leave after their last; capacity returns with those that
leave (R63, R182, R187). -/
def State.joinHeads (s : State) (prev : Nat) : State :=
  (List.range 4).foldl (fun s h =>
    let run := s.hState h == 4 || (s.hState h == 5 && !s.lastResult h prev)
    if run && s.firstOver h && !s.arr.joined.contains h && !s.arr.refused.contains h then
      let ts := s.liveTasks.filter fun t => s.arr.joined.contains t.head || t.fmt == 5 || t.head == h
      if ts.all (·.head != h) then s.modArr fun a => { a with joined := a.joined ++ [h] }
      else if s.schedOk ts then (s.showLoad ts).modArr fun a => { a with joined := a.joined ++ [h] }
      else (s.refuse 0x12800C 5).modArr fun a => { a with refused := a.refused ++ [h] }
    else if !run then s.modArr fun a =>
      { a with joined := a.joined.erase h, refused := a.refused.erase h, regain := a.regain || a.joined.contains h }
    else s) s

/-- R190: from the tick edge after a write of SPARES a mire holds that many spares: its highest working engines become spares,
or its lowest spares working engines. (DESIGN CHOICE, log entry 72) -/
def State.holdSpares (s : State) (m : Nat) : State :=
  let want := s.fld (R.engMireCtlSpares m)
  let es := (List.range 24).map (24 * m + ·)
  let spares := es.filter s.isSpare
  let works := es.filter fun e => !s.isSpare e && s.engRole e != 2
  let s := if spares.length < want then
      (works.reverse.take (want - spares.length)).foldl (fun s e => s.giveRole e 1) s
    else
      ((spares.take (spares.length - want)).foldl (fun s e => s.giveRole e 0) s).modArr fun a =>
        { a with regain := a.regain || want < spares.length }
  (s.modMire m fun x => { x with newSpares := false }).showSpares m

/-- Whether a task runs in the tick that begins, and on which frame (R174); one that runs every tick names a
free frame number while no frame of its head has landed. (DESIGN CHOICE, log entry 70) -/
def State.planTask (s : State) (prev : Nat) (t : Task) : Task :=
  if !t.en || t.dropped then t
  else if t.fmt = 5 then
    let no := match s.landedPrev t.head prev with
      | some f => f.no
      | none => ((s.lastLanded t.head).map (·.no)).getD (Config.freeVal s.freeCtr % 2 ^ 32)
    { t with runs := true, no, held := false, repaired := false, total := s.tileCount t }
  else
    match s.landedPrev t.head prev with
    | some f =>
      if !s.arr.joined.contains t.head then t
      else if t.skipHeld && f.held then { t with skip := true, no := f.no, resHeld := true }
      else { t with runs := true, no := f.no, held := f.held, repaired := f.repaired, total := s.tileCount t }
    | none => t

/-- The part of a tick edge that is the engines': what the commit point prepared takes effect, the schedule of the ended
tick is closed, and the tiles of the new one are assigned (R173 to R177, R182, R184, R187). `prev` is the tick that
ended. -/
def State.engAtEdge (s : State) (prev : Nat) : State :=
  let s := s.fresh
  let tick := s.fld R.tickCount
  -- reloads, broadcasts and declarations take effect
  let s := s.arr.reloads.foldl (fun s (m, prog, cmd) =>
    let s := s.modMire m fun x => { x with copied := none }
    (((s.setFld (R.engMireProgId m) prog).setFld (R.engMireStatState m) (s.mireState m)).raise 0x0705 m prog).finishO cmd 0 0 tick
      prog) s
  -- a reload can take a task's last image, and can bring one back (R184)
  let s := if s.arr.reloads.isEmpty then s
    else
      let s := s.modArr fun a => { a with reloads := [] }
      s.modArr fun a => { a with recheck := a.recheck || s.schedTasks.any (fun t => (s.engsFor t).isEmpty), regain := true }
  let s := s.arr.bcast.foldl (fun s b => s.finishO b.2 0 0 tick 0) s
  let s := s.modArr fun a => { a with bcast := [] }
  -- the tick that ended
  let stale := ((s.arr.tasks.filter (·.stale)).map fun t => 2 ^ t.idx).sum
  let s := (s.setFld R.engStaleMaskLo stale).setFld R.engStaleMaskHi (stale / 2 ^ 32)
  let s := (List.range 8).foldl (fun s m =>
    let s := s.setFld (R.engMireBusy m) (((List.range 24).map fun j => (s.eng (24 * m + j)).busy).sum)
    (List.range 24).foldl (fun s j => s.setFld (R.engEngTiles m j) (s.eng (24 * m + j)).ran) s) s
  let s := s.modArr fun a => { a with tasks := a.tasks.map fun t =>
    { t with faultRun := if t.runs then (if t.fault then t.faultRun + 1 else 0) else t.faultRun, fault := false,
             runs := false, skip := false, stale := false, offered := false, done := 0 } }
  -- spares that took tiles are working engines
  let s := (List.range 192).foldl (fun s e =>
    let used := (s.eng e).ran != 0 || (s.eng e).busy != 0
    let s := if s.isSpare e && used then (s.giveRole e 0).showSpares (mireOf e) else s
    s.modEng e fun x => { x with ran := 0, busy := 0, queue := [] }) s
  let s := (List.range 8).foldl (fun s m => s.showSpares m) s
  let s := (List.range 8).foldl (fun s m => if (s.mire m).newSpares then s.holdSpares m else s) s
  -- a declaration
  let s := match s.arr.next with
    | none => s
    | some (ds, cmd, mask) =>
      let s := s.modArr fun a => { a with tasks := tasksOf ds, next := none, droppedQ := [], refused := [] }
      let s := s.showLoad s.liveTasks
      s.finishO cmd 0 0 tick (mask.getD (s.fld R.engSchedLoad))
  let s := s.joinHeads prev
  let s := if (List.range 8).any fun m => (s.mire m).redo then s
    else
      let s := if s.arr.recheck then State.shed 64 s else s
      let s := if s.arr.regain then s.readd else s
      s.modArr fun a => { a with recheck := false, regain := false }
  -- the tasks of this tick
  -- after a thaw or a restart none runs before a commit point has come (R330, R376)
  let ts := if s.ao.edgeWait then s.arr.tasks else s.arr.tasks.map (s.planTask prev)
  let s := s.modArr fun a => { a with tasks := ts }
  let a := s.assign (s.arr.tasks.filter (·.runs))
  -- a task whose mire waits for a repeated copy is stale meanwhile (R188)
  let short := s.arr.tasks.filter fun t => t.runs && decide ((a.tiles.filter (·.2.task == t.idx)).length < t.total)
  let s := short.foldl (fun (s : State) (t : Task) => s.staleTask t.idx) s
  let s := a.tiles.foldl (fun s (e, t) => s.modEng e fun x => { x with queue := x.queue ++ [t] }) s
  s.modArr fun r => { r with assigned := a.loads.length, stopped := false, released := a.tiles.isEmpty && short.isEmpty && !(ts.any (·.skip)) }

/-! ### The commands -/

/-- R173: a write of ENG_TASK_CNT requests a declaration of the table at ENG_TASK_BASE. -/
def State.taskDeclare (s : State) (n : Nat) : State :=
  if 64 < n then s.refuse 0x12800C
  else (s.setFld R.engTaskCnt n).request { kind := .taskDeclare, p0 := n, p1 := s.base R.engTaskBaseLo R.engTaskBaseHi }

/-- ENGINE_BARRIER_RELEASE (R33). -/
def execEngineBarrierRelease (s : State) := ok (whenAlive engineBarrierRelease) s
/-- TILE_START (R170). -/
def execTileStart (e : Fin 192) (s : State) := ok (whenAlive (tileStart e)) s
/-- BLOCK_TRANSFER_DONE (R168). -/
def execBlockTransferDone (e : Fin 192) (tag : Nat) (s : State) := ok (whenAlive (blockTransferDone e tag)) s
/-- ENGINE_FAULT (R179). -/
def execEngineFault (e : Fin 192) (cause : Fin 16) (s : State) := ok (whenAlive (engineFault e cause)) s
/-- TASK_DROPPED (R180). -/
def execTaskDropped (i : Fin 64) (s : State) := ok (whenAlive (taskDropped i)) s
/-- ENGINE_RESTART (R181). -/
def execEngineRestart (e : Fin 192) (s : State) := ok (whenAlive (engineRestart e)) s
/-- GOVERNOR_BUNDLE (R178). -/
def execGovernorBundle (s : State) := ok (whenAlive governorBundle) s
/-- TASK_DECLARE (R173). -/
def execTaskDeclare (n : Fin 128) (s : State) := ok (whenReg R.engTaskCnt.off fun s => s.taskDeclare n) s
/-- TASK_DECLARE_COMMIT (R173). -/
def execTaskDeclareCommit (s : State) := ok (whenAlive taskDeclareCommit) s
/-- ENG_CMD_RELOAD (R184). -/
def execEngCmdReload (m : Fin 8) (s : State) :=
  ok (whenReg (R.engMireCmd m).off fun s => s.reloadReq m (s.base (R.engMireImgLo m) (R.engMireImgHi m)) none) s
/-- ENG_CMD_REQUALIFY (R183). -/
def execEngCmdRequalify (m : Fin 8) (j : Fin 32) (s : State) := ok (whenReg (R.engMireCmd m).off fun s => s.engRequalify m j none) s
/-- IMAGE_STAGED (R184). -/
def execImageStaged (m : Fin 8) (s : State) := ok (whenAlive (imageStaged m)) s
/-- RELOAD_COMMIT (R184). -/
def execReloadCommit (m : Fin 8) (s : State) := ok (whenAlive (reloadCommit m)) s
/-- ENGINE_REQUALIFY_DONE (R183). -/
def execEngineRequalifyDone (e : Fin 192) (pass : Bool) (s : State) := ok (whenAlive (engineRequalifyDone e pass)) s
/-- ENG_BCAST_GO (R186). -/
def execEngBcastGo (mask : BitVec 8) (s : State) :=
  ok (whenReg R.engBcastGo.off fun s => s.bcastReq (s.base R.engBcastSrcLo R.engBcastSrcHi) (s.fld R.engBcastOff) (s.fld R.engBcastLen)
    mask.toNat none) s
/-- BROADCAST_COMMIT (R186). -/
def execBroadcastCommit (s : State) := ok (whenAlive broadcastCommit) s

end Sys2Proof.Machine
end

