-- ==== Sys2Proof/Machine/Video.lean ====
section
/-!
DEFINITION. The video pipeline: loads (R193, R213), tone mapping and palettes (R198 to R201), the compositor (R206 to
R211), the memory path and the in-line path (R192 to R197), the visible camera (R202 to R205) and the transmitter (R212).
-/
namespace Sys2Proof.Machine

def State.vidH (s : State) (h : Nat) : VidHead := tget (fun _ => {}) s.vids h
def State.setVidH (s : State) (h : Nat) (x : VidHead) : State := { s with vids := tset (fun _ => {}) h x s.vids }
def State.modVidH (s : State) (h : Nat) (f : VidHead → VidHead) : State := s.setVidH h (f (s.vidH h))
def State.modVid (s : State) (f : Vid → Vid) : State := { s with vid := f s.vid }

/-! ### Loads -/

/-- The product of the four dividers: a common denominator of the head cadences. -/
def State.divProd (s : State) : Nat := ((List.range 4).map s.divN).foldl (· * ·) 1

/-- Sum of a per-frame amount over some heads, times the common denominator: amount per tick. -/
def State.perTick (s : State) (hs : List Nat) (f : Nat → Nat) : Nat :=
  (hs.map fun h => f h * (s.divProd / s.divN h)).sum

/-- An amount per tick as an amount per second, exactly: numerator and denominator. -/
def State.perSec (s : State) (x : Nat) : Nat × Nat := (x * unitsPerS, s.divProd * s.tick.period)

/-- The display pixel rate of the enabled heads (R193), per second. -/
def State.vidRate (s : State) : Nat × Nat :=
  s.perSec (s.perTick ((List.range 4).filter fun h => s.flag (R.vidHeadCtlEn h)) fun h => s.actW h * s.actH h)

/-- The video load check of R193: at most 720 Mpixel/s. -/
def State.vidLoadOk (s : State) : Bool :=
  let r := s.vidRate
  r.1 ≤ 720000000 * r.2

/-- `VID_LOAD`: share of 800 Mpixel/s, 0.01 %. -/
def State.showVidLoad (s : State) : State :=
  let r := s.vidRate
  s.setFld R.vidLoad (if r.2 = 0 then 0 else min (2 ^ 14 - 1) (rhalfUp (r.1 * 10000) (r.2 * 800000000)).toNat)

/-- Bytes per pixel of a transmitter format. -/
def txBpp (f : Nat) : Nat := if f = 1 then 3 else 2

/-- The transmitter load in bits per second (R213), numerator and denominator. -/
def State.txRate (s : State) : Nat × Nat :=
  s.perSec (s.perTick ((List.range 4).filter fun h => s.flag (R.vidHeadCtlTxEn h)) fun h =>
    8 * (s.actH h * (s.actW h * txBpp (s.fld (R.vidHeadCtlTxFmt h)) + 6) + (if s.flag (R.vidHeadCtlMeta h) then 70 else 0)
      + 8 + (if s.flag R.vidTxCtlLsle then 8 * s.actH h else 0)))

/-- The transmitter load check of R213. -/
def State.txLoadOk (s : State) : Bool :=
  let r := s.txRate
  r.1 * 10 ≤ 9 * 4 * s.fld R.vidTxRate * 1000000 * r.2

/-- `VID_TX_LOAD`: share of 4 lanes, 0.01 %. -/
def State.showTxLoad (s : State) : State :=
  let r := s.txRate
  let d := r.2 * 4 * s.fld R.vidTxRate * 1000000
  s.setFld R.vidTxLoad (if d = 0 then 0 else min (2 ^ 14 - 1) (rhalfUp (r.1 * 10000) d).toNat)

/-- Both loads as the registers, geometries and dividers now stand. (DESIGN CHOICE, log entry 75) -/
def State.showLoads (s : State) : State := s.showVidLoad.showTxLoad

/-- Is the memory path's input format enabled (R198)? -/
def State.vidInputOk (s : State) (h : Nat) : Bool :=
  if s.flag (R.vidHeadCtlInput h) then s.fmtOn h 3 || s.fmtOn h 4 else s.fmtOn h 2

/-! ### Base layer -/

/-- The value x of an active pixel on the memory path, and whether its read was poisoned (R198, R220). -/
def State.baseX (s : State) (h slot r c : Nat) : Nat × Bool :=
  let f := if !s.flag (R.vidHeadCtlInput h) then 2 else if s.fmtOn h 3 then 3 else 4
  let a := s.outAddr h f slot r c
  let v := s.rd a (fmtWidth f)
  (if f = 4 then temp16 v (s.flag (R.corrFmtTemp16Lsb h)) else v, s.ueIn a (fmtWidth f))

/-- The tone index of a value (R199, R200). (DESIGN CHOICE, log entry 25) -/
def toneIdx (m : ToneMap) (x : Nat) : Nat :=
  match m with
  | .window lo hi => (clampI 0 255 (((x : Int) - lo) * 256 / ((hi : Int) - lo + 1))).toNat
  | .plateau bins =>
    let b := x / 16
    let total := bins.sum
    if total = 0 then Config.freeVal x % 256
    else min 255 ((2 * (bins.take b).sum + bins.getD b 0) * 128 / total)

/-- Smallest bin whose cumulative count reaches a target (R200). -/
def cumBin (tgt : Nat) : Nat → Nat → List Nat → Nat
  | b, acc, x :: t => if tgt ≤ acc + x then b else cumBin tgt (b + 1) (acc + x) t
  | b, _, [] => b - 1

/-- The window mode 1 aims at (R200): moved apart to MINSPAN about its midpoint, then limited.
(DESIGN CHOICE, log entry 25) -/
def autoWindow (bins : List Nat) (plo phi minspan : Nat) : Int × Int :=
  let n := bins.sum
  let lo : Int := 16 * cumBin (ceilDiv (n * plo) 1024) 0 0 bins
  let hi : Int := 16 * cumBin (ceilDiv (n * phi) 1024) 0 0 bins + 15
  if hi - lo < minspan then
    let l := freeDiv (lo + hi - minspan) 2
    (clampI 0 65535 l, clampI 0 65535 (l + minspan))
  else (lo, hi)

/-- The slot of a task's result for a frame: one that is complete, or that stands for a skipped held frame (R174, R210). -/
def State.resultFor (s : State) (h prog no : Nat) : Option (Nat × Nat) :=
  match s.arr.tasks.find? (fun t => t.en && t.head == h && t.prog == prog && (t.resNo == some no || (t.skipHeld && (s.frameOf h no).held && t.resNo.isSome))) with
  | some t =>
    match t.resNo with
    | some k => some (t.outBase + k % t.nslot * t.outSlot, t.outStr)
    | none => none
  | none => none

/-- Is a histogram mapping used for a head (R199)? -/
def State.usesHist (s : State) (h : Nat) : Bool := (s.vidH h).tone % 4 != 0 && !s.flag (R.vidHeadCtlInput h)

/-- The mapping of a frame whose histogram, if it is ready, lies at `hist`; the window in use after it; and whether no
histogram and no earlier mapping serve (R199, R200). -/
def State.mapFor (s : State) (h : Nat) (hist : Option Nat) : ToneMap × (Nat × Nat) × Bool :=
  let v := s.vidH h
  let fixed : Nat × Nat := (v.win % 65536, v.win / 65536)
  let used : Nat × Nat := if v.map.isSome then (v.lo, v.hi) else fixed
  if !s.usesHist h then (.window fixed.1 fixed.2, fixed, false)
  else
    match hist with
    | none =>
      match v.map with
      | some m => (m, used, false)
      | none => (.window fixed.1 fixed.2, fixed, true)
    | some a =>
      let bins := (List.range 4096).map fun b => s.rd (a + 4 * b) 4
      if v.tone % 4 = 1 then
        let pct := s.fld (R.vidTonePct h)
        let t := autoWindow bins (pct % 1024) (nbits pct 16 10) (s.fld (R.vidToneLim h) % 65536)
        let sm := nbits v.tone 8 4
        let l := ((used.1 : Int) + rne (t.1 - used.1) sm).toNat
        let k := ((used.2 : Int) + rne (t.2 - used.2) sm).toNat
        (.window l k, (l, k), false)
      else (.plateau (bins.map fun x => min x (s.fld (R.vidToneLim h) / 65536)), used, false)

/-! ### Compositor -/

/-- q of R207. -/
def blendQ (v : Nat) : Nat := (v + 128 + (v + 128) / 256) / 256
/-- One channel blended (R207). -/
def blend (a l b : Nat) : Nat := blendQ (a * l + (255 - a) * b)
/-- Blend an ARGB colour over RGB. -/
def blendOver (a rgb : Nat) (b : Nat × Nat × Nat) : Nat × Nat × Nat :=
  (blend a (nbits rgb 16 8) b.1, blend a (nbits rgb 8 8) b.2.1, blend a (nbits rgb 0 8) b.2.2)

/-- A marker of the list at an address (R208). -/
def State.markerAt (s : State) (a : Nat) : Marker :=
  let w0 := s.rd a 4
  let w1 := s.rd (a + 4) 4
  { x0 := nbits w0 0 11, y0 := nbits w0 11 11, x1 := nbits w1 0 11, y1 := nbits w1 11 11, color := nbits w0 22 4,
    width := nbits w0 26 2 }

/-- Does a marker's outline cover a pixel? Skipped entries cover none. -/
def Marker.covers (m : Marker) (x y : Nat) : Bool :=
  m.color != 0 && m.width != 0 && m.x0 ≤ m.x1 && m.y0 ≤ m.y1 && m.x0 ≤ x && x ≤ m.x1 && m.y0 ≤ y && y ≤ m.y1 &&
    (x < m.x0 + m.width || m.x1 < x + m.width || y < m.y0 + m.width || m.y1 < y + m.width)

/-- A layer value as the video read port uses it: poisoned data counts as 0 (R220). (DEDUCED, log entry 66) -/
def State.rdLayer (s : State) (a n : Nat) : Nat := if s.ueIn a n then 0 else s.rd a n

/-- Is a layer's data of an active pixel poisoned? -/
def State.layerBad (s : State) (h : Nat) (ls : Layers) (x y : Nat) : Bool :=
  let bad (l : Option (Nat × Nat)) : Bool := (l.map fun p => s.ueIn (p.1 + y * p.2 + x) 1).getD false
  bad ls.l1 || bad ls.l2 || (ls.l3.map fun a => s.ueIn (a + 4 * (y * s.actW h + x)) 4).getD false

/-- The composited colour of an active pixel over a base value (R206 to R208). -/
def State.colour (s : State) (h : Nat) (ls : Layers) (m : ToneMap) (x y v : Nat) : Nat × Nat × Nat :=
  let pal := nbits (s.vidH h).tone 4 3
  let c := (s.reg (0x1A4000 + pal * 0x400 + 4 * toneIdx m v)).toNat
  let p := (nbits c 16 8, nbits c 8 8, nbits c 0 8)
  let p := match ls.l1 with
    | some (a, st) => blendOver (min 255 (s.rdLayer (a + y * st + x) 1 * (s.fld (R.vidL1 h) % 256) / 128)) (s.fld (R.vidL1 h) / 256) p
    | none => p
  let argb (i : Nat) : Nat := s.fld (R.vidL2Color h i)
  let p := match ls.l2 with
    | some (a, st) =>
      let i := s.rdLayer (a + y * st + x) 1 % 16
      if i = 0 then p else blendOver (argb i / 2 ^ 24) (argb i) p
    | none => p
  let p := match ls.l3 with
    | some a => let w := s.rdLayer (a + 4 * (y * s.actW h + x)) 4; blendOver (w / 2 ^ 24) w p
    | none => p
  match (ls.l4.filter fun k => k.covers x y).getLast? with
  | some k => blendOver (argb k.color / 2 ^ 24) (argb k.color) p
  | none => p

/-- The two colour differences and lumas of a pixel pair, UYVY (R211). -/
def yuvPair (a b : Nat × Nat × Nat) : List Nat :=
  let y (p : Nat × Nat × Nat) : Nat := (16 + rne (748 * p.1 + 2516 * p.2.1 + 254 * p.2.2) 12).toNat
  let r := rne (a.1 + b.1) 1
  let g := rne (a.2.1 + b.2.1) 1
  let bl := rne (a.2.2 + b.2.2) 1
  let cb := 128 + rne (-412 * r - 1387 * g + 1799 * bl) 12
  let cr := 128 + rne (1799 * r - 1634 * g - 165 * bl) 12
  [cb.toNat, y a, cr.toNat, y b]

/-- The bytes of a line in a transmitter format from its pixel colours and base values (R211, R212).
(PRESUMED, log entry 24) -/
def lineBytes (fmt : Nat) (cols : List (Nat × Nat × Nat)) (xs : List Nat) : List Nat :=
  match fmt with
  | 1 => cols.flatMap fun p => [p.2.2, p.2.1, p.1]
  | 2 => xs.flatMap fun x => [x % 256, x / 256]
  | _ =>
    let rec go : List (Nat × Nat × Nat) → List Nat
      | a :: b :: t => yuvPair a b ++ go t
      | [a] => (yuvPair a a).take 2
      | [] => []
    go cols

/-- The reads of a line by the video read port, with their errors accounted (R219, R220). (DEDUCED, log entry 66) -/
def State.readLine (s : State) (h slot y : Nat) (ls : Layers) : State :=
  let f := if !s.flag (R.vidHeadCtlInput h) then 2 else if s.fmtOn h 3 then 3 else 4
  let w := s.actW h
  let l8 (l : Option (Nat × Nat)) : List (Nat × Nat) := (l.map fun p => (p.1 + y * p.2, w)).toList
  ([(s.outAddr h f slot y (s.actX0 h), w * fmtWidth f)] ++ l8 ls.l1 ++ l8 ls.l2 ++
    (ls.l3.map fun a => (a + 4 * (y * w), 4 * w)).toList).foldl (fun s r => (s.dramRead 4 r.1 r.2).2.2) s

/-- A line of a frame on the memory path: colours, base values, and whether a read was poisoned; poisoned pixels are
composited as 0 (R220). -/
def State.memLine (s : State) (h slot y : Nat) (ls : Layers) (m : ToneMap) : List (Nat × Nat × Nat) × List Nat × Bool :=
  let px := (List.range (s.actW h)).map fun x =>
    let (v, bad) := s.baseX h slot y (s.actX0 h + x)
    let v := if bad then 0 else v
    (s.colour h ls m x y v, v, bad || s.layerBad h ls x y)
  (px.map (·.1), px.map (·.2.1), px.any (·.2.2))

/-- The address of a display slot (R211). -/
def State.dispAddr (s : State) (h slot : Nat) : Nat :=
  s.base (R.vidDispLo h) (R.vidDispHi h) + slot * (ceilDiv (s.actW h * s.actH h * 2) 4096 * 4096)

/-! ### Memory path (R192, R194, R210) -/

/-- Is L1 dropped from a head's composites, the visible camera being stale (R203)? Its stale bit follows its result alone
(R210). -/
def State.visDrops (s : State) (h : Nat) : Bool := nbits (s.fld R.vidRxStat) 1 1 == 1 && s.fld R.vidRxFusHead == h

/-- The layers of a frame whose own results of the tasks for L1 and L2 are `r1` and `r2`: their content, the stale bits (bit
k - 1 for Lk), and the content that is ready now (R210). -/
def State.layersFor (s : State) (h : Nat) (r1 r2 : Option (Nat × Nat)) : Layers × Nat × Layers :=
  let v := s.vidH h
  let en (k : Nat) : Bool := nbits v.layers k 1 == 1
  let drop (k : Nat) : Bool := nbits v.layers (8 + k) 1 == 1
  let vis := s.visDrops h
  let base := s.base (R.vidL4BaseLo h) (R.vidL4BaseHi h)
  let n := s.fld (R.vidL4Cnt h)
  let ok4 := en 4 && !s.ueIn base (8 * n)
  let list := (List.range n).map fun i => s.markerAt (base + 8 * i)
  let slotSz := ceilDiv (s.actW h * s.actH h * 4) 4096 * 4096
  let l3 := v.l3slot.map fun k => s.base (R.vidL3StageLo h) (R.vidL3StageHi h) + k * slotSz
  let ok3 := l3.isSome && !v.l3stale
  let ready : Layers := { l1 := if r1.isSome then r1 else v.ready.l1, l2 := if r2.isSome then r2 else v.ready.l2,
                          l3 := if ok3 then l3 else v.ready.l3, l4 := if ok4 then list else v.ready.l4 }
  let use1 := if !en 1 || vis || (r1.isNone && drop 1) then none else ready.l1
  let use2 := if !en 2 || (r2.isNone && drop 2) then none else ready.l2
  let use3 := if !en 3 || (!ok3 && drop 3) then none else ready.l3
  let use4 := if !en 4 || (!ok4 && drop 4) then [] else ready.l4
  let bit (c : Bool) (k : Nat) : Nat := if en k && c then 2 ^ (k - 1) else 0
  ({ l1 := use1, l2 := use2, l3 := use3, l4 := use4 },
   bit r1.isNone 1 + bit r2.isNone 2 + bit (!ok3) 3 + bit (!ok4) 4, ready)

/-- Reads of the video read port, with their errors accounted (R219, R220). -/
def State.videoReads (s : State) (l : List (Nat × Nat)) : State := l.foldl (fun s r => (s.dramRead 4 r.1 r.2).2.2) s

/-- At the edge that follows the tick in which a frame's tasks ran, its layers and mapping are settled (R195, R200, R210), and
the memory path takes it where it has display frames (R192). A histogram whose read is poisoned counts as missing; a poisoned
read marks the display frame repaired (R220). (DESIGN CHOICE, log entry 75) -/
def State.frameAtEdge (s : State) (h : Nat) (f : Frame) : State :=
  if !s.flag R.vidCtlEn then s.modFrame h f.no fun g => { g with comp := 3 }
  else
    let own (prog : Nat) := s.resultFor h prog f.no
    let hist := if s.usesHist h then (own 2).map (·.1) else none
    let marks := if nbits (s.vidH h).layers 4 1 = 1 then
      [(s.base (R.vidL4BaseLo h) (R.vidL4BaseHi h), 8 * s.fld (R.vidL4Cnt h))] else []
    let good := hist.filter fun a => !s.ueIn a 16384
    let bad := (hist.any fun a => s.ueIn a 16384) || marks.any fun m => s.ueIn m.1 m.2
    let s := s.videoReads (marks ++ (hist.map fun a => (a, 16384)).toList)
    let (ls, stale, ready) := s.layersFor h (own 7) (own 3)
    let (m, win, missing) := s.mapFor h good
    let en := s.flag (R.vidHeadCtlEn h)
    let tell := missing && !(s.vidH h).histSent && (en || s.vid.inline == some h)
    let s := if tell then s.raise 0x0805 h else s
    let c : Comp := { no := f.no, slot := f.slot, layers := ls, map := m, stale, bad }
    let s := s.modVidH h fun v =>
      { v with ready, readyNo := some f.no, map := some m, lo := win.1, hi := win.2, histSent := v.histSent || tell,
               work := if en then v.work ++ [c] else v.work }
    s.modFrame h f.no fun g => if en then { g with comp := 1, layerStale := stale } else { g with comp := 3 }

/-- The frames of a head whose tasks ran in the tick that ended. -/
def State.framesAtEdge (s : State) (h : Nat) : State :=
  let tick := s.fld R.tickCount
  ((s.head h).frames.filter fun f => f.landed && f.comp == 0 && 2 ≤ (tick + 2 ^ 32 - f.landTick) % 2 ^ 32).foldl
    (fun s f => s.frameAtEdge h f) s

/-- R192: the memory path starts compositing a head's oldest frame; the layers that are not ready for it are told (R210). -/
def memoryPathFrame (h : Nat) (s : State) : State :=
  match (s.vidH h).work with
  | c :: rest =>
    if s.flag R.vidCtlEn && !c.started then
      let s := (List.range 4).foldl (fun s k =>
        if nbits c.stale k 1 = 1 then (if k = 2 then s else s.bump R.tickOverrun).raise 0x0804 h (k + 1) else s) s
      (s.modVidH h fun v => { v with work := { c with started := true } :: rest }).setFld (R.vidHeadStatStale h) c.stale
    else s
  | [] => s

/-- R194: at a commit point every frame that its tick should have finished is late. -/
def State.compLate (s : State) (h : Nat) : State :=
  let s := ((s.vidH h).work.filter fun c => !c.late).foldl (fun s c => (s.bump (R.vidLateCnt h)).raise 0x0801 h c.no) s
  s.modVidH h fun v => { v with work := v.work.map fun c => { c with late := true } }

/-- Is a frame of a head to be sent from the memory path (R196, R212)? One that took the in-line path is not, nor is one of a
head now in-line, whose stream has gone on to later frames. (DEDUCED, log entry 77) -/
def State.sends (s : State) (h no : Nat) : Bool :=
  s.flag R.vidTxCtlEn && s.flag (R.vidHeadCtlTxEn h) && s.vid.inline != some h && !(s.frameOf h no).inl

/-- One row of a head's frame in progress: read, composited and written to its display slot. -/
def State.compRow (s : State) (h : Nat) (c : Comp) : State × Comp :=
  let (cols, xs, bad) := s.memLine h c.slot c.row c.layers c.map
  let w2 := 2 * s.actW h
  let line := if s.sends h c.no then [lineBytes (s.fld (R.vidHeadCtlTxFmt h)) cols xs] else []
  ((s.readLine h c.slot c.row c.layers).dramWrite 5 (s.dispAddr h c.slot + c.row * w2)
     ((lineBytes 0 cols xs).map (BitVec.ofNat 8 ·)),
   { c with row := c.row + 1, bad := c.bad || bad, lines := c.lines ++ line })

/-- A slice: the next rows, at most 16, of a head's frame in progress (R192). -/
def State.compSlice (s : State) (h : Nat) : State :=
  match (s.vidH h).work with
  | [] => s
  | c :: rest =>
    let p := (List.range (min 16 (s.actH h - c.row))).foldl (fun (p : State × Comp) _ => p.1.compRow h p.2) (s, c)
    (p.1.modVidH h fun v => { v with work := p.2 :: rest }).modVid fun v => { v with turn := h }

/-- Has a head a frame in progress with rows to composite? -/
def State.sliceDue (s : State) (h : Nat) : Bool :=
  match (s.vidH h).work with
  | c :: _ => c.started && decide (c.row < s.actH h)
  | [] => false

/-- The memory path takes its heads round robin, a slice each, until the frame of one is composited (R192). -/
def State.runPath (h : Nat) : Nat → State → State
  | 0, s => s
  | n + 1, s =>
    if s.sliceDue h then
      match ((List.range 4).map fun k => (s.vid.turn + 1 + k) % 4).find? s.sliceDue with
      | some k => State.runPath h n (s.compSlice k)
      | none => s
    else s

/-! ### Transmitter (R212) -/

/-- Data identifier of a head's packets: virtual channel and data type. -/
def State.diOf (s : State) (h dt : Nat) : Nat := (s.fld R.vidTxCtlVcBase + h) % 16 * 64 + dt
def dtOf (fmt : Nat) : Nat := if fmt = 1 then 0x24 else if fmt = 2 then 0x2E else 0x1E
/-- A short packet carrying a 16-bit value. -/
def State.shortPkt (s : State) (h dt v : Nat) : Pkt := { di := s.diOf h dt, data := [v % 256, v / 256 % 256] }
/-- The skew calibration before a frame start, above 1.5 Gb/s (R212). -/
def State.skewPkts (s : State) : List Pkt := if 1500 < s.fld R.vidTxRate then [{ di := 0, data := [], skew := true }] else []
/-- Does the transmitter's clock lane run, inside a packet or between packets (R212)? -/
def State.txClock (s : State) (inPacket : Bool) : Bool :=
  s.alive && s.flag R.vidCtlEn && s.flag R.vidTxCtlEn && (s.flag R.vidTxCtlContClk || inPacket)
/-- Frame start or end, with (FRAME_NO mod 65,535) + 1. -/
def State.framePkt (s : State) (h dt no : Nat) : Pkt := s.shortPkt h dt (no % 65535 + 1)
/-- The packets of a line. -/
def State.linePkts (s : State) (h y : Nat) (data : List Nat) : List Pkt :=
  let fmt := s.fld (R.vidHeadCtlTxFmt h)
  let l : Pkt := { di := s.diOf h (dtOf fmt), data }
  if s.flag R.vidTxCtlLsle then [s.shortPkt h 2 (y + 1), l, s.shortPkt h 3 (y + 1)] else [l]
/-- The embedded metadata line: the frame's 64-byte header. -/
def State.metaPkts (s : State) (h : Nat) (f : Frame) (slot src : Nat) : List Pkt :=
  if s.flag (R.vidHeadCtlMeta h) then
    [{ di := s.diOf h 0x12,
       data := ((s.headerWords h 6 0 slot f src 0).map fun w => (leBytes 4 w).map (·.toNat)).flatten }]
  else []

/-- The packets of a composited frame. -/
def State.txPkts (s : State) (h : Nat) (f : Frame) (c : Comp) : List Pkt :=
  s.skewPkts ++ [s.framePkt h 0 c.no] ++ s.metaPkts h f c.slot c.no ++ (c.lines.zipIdx.flatMap fun l => s.linePkts h l.2 l.1) ++
    [s.framePkt h 1 c.no]

/-- R192, R211, R212: the composited display frame is complete: it lies in its slot, is offered, and waits for the
transmitter. -/
def compositeDone (h : Nat) (s : State) : State :=
  match (s.vidH h).work with
  | [] => s
  | c :: _ =>
    if !c.started then s
    else
      let s := State.runPath h 8192 s
      match (s.vidH h).work with
      | [] => s
      | c :: rest =>
        let s := s.modFrame h c.no fun g => { g with comp := 2 }
        let f := s.frameOf h c.no
        let f := { f with repaired := f.repaired || c.bad }
        let s := s.offer h 6 0 f c.slot (s.dispAddr h c.slot) (2 * s.actW h * s.actH h) c.no 0
        let pk := if s.sends h c.no && c.lines.length == s.actH h then [s.txPkts h f c] else []
        s.modVidH h fun v => { v with work := rest, txq := v.txq ++ pk }

/-- R212: the transmitter sends the next composited frame of a head. -/
def txFrame (h : Nat) (s : State) : State :=
  match (s.vidH h).txq with
  | [] => s
  | pk :: rest =>
    let s := s.modVidH h fun v => { v with txq := rest }
    if s.flag R.vidCtlEn && s.flag R.vidTxCtlEn && s.flag (R.vidHeadCtlTxEn h) && s.vid.inline != some h then
      s.modVid fun v => { v with tx := pk }
    else s

/-! ### In-line path (R195 to R197) -/

/-- At a frame start of the in-line head its layers and mapping are those ready at the edge (R195); the number of the frame
they belong to is free while no earlier frame gave any. (DESIGN CHOICE, log entry 75) -/
def State.inlineFrame (s : State) (h no : Nat) : State :=
  if s.vid.inline = some h && s.flag R.vidCtlEn then
    let s := s.fresh
    let v := s.vidH h
    let en (k : Nat) : Bool := nbits v.layers k 1 == 1
    let fixed : ToneMap := .window (v.win % 65536) (v.win / 65536)
    let x : InFrame :=
      { head := h, no, layerNo := v.readyNo.getD (Config.freeVal s.freeCtr % 2 ^ 32),
        layers := { l1 := if en 1 && !s.visDrops h then v.ready.l1 else none, l2 := if en 2 then v.ready.l2 else none,
                    l4 := if en 4 then v.ready.l4 else [] },
        map := if s.usesHist h then v.map.getD fixed else fixed }
    (s.modFrame h no fun g => { g with inl := true }).modVid fun v => { v with inls := v.inls ++ [x] }
  else s

/-- The packets of line y of an in-line frame, with the frame start before the first and the frame end after the last. -/
def State.inlinePkts (s : State) (x : InFrame) (y : Nat) (data : List Nat) : List Pkt :=
  let f := s.frameOf x.head x.no
  (if y = 0 then s.skewPkts ++ [s.framePkt x.head 0 x.no] ++ s.metaPkts x.head f f.slot x.layerNo else [])
    ++ s.linePkts x.head y data ++ (if y + 1 = s.actH x.head then [s.framePkt x.head 1 x.no] else [])

/-- Send a line of an in-line frame; `tx` shows the packets of the frame last begun. -/
def State.inlineSend (s : State) (x : InFrame) (data : List Nat) : State :=
  let pk := s.inlinePkts x x.next data
  let first := x.next = 0 && s.vid.inls.all (fun z => z.next == 0)
  let s := if s.flag R.vidTxCtlEn && s.flag (R.vidHeadCtlTxEn x.head) then
      s.modVid fun v => { v with tx := if first then pk else v.tx ++ pk } else s
  let step (z : InFrame) : InFrame := if z.head == x.head && z.no == x.no then { z with next := z.next + 1, rows := z.rows.drop 1 } else z
  let inls := (s.vid.inls.map step).filter fun z => decide (z.next < s.actH z.head)
  s.modVid fun v => { v with inls }

/-- The next line handed over of an in-line frame is composited and sent. -/
def State.inlineComp (s : State) (x : InFrame) : State :=
  let h := x.head
  let y := x.next
  let xs := x.rows.headD []
  let cols := xs.zipIdx.map fun (v, i) => s.colour h x.layers x.map i y v
  let l8 (l : Option (Nat × Nat)) : List (Nat × Nat) := (l.map fun p => (p.1 + y * p.2, s.actW h)).toList
  let data := lineBytes (s.fld (R.vidHeadCtlTxFmt h)) cols xs
  (s.videoReads (l8 x.layers.l1 ++ l8 x.layers.l2)).inlineSend x data

/-- R195: a line of the in-line head arrives and is composited for the transmitter; of two open frames the older goes first. -/
def inlineLine (s : State) : State :=
  match s.vid.inls.find? fun x => !x.rows.isEmpty with
  | some x => s.inlineComp x
  | none => s

/-- The lines handed over are sent, and then zero pixel values to the end of the frame (R197): black in YUV422 and RGB888, 0 in
RAW16. -/
def State.inlineEnd (h : Nat) : Nat → State → State
  | 0, s => s
  | n + 1, s =>
    match s.vid.inls.find? (·.head == h) with
    | none => s
    | some x =>
      let zero := lineBytes (s.fld (R.vidHeadCtlTxFmt h)) (List.replicate (s.actW h) (0, 0, 0)) (List.replicate (s.actW h) 0)
      State.inlineEnd h n (if x.rows.isEmpty then s.inlineSend x zero else s.inlineComp x)

/-- R197: the in-line head is lost; its open frames end. While a change is pending no other head follows it (R214). -/
def State.inlineLost (s : State) (h : Nat) : State :=
  let s := State.inlineEnd h ((s.vid.inls.filter (·.head == h)).length * s.actH h) s
  if s.vid.inline = some h then
    let wait := s.vid.pend.isNone && !(s.reqs.any (·.kind == .inlineChange))
    (s.setFld (R.vidHeadStatInline h) 0).modVid fun v => { v with inline := none, lost := if wait then 1 else 0 }
  else s

/-- Put a head on the in-line path, or none. -/
def State.setInline (s : State) (h : Option Nat) : State :=
  let s := (List.range 4).foldl (fun s k => s.setFld (R.vidHeadStatInline k) (if h = some k then 1 else 0)) s
  s.modVid fun v => { v with inline := h, lost := 0 }

/-- R197: at the first tick whose commit point follows a loss the lowest running head becomes in-line; where none runs, or
LOST_FALLBACK is 0, the path stays empty until the host names a head. -/
def inlineFallback (s : State) : State :=
  if s.vid.lost = 3 then
    match (List.range 4).find? (fun h => s.hState h == 4), s.flag R.vidCtlLostFallback with
    | some h, true => ((s.setInline (some h)).setFld R.vidCtlInline h).raise 0x0802 h
    | _, _ => s.modVid fun v => { v with lost := 0 }
  else s

/-- R196: a change of in-line head is requested. -/
def State.inlineReq (s : State) (h : Nat) (en : Bool) (cmd : Option Nat) : State :=
  s.request { kind := .inlineChange, obj := 0, p0 := h, p1 := if en then 1 else 0, cmd }

/-- At the tick edge a committed in-line change becomes the pending one (R196, R65). -/
def State.inlineAtEdge (s : State) : State :=
  match s.committedReq .inlineChange 0 with
  | none => s
  | some q =>
    let s := s.dropReq q
    let s := match s.vid.pend with
      | some (_, _, c) => s.finishO c 2 0 0 0
      | none => s
    if q.p1 = 1 && s.hState q.p0 != 4 && s.reqs.any (fun r => r.committed && r.kind == .headDetach && r.obj == q.p0) then
      s.finishO q.cmd 3 0 0 0
    else s.modVid fun v => { v with pend := some (q.p0, q.p1 == 1, q.cmd) }

/-- Is a frame of a head in progress, begun at an earlier edge and its frame period not over (R196)?
(DEDUCED, log entry 77) -/
def State.inPeriod (s : State) (h : Nat) : Bool :=
  let x := s.head h
  match x.edges.head? with
  | some e => decide (e.1 < s.tick.edge) && !x.due && x.frames.any fun f => f.edge == e.1 && !f.truncated
  | none => false

/-- Frames of the in-line head that this edge has started and whose first sample is still to come take the memory path. -/
def State.inlineUndo (s : State) : State :=
  let at' (x : InFrame) : Bool := (s.frameOf x.head x.no).edge == s.tick.edge && x.next == 0 && x.rows.isEmpty
  let back := s.vid.inls.filter at'
  let s := back.foldl (fun s x => s.modFrame x.head x.no fun g => { g with inl := false }) s
  s.modVid fun v => { v with inls := v.inls.filter fun x => !back.contains x }

/-- R196: at the first edge at which the new head starts a frame and the old has none in progress, the change applies.
(DEDUCED, log entry 77) -/
def inlineChangeApply (s : State) : State :=
  match s.vid.pend with
  | none => s
  | some (h, en, cmd) =>
    let starts := !en || ((s.head h).due && s.hState h == 4)
    let oldBusy := (s.vid.inline.map s.inPeriod).getD false
    if starts && !oldBusy then
      let s := s.inlineUndo.setInline (if en then some h else none)
      (s.modVid fun v => { v with pend := none }).finishO cmd 0 0 (s.fld R.tickCount) 0
    else s

/-! ### Layer commits and tone at the edge -/

/-- The staging slot that is not in use (R209). -/
def VidHead.altSlot (v : VidHead) : Nat := if v.l3slot = some 0 then 1 else 0

/-- R209, R210: at the edge a committed L3 buffer takes effect if its copy was complete at the commit point; otherwise the
layer is not ready in the tick. A commit that waited for the copy to take effect starts its own.
(DESIGN CHOICE, log entry 65) -/
def State.l3AtEdge (s : State) (h tick : Nat) : State :=
  let v := s.vidH h
  match s.committedReq .layer3 h with
  | none => s.modVidH h fun v => { v with l3stale := false }
  | some q =>
    match v.l3copy with
    | some (slot, _, true) =>
      if v.l3late then s.modVidH h fun v => { v with l3stale := true }
      else
        let s := s.dropReq q
        let next := s.reqs.find? fun r => r.kind == .layer3 && r.obj == h
        let s := s.modVidH h fun v =>
          let v := { v with l3slot := some slot, l3copy := none, l3stale := false }
          { v with l3copy := next.map fun r => (v.altSlot, r.p0, false) }
        s.finishO q.cmd 0 0 tick 0
    | _ => s.modVidH h fun v => { v with l3stale := true }

/-- The part of a commit point that is the video pipeline's: frames that are late (R194), a pending in-line change (R31), the
words of tone, window and layers for the edge to come (R29), and L3 copies that are not complete (R210).
(DEDUCED, log entry 77) -/
def State.vidAtCommit (s : State) : State :=
  let s := (List.range 4).foldl (fun s h => s.compLate h) s
  let s := match s.vid.pend with
    | some p => s.overrun 4 p.1
    | none => s
  s.modVid fun v => { v with lost := if v.lost = 1 then 2 else v.lost }

/-- The same, once the requests of the commit point are bound. -/
def State.vidBind (s : State) : State :=
  (List.range 4).foldl (fun s h =>
    let reg (o : Nat) : Nat := (s.reg (0x1A0000 + 0x100 * h + o)).toNat
    let late := (s.committedReq .layer3 h).isSome && ((s.vidH h).l3copy.map (·.2.2)) == some false
    let s := s.modVidH h fun v => { v with next := (reg 0x04, reg 0x08, reg 0x14), l3late := late }
    if late then s.overrun 3 h else s) s

/-- The part of a tick edge that is the video pipeline's: tone, layers and palette (R201, R206), an L3 commit, the frames whose
tasks ran in the tick that ended, the in-line change, and the age of the visible frame. -/
def State.vidAtEdge (s : State) : State :=
  let tick := s.fld R.tickCount
  let s := (List.range 4).foldl (fun s h =>
    let s := s.modVidH h fun v => { v with tone := v.next.1, win := v.next.2.1, layers := v.next.2.2 }
    let s := (s.reqs.filter fun q => q.committed && (q.kind == .tone || q.kind == .layers) && q.obj == h).foldl
      (fun s q => (s.dropReq q).finishO q.cmd 0 0 tick 0) s
    (s.l3AtEdge h tick).framesAtEdge h) s
  let s := s.inlineAtEdge
  s.modVid fun v => { v with visAge := v.visAge + 1, lumaEdge := v.luma, lost := if v.lost = 2 then 3 else v.lost }

/-- The pipeline stops: what is on either path, or waits for the transmitter, is dropped; each stream resumes with a later
frame (R214). VID_CTL.EN = 0 does the same. (DESIGN CHOICE, log entry 75) -/
def State.vidStop (s : State) : State :=
  let s := (List.range 4).foldl (fun s h =>
    (s.modVidH h fun v => { v with work := [], txq := [] }).modHead h fun x =>
      { x with frames := x.frames.map fun f => if f.comp < 2 then { f with comp := 3 } else f }) s
  s.modVid fun v => { v with inls := [] }

/-- An earlier commit of the head's L3 whose tick of effect is settled and whose copy is complete: it takes effect at the
next edge, and its slot is not free before. -/
def State.l3Waits (s : State) (h : Nat) : Bool :=
  (s.committedReq .layer3 h).isSome && ((s.vidH h).l3copy.map (·.2.2)).getD false

/-- R209: a commit of a host buffer: the copy into the alternate staging slot begins. An earlier commit whose copy missed
its commit point is superseded (R30); one whose copy waits for the edge keeps its slot until then.
(DESIGN CHOICE, log entry 65) -/
def State.l3Commit (s : State) (h addr : Nat) (cmd : Option Nat) : State :=
  if s.l3Waits h then s.request { kind := .layer3, obj := h, p0 := addr, cmd }
  else
    let s := match s.committedReq .layer3 h with
      | some q => (s.dropReq q).finishO q.cmd 2 0 0 0
      | none => s
    let s := s.request { kind := .layer3, obj := h, p0 := addr, cmd }
    s.modVidH h fun v => { v with l3copy := some (v.altSlot, addr, false), l3late := false }

/-- The commits of a head's L3 that its detach took away leave no copy; one that remains starts its own. -/
def State.l3Cancel (s : State) (h : Nat) : State :=
  let next := s.reqs.find? fun r => r.kind == .layer3 && r.obj == h
  s.modVidH h fun v => { v with l3copy := next.map fun r => (v.altSlot, r.p0, false), l3late := false }

/-- R209: the copy of the host buffer into the staging slot completes; without a link it cannot. -/
def l3CopyDone (h : Nat) (s : State) : State :=
  match (s.vidH h).l3copy with
  | some (slot, addr, false) =>
    if isHost addr && !s.host.linkUp then s
    else
    let sz := s.actW h * s.actH h * 4
    let dst := s.base (R.vidL3StageLo h) (R.vidL3StageHi h) + slot * (ceilDiv sz 4096 * 4096)
    let s := if isHost addr then s else (s.dramRead 7 addr sz).2.2
    let bs := s.withPoison addr (s.bytes addr sz)
    let s := (s.dramWrite 7 dst (bs.map (·.1))).markPoison dst bs
    let s := s.modVidH h fun v => { v with l3copy := some (slot, addr, true) }
    if s.reqs.any (fun q => q.kind == .layer3 && q.obj == h) then s else s.modVidH h fun v => { v with l3slot := some slot, l3copy := none }
  | _ => s

/-- A head start: no earlier mapping and no ready layers (R200, R210); VID_HEAD_STAT shows whether it is in-line. -/
def State.vidHeadStart (s : State) (h : Nat) : State :=
  (s.modVidH h fun v =>
    { v with map := none, histSent := false, ready := {}, readyNo := none, work := [], txq := [] }).setFlag (R.vidHeadStatInline h)
      (s.vid.inline == some h)

/-! ### Visible camera (R202 to R205) -/

/-- Bits of a sample of each data type. -/
def rxBits (dt : Nat) : Nat := if dt = 0 then 8 else if dt = 1 then 10 else if dt = 2 then 12 else 16

/-- The samples of a CSI-2 RAW line (MIPI packing): RAW8 and RAW16 as they are, RAW10 and RAW12 in groups. -/
def rxSamples (dt : Nat) : List Nat → List Nat
  | l =>
    match dt with
    | 0 => l
    | 1 =>
      let rec g10 : Nat → List Nat → List Nat
        | n + 1, a :: b :: c :: d :: e :: t =>
          (a * 4 + e % 4) :: (b * 4 + e / 4 % 4) :: (c * 4 + e / 16 % 4) :: (d * 4 + e / 64 % 4) :: g10 n t
        | _, _ => []
      g10 l.length l
    | 2 =>
      let rec g12 : Nat → List Nat → List Nat
        | n + 1, a :: b :: c :: t => (a * 16 + c % 16) :: (b * 16 + c / 16 % 16) :: g12 n t
        | _, _ => []
      g12 l.length l
    | _ =>
      let rec g16 : Nat → List Nat → List Nat
        | n + 1, a :: b :: t => (a + 256 * b) :: g16 n t
        | _, _ => []
      g16 l.length l

/-- R202, R203: a CSI-2 packet is received: data type and channel, header state (0 good, 1 corrected, 2 dropped), payload and the
result of its CRC check. A packet dropped between frames may have been the next one's start: lines or a frame end that follow it
with no frame start belong to a frame that contains it. -/
def rxPacket (dt vc ecc : Nat) (crcOk : Bool) (data : List Nat) (s : State) : State :=
  if !(s.flag R.vidCtlEn && s.flag R.vidRxCtlEn) then s
  else
    let s := s.setFld R.vidRxStat (s.fld R.vidRxStat ||| 1)
    let bad (s : State) : State := s.modVid fun v => { v with rx := v.rx.map fun f => { f with bad := true } }
    if ecc = 2 then (s.bump R.vidRxDrop).modVid fun v =>
      { v with rx := some (match v.rx with
        | some f => { f with bad := true }
        | none => { bad := true, doubt := true }) }
    else
      let s := if ecc = 1 then s.bump R.vidRxEcc else s
      if vc != s.fld R.vidRxCtlVc then s
      else if dt = 0 then
        -- a frame start: an open frame lacks its frame end and is discarded
        let s := if s.vid.rx.any (!·.doubt) then s.bump R.vidRxDiscard else s
        s.modVid fun v => { v with rx := some {}, rxM := (List.range 6).map fun k => s.fld (R.vidRxM k),
                                   rxA := (List.range 6).map fun k => s.fld (R.vidFusAff k) }
      else if dt = 1 then s.modVid fun v => { v with rx := v.rx.map fun f => { f with ended := true, doubt := false } }
      else if dt = [0x2A, 0x2B, 0x2C, 0x2E].getD (s.fld R.vidRxCtlDt) 0 then
        let s := if crcOk then s else bad (s.bump R.vidRxCrc)
        let l := rxSamples (s.fld R.vidRxCtlDt) data
        s.modVid fun v => { v with rx := v.rx.map fun f => { f with lines := f.lines ++ [l], doubt := false } }
      else s

/-- Colour of each position of a reference cell: 0 to 3 for c0 to c3 (R204). -/
def cellOf (pattern : Nat) : Nat × List Nat :=
  match pattern with
  | 0 | 1 => (2, [0, 1, 1, 2])
  | 2 => (2, [0, 1, 2, 3])
  | 3 => (2, [0, 1, 3, 2])
  | _ => (4, [2, 1, 0, 1, 1, 3, 1, 3, 0, 1, 2, 1, 1, 3, 1, 3])

/-- The visible frame being processed: its geometry, samples and settings (R204). -/
structure VisCfg where
  w : Nat
  hgt : Nat
  lines : List (List Nat)
  pattern : Nat
  ph : Nat
  dt : Nat
  bl : List Nat
  m : List Nat
  deriving DecidableEq, Repr

/-- The colour channel of a position. -/
def VisCfg.chan (v : VisCfg) (x y : Nat) : Nat :=
  let (w, cell) := cellOf v.pattern
  cell.getD ((v.ph / w + y) % w * w + (v.ph % w + x) % w) 0

/-- A sample scaled to 16 bits with its black level taken off. -/
def VisCfg.sample (v : VisCfg) (x y : Nat) : Nat :=
  let raw := (v.lines.getD y []).getD x 0
  raw * 2 ^ (16 - rxBits v.dt) - v.bl.getD (v.chan x y) 0

/-- A coordinate mirrored at the frame edge. -/
def mirror (n : Nat) (x : Int) : Nat :=
  if x < 0 then (-x).toNat else if (n : Int) ≤ x then (2 * (n : Int) - 2 - x).toNat else x.toNat

/-- A channel at a pixel: its own sample, or the mean of the nearest samples of the channel in the window. -/
def VisCfg.chanAt (v : VisCfg) (c x y : Nat) : Nat :=
  if v.chan x y = c then v.sample x y
  else
    let r : Nat := if v.pattern = 4 then 2 else 1
    let near := (List.range (2 * r + 1)).flatMap fun (i : Nat) => (List.range (2 * r + 1)).filterMap fun (j : Nat) =>
      let dx : Int := (i : Int) - r
      let dy : Int := (j : Int) - r
      let px := mirror v.w (x + dx)
      let py := mirror v.hgt (y + dy)
      if v.chan px py = c then some ((dx * dx + dy * dy).toNat, v.sample px py) else none
    match near with
    | [] => 0
    | p :: t =>
      let best := t.foldl (fun a q => min a q.1) p.1
      let l := (near.filter fun q => q.1 == best).map (·.2)
      (rdiv l.sum l.length).toNat

/-- The colour matrix (R204): row-major Q4.12 coefficients, two to a word. -/
def VisCfg.rgb (v : VisCfg) (x y : Nat) : List Nat :=
  let used := if v.pattern ≤ 1 then 3 else 4
  let cs := (List.range 4).map fun c => if c < used then (v.chanAt c x y : Int) else 0
  (List.range 3).map fun i =>
    let coef (j : Nat) : Int := sext 16 (nbits (v.m.getD ((4 * i + j) / 2) 0) (16 * ((4 * i + j) % 2)) 16)
    (clampI 0 65535 (rne (((List.range 4).map fun j => coef j * cs.getD j 0).sum) 12)).toNat

/-- The luma of a visible pixel (R205). -/
def VisCfg.luma (v : VisCfg) (x y : Nat) : Nat :=
  match v.rgb x y with
  | [r, g, b] => min 255 (rne (871 * r + 2929 * g + 296 * b) 20).toNat
  | _ => 0

/-- Luma at a thermal pixel: bilinear interpolation at the affine position in Q12.20; 0 outside the visible frame. The
rounding of the interpolated value is not given and is free (R205). -/
def VisCfg.fused (v : VisCfg) (a : List Nat) (x y : Nat) : Nat :=
  let k (i : Nat) : Int := sext 32 (a.getD i 0)
  let xv := k 0 * x + k 1 * y + k 2
  let yv := k 3 * x + k 4 * y + k 5
  let one : Int := 2 ^ 20
  if xv < 0 || yv < 0 || ((v.w : Int) - 1) * one < xv || ((v.hgt : Int) - 1) * one < yv then 0
  else
    let x0 := (xv / one).toNat
    let y0 := (yv / one).toNat
    let fx := xv % one
    let fy := yv % one
    let at' (i j : Nat) : Int := v.luma (min (v.w - 1) i) (min (v.hgt - 1) j)
    let top := at' x0 y0 * (one - fx) + at' (x0 + 1) y0 * fx
    let bot := at' x0 (y0 + 1) * (one - fx) + at' (x0 + 1) (y0 + 1) * fx
    (freeDiv (top * (one - fy) + bot * fy) (one * one)).toNat

/-- R203 to R205: a visible frame ends: it is discarded whole, or processed into the next luma buffer. A dropped packet alone is
no frame. -/
def rxFrameEnd (s : State) : State :=
  match s.vid.rx with
  | none => s
  | some f =>
    if f.doubt then s else
    let w := s.fld R.vidRxSize % 8192
    let hgt := s.fld R.vidRxSize / 65536
    let s := s.modVid fun v => { v with rx := none }
    if f.bad || !f.ended || f.lines.length != hgt then s.bump R.vidRxDiscard
    else
      let h := s.fld R.vidRxFusHead
      let cfg : VisCfg := { w, hgt, lines := f.lines, pattern := s.fld R.vidRxCtlPattern, ph := s.fld R.vidRxCtlPh,
                            dt := s.fld R.vidRxCtlDt, m := s.vid.rxM,
                            bl := [s.fld R.vidRxBl01 % 65536, s.fld R.vidRxBl01 / 65536, s.fld R.vidRxBl23 % 65536,
                                   s.fld R.vidRxBl23 / 65536] }
      let aff := s.vid.rxA
      let n := if s.vid.lumaAny then (s.vid.luma + 1) % 3 else s.vid.luma
      -- the buffer the tasks read in this tick is not rewritten (R214)
      let n := if s.vid.lumaAny && n == s.vid.lumaEdge then (n + 1) % 3 else n
      let base := s.base R.vidLumaLo R.vidLumaHi + n * (s.actW h * s.actH h)
      let s := (List.range (s.actH h)).foldl (fun s y =>
        s.dramWrite 5 (base + y * s.actW h)
          ((List.range (s.actW h)).map fun x => BitVec.ofNat 8 (cfg.fused aff x y))) s
      let s := s.setFld R.vidRxStat (s.fld R.vidRxStat % 2)
      s.modVid fun v => { v with luma := n, lumaAny := true, visAge := 0 }

/-- R203: no visible frame for TIMEOUT ticks. -/
def visibleTimeout (s : State) : State :=
  if s.flag R.vidRxCtlEn && s.fld R.vidRxFusTimeout ≤ s.vid.visAge && s.fld R.vidRxStat < 2 then
    (s.setFld R.vidRxStat (s.fld R.vidRxStat + 2)).raise 0x0803 (s.fld R.vidRxFusHead)
  else s

/-! ### Register writes with an action of their own -/

/-- Does naming an in-line head ask for a change (R196, R197)? A new name does, and so does the old one where that head is not
in-line and no change to it waits. -/
def State.inlineAsks (s : State) (h : Nat) (en : Bool) : Bool :=
  (s.fld R.vidCtlInline, s.flag R.vidCtlInlineEn) != (h, en) ||
    (s.vid.inline != (if en then some h else none) && s.vid.pend.isNone && !s.reqs.any (·.kind == .inlineChange))

/-- R196: a write of VID_CTL.INLINE and INLINE_EN; a change requests an in-line change. -/
def vidInlineWrite (h : Nat) (en : Bool) (s : State) : State :=
  let asks := s.inlineAsks h en
  let s := (s.setFld R.vidCtlInline h).setFlag R.vidCtlInlineEn en
  if asks then s.inlineReq h en none else s

/-- The checks of a VID_HEAD_CTL word in the registers as written (R193, R198, R199, R213). -/
def State.vidHeadCtlOk (s : State) (h : Nat) : Bool :=
  s.fld (R.vidHeadCtlTxFmt h) != 3 && (s.fld (R.vidHeadCtlInput h) == 0 || s.fld (R.vidToneMode h) == 0) &&
    (!s.flag (R.vidHeadCtlEn h) || s.vidInputOk h) && s.vidLoadOk && s.txLoadOk

/-- R5, R193: a write of VID_HEAD_CTL: its checks, and the loads it gives. An unchanged word is no write, and EN alone may
always be cleared. -/
def vidHeadCtlWrite (h w : Nat) (s : State) : State :=
  let o := 0x1A0000 + 0x100 * h
  let old := (s.reg o).toNat
  let w := w % 64
  let s' := s.setReg o (BitVec.ofNat 32 w)
  if old = w then s
  else if nbits old 0 1 = 1 && old / 2 != w / 2 then s.refuse o
  else if nbits old 0 1 = 1 || s'.vidHeadCtlOk h then s'.showLoads
  else s.refuse o

/-- R201: a palette entry is written, unless a running head with display frames selects the palette. -/
def paletteWrite (p i v : Nat) (s : State) : State :=
  let o := 0x1A4000 + p * 0x400 + 4 * i
  let used (h : Nat) : Bool := s.hState h == 4 && s.flag (R.vidHeadCtlEn h) &&
    (s.fld (R.vidTonePal h) == p || nbits (s.vidH h).tone 4 3 == p)
  if (List.range 4).any used then s.refuse o else s.setReg o (BitVec.ofNat 32 v)

/-- R209: a write of VID_L3_HI commits the host buffer; a host address or one wholly in DRAM is allowed. -/
def l3HiWrite (h hi : Nat) (s : State) : State :=
  let lo := s.fld (R.vidL3Lo h)
  let a := lo + 2 ^ 32 * hi
  if hi < 2 ^ 31 && !inDram a (s.actW h * s.actH h * 4) then
    (s.setBase (R.vidL3Lo h) (R.vidL3Hi h) (s.base (R.vidL3Lo h) (R.vidL3Hi h))).refuse (0x1A0020 + 0x100 * h)
  else (s.setBase (R.vidL3Lo h) (R.vidL3Hi h) a).l3Commit h a none

/-! ### The commands -/

/-- MEMORY_PATH_FRAME (R192). -/
def execMemoryPathFrame (h : Fin 4) (s : State) := ok (whenAlive (memoryPathFrame h)) s
/-- COMPOSITE_DONE (R192). -/
def execCompositeDone (h : Fin 4) (s : State) := ok (whenAlive (compositeDone h)) s
/-- INLINE_LINE (R195). -/
def execInlineLine (s : State) := ok (whenAlive inlineLine) s
/-- VID_INLINE_WRITE (R196). -/
def execVidInlineWrite (h : Fin 4) (en : Bool) (s : State) := ok (whenReg R.vidCtlInline.off (vidInlineWrite h en)) s
/-- INLINE_CHANGE_APPLY (R196). -/
def execInlineChangeApply (s : State) := ok (whenAlive inlineChangeApply) s
/-- INLINE_FALLBACK (R197). -/
def execInlineFallback (s : State) := ok (whenAlive inlineFallback) s
/-- VID_HEAD_CTL_WRITE (R193). -/
def execVidHeadCtlWrite (h : Fin 4) (w : BitVec 32) (s : State) := ok (whenReg (R.vidHeadCtlEn h).off (vidHeadCtlWrite h w.toNat)) s
/-- PALETTE_WRITE (R201). -/
def execPaletteWrite (p : Fin 8) (i : Fin 256) (v : BitVec 32) (s : State) := ok (whenReg (0x1A4000 + 0x400 * p + 4 * i) (paletteWrite p i v.toNat)) s
/-- RX_PACKET (R202). -/
def execRxPacket (dt vc ecc : Nat) (crcOk : Bool) (data : List Nat) (s : State) :=
  ok (whenAlive (rxPacket dt vc ecc crcOk data)) s
/-- RX_FRAME_END (R203). -/
def execRxFrameEnd (s : State) := ok (whenAlive rxFrameEnd) s
/-- VISIBLE_TIMEOUT (R203). -/
def execVisibleTimeout (s : State) := ok (whenAlive visibleTimeout) s
/-- L3_COMMIT (R209). -/
def execL3Commit (h : Fin 4) (hi : BitVec 32) (s : State) := ok (whenReg (R.vidL3Hi h).off (l3HiWrite h hi.toNat)) s
/-- L3_COPY_DONE (R209). -/
def execL3CopyDone (h : Fin 4) (s : State) := ok (whenAlive (l3CopyDone h)) s
/-- TX_FRAME (R212). -/
def execTxFrame (h : Fin 4) (s : State) := ok (whenAlive (txFrame h)) s

end Sys2Proof.Machine
end

