-- ==== Sys2Proof/Machine/HlBase.lean ====
section
/-!
DEFINITION. Head-link queues as the head ports see them: start, stop and the waits of their entries (R305 to R307).
-/
namespace Sys2Proof.Machine

def State.hl (s : State) (n : Nat) : Hl := tget (fun _ => {}) s.hls n
def State.setHl (s : State) (n : Nat) (x : Hl) : State := { s with hls := tset (fun _ => {}) n x s.hls }
def State.modHl (s : State) (n : Nat) (f : Hl → Hl) : State := s.setHl n (f (s.hl n))

/-- The head is powering, idle, running or draining (R306 cause 3). -/
def State.hlHeadOk (s : State) (n : Nat) : Bool := 2 ≤ s.hState n && s.hState n ≤ 5

/-- A queue stops (R306, R307): its cause and entry are shown, the command completes with a status. -/
def State.hlStop (s : State) (n cause status : Nat) : State :=
  let x := s.hl n
  if !x.run then s
  else
    let s := ((s.setFld (R.spiHlStatState n) 3).setFld (R.spiHlStatCause n) cause).setFld (R.spiHlStatEntry n) x.idx
    let s := s.raise 0x0F02 n cause x.idx
    let s := s.modHl n fun x => { x with run := false, cmd := none }
    let s := s.finishO x.cmd status (if status = 1 then cause else 0) x.idx 0
    -- the attach queue: the attach ends refused, the head stays idle (R307)
    let s := if x.attach then
        let s := s.finishO (s.head n).attachCmd 1 2 0 0
        s.modHead n fun h => { h with attach := 0, attachCmd := none }
      else s
    { s with reqs := s.reqs.filter fun q => !(q.kind == .hlQueue && q.obj == n) }

/-- A queue starts: at once, or bound to a tick; a second one completes busy (R305). Of a queue that was stopped only the release
of its select comes first. -/
def State.hlStart (s : State) (n addr cnt : Nat) (atTick attach : Bool) (cmd : Option Nat) : State :=
  if (s.hl n).run then s.finishO cmd 0x0A 0 0 0
  else
    let s := s.modHl n fun x => { run := true, attach, addr, cnt, go := !atTick, cmd, selEnd := x.selEnd, freeAt := x.selEnd }
    let s := ((s.setFld (R.spiHlStatState n) (if atTick then 1 else 2)).setFld (R.spiHlStatCause n) 0).setFld
      (R.spiHlStatEntry n) 0
    if !s.hlHeadOk n then s.hlStop n 3 1
    else if atTick then { s with reqs := s.reqs ++ [{ kind := .hlQueue, obj := n }] }
    else s

/-- A tick edge has passed: waits for it end (R303, R305); one before the entry's turn, in the DELAY of the entry before it or
before the queue's own tick, counts for nothing. -/
def State.hlAtEdge (s : State) : State :=
  (List.range 4).foldl (fun s n =>
    let s := s.modHl n fun x => if x.run && x.go && decide (x.freeAt ≤ s.now) then { x with sawTick := true } else x
    match s.committedReq .hlQueue n with
    | some q => ((s.dropReq q).modHl n fun x => { x with go := true }).setFld (R.spiHlStatState n) 2
    | none => s) s

/-- A frame of the head has started. -/
def State.hlFrame (s : State) (n : Nat) : State :=
  s.modHl n fun x => if x.run && x.go && decide (x.freeAt ≤ s.now) then { x with sawFrame := true } else x

/-- Does a queue wait on SYNC: the entry in turn, all before it done with their DELAY, has a SYNC that has not come? -/
def State.hlSyncWaits (s : State) (n : Nat) : Bool :=
  let x := s.hl n
  let sync := nbits (s.rd (x.addr + 32 * x.idx) 4) 10 2
  x.run && x.go && decide (x.idx < x.cnt) && decide (x.freeAt ≤ s.now) && ((sync == 1 && !x.sawTick) || (sync == 2 && !x.sawFrame))

/-- The head goes to draining: a queue that waits on SYNC stops (R306). -/
def State.hlSyncStop (s : State) (n : Nat) : State := if s.hlSyncWaits n then s.hlStop n 3 1 else s

end Sys2Proof.Machine
end

