-- ==== Sys2Proof/Machine/Peat.lean ====
section
/-!
DEFINITION. The peat store (R336 to R352): recall, stores, passwords, the log, the golden-copy lookup at attach, and the
commands that reach it.
-/
namespace Sys2Proof.Machine

def State.modPeat (s : State) (f : Peat → Peat) : State := { s with peat := f s.peat }

/-- First offset and size of a partition (R336). -/
def partOff (p : Nat) : Nat := match p with | 0 => 0 | 1 => 0x4000 | 2 => 0x5000 | _ => 0xD000
def partSize (p : Nat) : Nat := match p with | 0 => 0x4000 | 1 => 0x1000 | 2 => 0x8000 | _ => 0x33000
/-- The partition of an offset. -/
def partOf (o : Nat) : Nat := if o < 0x4000 then 0 else if o < 0x5000 then 1 else if o < 0xD000 then 2 else 3

/-- May the host write a byte range of the SRAM (R336, R346)? -/
def hostMayWrite (o n : Nat) : Bool := (0x100 ≤ o && o + n ≤ 0x200) || 0xD000 ≤ o

/-- Set or clear a bit of `PEAT_STAT`. -/
def State.peatStatBit (s : State) (k : Nat) (b : Bool) : State :=
  let v := s.fld R.peatStat
  s.setFld R.peatStat (v - nbits v k 1 * 2 ^ k + (if b then 2 ^ k else 0))

/-- Latch a peat refusal at the offset of the register concerned. -/
def State.peatRefuse (s : State) (off cause : Nat) : State := s.refuse (0x200000 + off) cause

/-- Read a word of the SRAM: a single-bit error is corrected and counted, an uncorrectable group reads zero (R337). -/
def State.peatRd (s : State) (o : Nat) : Nat × State :=
  let m := s.peatMet o
  (peatWord s.peat o, if m.1 then m.2.raise 0x0D08 0 o else m.2)

/-- The device's own reads of words of the SRAM, with their errors accounted (R337). -/
def State.peatReads (s : State) (os : List Nat) : State := os.foldl (fun s o => (s.peatRd o).2) s

/-! ### Stores (R339 to R341) -/

/-- A store starts: `VHOLD` is measured, the store refused or its snapshot taken, check bits included. A refusal of a store that
the host asked for is latched (R344). (DEDUCED, log entry 32) -/
def State.storeStart (s : State) (trig : Nat) (cmds : List Nat) : State :=
  let v := s.peat.vhold
  let s := s.setFld R.peatVhold v
  if v < s.fld R.peatHoldMin then
    let s := (s.bump R.peatRefused).peatUpd (.count 0x10)
    let s := s.raise 0x0D02 0 v trig
    let s := if trig = 0 || trig = 3 || !cmds.isEmpty then s.peatRefuse 0x14 5 else s
    cmds.foldl (fun s u => s.finish u 1 5 0 0) s
  else
    let s := s.peatUpd (.count 0x08)
    let n := peatWord s.peat 0x4008
    let p := s.peat
    -- the older copy is written: one that is not complete, else the one with the lower store count
    let toB := match p.copyA.mark, p.copyB.mark with
      | none, _ => false
      | some _, none => true
      | some a, some b => decide ((a + 2 ^ 32 - b) % 2 ^ 32 < 2 ^ 31)
    let st : PStore := { toB, bytes := p.sram, ecc := p.ecc, pws := p.pws, count := n, trig, cmds }
    let s := s.modPeat fun p =>
      { p with storing := true, store := some st,
               copyA := if toB then p.copyA else { p.copyA with mark := none },
               copyB := if toB then { p.copyB with mark := none } else p.copyB }
    s.peatStatBit 0 true

/-- A store request: at once, or held pending and merged while a store runs (R339). -/
def State.storeReq (s : State) (trig : Nat) (cmd : Option Nat) : State :=
  if s.peat.storing then
    let s := s.modPeat fun p => { p with pend := match p.pend with
      | none => some (trig, cmd.toList)
      | some (t, l) => some (t, l ++ cmd.toList) }
    s.peatStatBit 1 true
  else s.storeStart trig cmd.toList

/-- Set all entries of the log to zero (R348). -/
def peatClear (p : Peat) : Peat :=
  { p with sram := p.sram.filter (fun b => !(decide (0x5000 ≤ b.1) && decide (b.1 < 0xD000))),
           ecc := p.ecc.filter (fun g => !(decide (0x1400 ≤ g.1) && decide (g.1 < 0x3400))) }

/-- A host or firmware write of the SRAM: at once, or when the running store ends (R341). A PEAT_WRITE asks for its store
once its data are in the SRAM. -/
def State.sramWrite (s : State) (off : Nat) (bs : List Byte) (cmd : Option Nat) : State :=
  if s.peat.storing then s.modPeat fun p => { p with waits := p.waits ++ [.write off bs cmd] }
  else
    let s := s.modPeat fun p => peatPut p off bs
    if cmd.isSome then s.storeReq 3 cmd else s

/-- R340: the copy and its completion mark are written; what waited is applied, and a pending request starts. -/
def storeComplete (t : Nat) (s : State) : State :=
  match s.peat.store with
  | none => s
  | some st =>
    let s := s.at t
    let copy : PCopy := { bytes := st.bytes, ecc := st.ecc, mark := some st.count }
    let s := s.modPeat fun p =>
      { p with store := none, storing := false, pwsNv := st.pws, pwsEcc := [], lastStore := s.now, autoN := 0,
               copyA := if st.toB then p.copyA else copy, copyB := if st.toB then copy else p.copyB }
    -- a store that outlives the power ends with its mark (R340)
    if s.ao.step = .off then s else
    let q := s.peat.queue
    let w := s.peat.waits
    let s := q.foldl (fun (s : State) u => s.peatUpd u) (s.modPeat fun p => { p with queue := [], waits := [] })
    let s := s.peatStatBit 0 false
    let s := s.raise 0x0D01 0 st.count st.trig
    let s := if 900000 ≤ st.count then
        let s := s.peatStatBit 3 true
        if st.count % 1000 = 0 then s.raise 0x0D06 0 else s
      else s
    let s := st.cmds.foldl (fun s u => s.finish u 0 0 0 0) s
    let s := w.foldl (fun s x => match x with
      | .write off bs none => s.modPeat fun p => peatPut p off bs
      | .write off bs (some u) =>
        let s := s.modPeat fun p => peatPut p off bs
        s.modPeat fun p => { p with pend := match p.pend with
          | none => some (3, [u])
          | some (t, l) => some (t, l ++ [u]) }
      | .clearLog => s.modPeat peatClear) s
    match s.peat.pend with
    | none => s
    | some (trig, cmds) =>
      ((s.modPeat fun p => { p with pend := none }).peatStatBit 1 false).storeStart trig cmds

/-- R339: PEAT_AUTO minutes of powered time since the last completed store. -/
def autostoreTimer (s : State) : State :=
  let m := s.fld R.peatAuto
  if m = 0 then s
  else
    let s := s.at (s.peat.lastStore + (s.peat.autoN + 1) * m * 60 * unitsPerS)
    (s.modPeat fun p => { p with autoN := p.autoN + 1 }).storeReq 2 none

/-! ### PFAIL_N (R343) -/

/-- R343: a fall of `PFAIL_N` that has lasted 1 us. -/
def pfailFall (t : Nat) (s : State) : State :=
  let s := s.at t
  let s := s.modPeat fun p => { p with pfailLow := true, pfailT := s.now }
  if s.ao.step == .off then s
  else
    let s := s.peatStatBit 6 false
    if s.flag R.peatCtlPfailEn && nbits (s.fld R.peatStat) 2 1 = 0 then
      ((s.peatStatBit 2 true).modPeat fun p => { p with heldSent := false }).storeReq 1 none
    else s

/-- R343: `PFAIL_N` rises at an instant; once it has been high for 10 ms without a break the trigger unlocks. -/
def pfailUnlock (x : Nat × Bool) (s : State) : State :=
  let s := (s.at x.1).modPeat fun p => { p with pfailLow := false, pfailT := x.1 }
  if s.ao.step = .off then s
  else
    let s := s.peatStatBit 6 true
    if x.2 then s.peatStatBit 2 false else s

/-- R343: `PFAIL_N` has stayed low for 100 ms: an event once per lock. -/
def pfailHeld (s : State) : State :=
  if s.peat.pfailLow && nbits (s.fld R.peatStat) 2 1 = 1 && !s.peat.heldSent then
    ((s.at (s.peat.pfailT + 100 * unitsPerMs)).modPeat fun p => { p with heldSent := true }).raise 0x0D04 0
  else s

/-! ### Passwords (R344, R345) -/

/-- Is a partition locked out (R345)? -/
def State.peatLocked (s : State) (p : Nat) : Bool := s.peat.locks.any (·.1 == p)

/-- Present a password for a partition and kind (0 read, 1 write): the cause of the refusal, or none. -/
def State.present (s : State) (p kind pw : Nat) : Option Nat × State :=
  if s.peatLocked p then (some 3, s)
  else
    let want := tget (fun _ => 0) s.peat.pws (2 * p + kind)
    if want = 0 || want = pw then (none, s.modPeat fun x => { x with wrong := tdel p x.wrong })
    else
      let n := tget (fun _ => 0) s.peat.wrong p + 1
      let s := (s.bump R.peatPwfail).modPeat fun x => { x with wrong := tput p n x.wrong }
      if 8 ≤ n then
        (some 2, (s.modPeat fun x => { x with locks := x.locks ++ [(p, s.now + 60 * unitsPerS)] }).raise 0x0D05 p)
      else (some 2, s)

/-- R344: a lockout ends. -/
def peatLockoutEnd (p : Nat) (s : State) : State :=
  match s.peat.locks.find? (·.1 == p) with
  | none => s
  | some l => (s.at l.2).modPeat fun x => { x with locks := x.locks.erase l }

/-- The password in `PEAT_KEY`. -/
def State.peatKey (s : State) : Nat := s.fld R.peatKeyLo + 2 ^ 32 * s.fld R.peatKeyHi

/-- PEAT_CMD OP 1: a store. -/
def peatCmdStore (s : State) : State := s.storeReq 0 none

/-- PEAT_CMD OP 2: a new password, in force at once and non-volatile with the store that follows (R345). -/
def peatCmdSetPassword (p kind : Nat) (s : State) : State :=
  match s.present p 1 s.peatKey with
  | (some c, s) => s.peatRefuse 0x14 c
  | (none, s) =>
    let new := s.fld R.peatPwnewLo + 2 ^ 32 * s.fld R.peatPwnewHi
    (s.modPeat fun x => { x with pws := tset (fun _ => 0) (2 * p + kind) new x.pws }).storeReq 0 none

/-- PEAT_CMD OP 3: clear the log (R348). -/
def peatCmdClearLog (s : State) : State :=
  match s.present 2 1 s.peatKey with
  | (some c, s) => s.peatRefuse 0x14 c
  | (none, s) =>
    if s.peat.storing then s.modPeat fun p => { p with waits := p.waits ++ [.clearLog] } else s.modPeat peatClear

/-- PEAT_CMD OP 4: open a partition to `PEAT_DATA` for a kind (R345). -/
def peatCmdUnlock (p kind : Nat) (s : State) : State :=
  match s.present p kind s.peatKey with
  | (some c, s) => s.peatRefuse 0x14 c
  | (none, s) => s.setFld R.peatUnlock (s.fld R.peatUnlock ||| 2 ^ (4 * kind + p))

/-- PEAT_CMD OP 5: close a partition to `PEAT_DATA` for a kind. -/
def peatCmdLock (p kind : Nat) (s : State) : State :=
  let b := 4 * kind + p
  s.setFld R.peatUnlock (s.fld R.peatUnlock - nbits (s.fld R.peatUnlock) b 1 * 2 ^ b)

/-- Is PEAT_DATA closed to the host at PEAT_ADDR (R344)? -/
def State.peatClosed (s : State) (wr : Bool) : Bool :=
  nbits (s.fld R.peatUnlock) (partOf (s.fld R.peatAddr) + (if wr then 4 else 0)) 1 == 0

/-- R352: an access to `PEAT_DATA`: the word at `PEAT_ADDR`, which then rises by 4. Firmware is not subject to passwords (R344).
(DEDUCED, log entry 32) -/
def peatDataAccess (wr : Bool) (v : Word) (s : State) (fw : Bool := false) : State :=
  let a := s.fld R.peatAddr
  let s := { s with reply := [0] }
  if !fw && s.peatClosed wr then s.peatRefuse 0x2C 6
  else if wr && !fw && !hostMayWrite a 4 then s.peatRefuse 0x2C 4
  else
    let s := if wr then s.sramWrite a (leBytes 4 v.toNat) none
      else { (s.peatRd a).2 with reply := [(s.peatRd a).1] }
    s.setFld R.peatAddr (a + 4)

/-- The refusal cause of a ring access, in the order of R344, with the password presented. (DEDUCED, log entry 32) -/
def State.peatRingCause (s : State) (p off len pw : Nat) (wr : Bool) : Option Nat × State :=
  if 3 < p || off % 4 != 0 || len % 4 != 0 || len = 0 || 65536 < len || partSize p < off + len then (some 1, s)
  else
    match s.present p (if wr then 1 else 0) pw with
    | (some c, s) => (some c, s)
    | (none, s) => if wr && !hostMayWrite (partOff p + off) len then (some 4, s) else (none, s)

/-! ### Recall, lookup, counters -/

/-- The factory identity record as its one-time-programmed copy reads: an uncorrectable group as zero (R337). -/
def Peat.otpRead (p : Peat) : List Byte := p.otp.zipIdx.map fun (b, i) => if tget (fun _ => 0) p.otpEcc (i / 4) = 2 then 0 else b

/-- The passwords as the shadow array gives them: an uncorrectable group as zero (R337). -/
def Peat.pwsRead (p : Peat) : Tbl Nat :=
  (List.range 8).foldl (fun (t : Tbl Nat) (k : Nat) =>
    let half (j v : Nat) : Nat := if tget (fun _ => 0) p.pwsEcc (2 * k + j) = 2 then 0 else v
    let v := tget (fun _ => 0) p.pwsNv k
    tset (fun _ => 0) k (half 0 (v % 2 ^ 32) + 2 ^ 32 * half 1 (v / 2 ^ 32)) t) []

/-- The single-bit errors of a table of groups are corrected. -/
def eccFixed (t : Tbl Nat) : Tbl Nat := t.filter (·.2 != 1)

/-- R338: the recall at power-up, of a copy or of the one-time-programmed record, and of the passwords. A single-bit error is
corrected where it lies and counted; from 900,000 stores on ENDUR is set (R337, R339). -/
def State.recall (s : State) : State :=
  let p := s.peat
  let pick : Nat := match p.copyA.mark, p.copyB.mark with
    | some a, some b => if (b + 2 ^ 32 - a) % 2 ^ 32 < 2 ^ 31 && a != b then 1 else 0
    | some _, none => 0
    | none, some _ => 1
    | none, none => 2
  let c := if pick = 0 then p.copyA else p.copyB
  let zero (o : Nat) : Bool := tget (fun _ => 0) c.ecc (o / 4) == 2
  let sram : Tbl Byte := if pick = 2
    then (p.otpRead.zipIdx.filterMap fun (b, i) => if b = 0 then none else some (i, b))
    else c.bytes.filter fun b => !zero b.1
  let groups := (if pick = 2 then p.otpEcc else c.ecc) ++ p.pwsEcc
  let met (k : Nat) : Nat := (groups.filter (·.2 == k)).length
  let ue := met 2
  let fixed (c : PCopy) : PCopy := { c with ecc := eccFixed c.ecc }
  let s := s.modPeat fun p =>
    { p with sram, ecc := [], storing := false, store := none, pend := none, queue := [], waits := [], pws := p.pwsRead,
             wrong := [], locks := [], lastStore := s.now, autoN := 0, pwsEcc := eccFixed p.pwsEcc,
             otpEcc := if pick = 2 then eccFixed p.otpEcc else p.otpEcc,
             copyA := if pick = 0 then fixed p.copyA else p.copyA, copyB := if pick = 1 then fixed p.copyB else p.copyB }
  let s := (List.range (met 1)).foldl (fun (s : State) _ => (s.bump R.peatCe).handled 3) s
  let s := s.setFld R.peatRecallUe (s.fld R.peatRecallUe + ue)
  let s := (((s.peatStatBit 0 false).peatStatBit 1 false).peatStatBit 4 (pick == 1)).peatStatBit 5 (pick == 2)
  let s := s.setFld R.peatUnlock 0
  let s := s.peatUpd (.count 0x04)
  let s := s.peatStatBit 3 (900000 ≤ peatWord s.peat 0x4008)
  s.raise 0x0D03 0 pick ue

/-- R349: at attach the golden copy of the head's directory entry is named in CAL_GOLD, or none is. -/
def State.goldLookup (s : State) (h : Nat) : State :=
  let w (k j : Nat) : Nat := peatWord s.peat (0xD000 + 32 * k + 4 * j)
  let heads (n : Nat) : List Nat := (List.range n).map fun k => 0xD000 + 32 * k
  match (List.range 16).find? (fun k => nbits (w k 0) 0 2 == 3 && nbits (w k 0) 2 2 == h) with
  | none => (s.peatReads (heads 16)).setBase (R.calGoldLo h) (R.calGoldHi h) 0
  | some k =>
    let s := s.peatReads (heads (k + 1) ++ [4, 8, 12].map (0xD000 + 32 * k + ·))
    if nbits (w k 3) 0 11 = s.nCols h && nbits (w k 3) 11 11 = s.nRows h then
      s.setBase (R.calGoldLo h) (R.calGoldHi h) (w k 1 + 2 ^ 32 * w k 2)
    else (s.setBase (R.calGoldLo h) (R.calGoldHi h) 0).raise 0x0D07 h

/-- R347: POWERED_NS passes a multiple of 10^9 ns. -/
def lifeSecond (s : State) : State := (s.at ((s.now / unitsPerS + 1) * unitsPerS)).peatUpd (.count 0)

/-- R352: the housekeeping ADC measures VHOLD. -/
def vholdMeasurement (mv : Nat) (s : State) : State :=
  (s.modPeat fun p => { p with vhold := mv % 8192 }).setFld R.peatVhold mv

/-! ### The commands -/

/-- PEAT_CMD_STORE (R339). -/
def execPeatCmdStore (s : State) := ok (whenUp peatCmdStore) s
/-- PEAT_CMD_SET_PASSWORD (R345). -/
def execPeatCmdSetPassword (p : Fin 4) (write : Bool) (s : State) := ok (whenUp (peatCmdSetPassword p (if write then 1 else 0))) s
/-- PEAT_CMD_CLEAR_LOG (R348). -/
def execPeatCmdClearLog (s : State) := ok (whenUp peatCmdClearLog) s
/-- PEAT_CMD_UNLOCK (R345). -/
def execPeatCmdUnlock (p : Fin 4) (write : Bool) (s : State) := ok (whenUp (peatCmdUnlock p (if write then 1 else 0))) s
/-- PEAT_CMD_LOCK (R345). -/
def execPeatCmdLock (p : Fin 4) (write : Bool) (s : State) := ok (whenUp (peatCmdLock p (if write then 1 else 0))) s
/-- STORE_COMPLETE (R340). -/
def execStoreComplete (t : Nat) (s : State) := ok (storeComplete t) s
/-- AUTOSTORE_TIMER (R339). -/
def execAutostoreTimer (s : State) := ok (whenPowered autostoreTimer) s
/-- PFAIL_N_FALL (R343). -/
def execPfailNFall (t : Nat) (s : State) := ok (whenBalls (pfailFall t)) s
/-- PFAIL_UNLOCK (R343). -/
def execPfailUnlock (t : Nat × Bool) (s : State) := ok (whenBalls (pfailUnlock t)) s
/-- PFAIL_HELD (R343). -/
def execPfailHeld (s : State) := ok (whenPowered pfailHeld) s
/-- PEAT_DATA_ACCESS (R352). -/
def execPeatDataAccess (wr : Bool) (v : BitVec 32) (s : State) := ok (whenUp (peatDataAccess wr v)) s
/-- PEAT_LOCKOUT_END (R344). -/
def execPeatLockoutEnd (p : Fin 4) (s : State) := ok (whenPowered (peatLockoutEnd p)) s
/-- LIFE_SECOND (R347). -/
def execLifeSecond (s : State) := ok (whenPowered lifeSecond) s
/-- VHOLD_MEASUREMENT (R352). -/
def execVholdMeasurement (mv : Nat) (s : State) := ok (whenPowered (vholdMeasurement mv)) s

end Sys2Proof.Machine
end

