-- ==== Sys2Proof/Machine/ThermBase.lean ====
section
/-!
DEFINITION. Thermal management as the head ports see it: the compensation trims (R332, R333) and the restart event (R330).
-/
namespace Sys2Proof.Machine

def State.modTherm (s : State) (f : Therm → Therm) : State := { s with therm := f s.therm }

/-- The reading a sensor shows, in 1/16 degree C. -/
def State.ts (s : State) (k : Nat) : Int := sext 13 (s.fld (R.thermTs k))

/-- Is a sensor failed (R321)? -/
def State.tsFailed (s : State) (k : Nat) : Bool := nbits (s.fld R.thermFail) k 1 == 1

/-- Entry i of a table in force: 0 BG, 1 to 4 ADC0 to ADC3, 5 OSC. -/
def State.cmpEntry (s : State) (t i : Nat) : Int := tget (fun _ => 0) s.therm.tab (16 * t + i)

/-- The register that holds entry i of a table. -/
def cmpReg (t i : Nat) : Fld := if t = 0 then R.thermCmpBg i else if t = 5 then R.thermCmpOsc i else R.thermCmpAdcI (t - 1) i

/-- The written entries of a table. -/
def State.cmpWritten (s : State) (t : Nat) : List Int := (List.range 9).map fun i => sext 16 (s.fld (cmpReg t i))

/-- Give a table in force its entries. -/
def State.cmpPut (s : State) (t : Nat) (l : List Int) : State :=
  l.zipIdx.foldl (fun (s : State) (e : Int × Nat) =>
    s.modTherm fun x => { x with tab := tset (fun _ => 0) (16 * t + e.2) e.1 x.tab }) s

/-- Give a table in force its written entries. -/
def State.cmpLoad (s : State) (t : Nat) : State := s.cmpPut t (s.cmpWritten t)

/-- The entries a GO named for a table wait for its update (R333). -/
def State.cmpNamed (s : State) (t : Nat) : Bool := s.therm.pend.any (·.1 == t)

/-- The trim a table gives at a reading x in 1/16 degree C (R332). -/
def cmpTrim (e : Nat → Int) (x : Int) : Int :=
  let u := (clampI (-960) 2880 x + 960).toNat
  let i := u / 480
  let f : Int := ((u % 480 : Nat) : Int)
  e i + rdiv ((e (min 8 (i + 1)) - e i) * f) 480

/-- The temperature a table uses: the mean of the unfailed sensors TS0 to TS3 for BG (a fraction of an LSB goes either way;
with none left the temperature is a free value), TSg for ADCg, TS10 for OSC. (DESIGN CHOICE, log entry 37) -/
def State.cmpTemp (s : State) (t : Nat) : Int × State :=
  if t = 0 then
    let ok := (List.range 4).filter fun k => !s.tsFailed k
    if ok.isEmpty then (sext 13 (Config.freeVal s.freeCtr), s.fresh)
    else (freeDiv (ok.map s.ts).sum ok.length, s)
  else if t = 5 then (s.ts 10, s)
  else (s.ts (t - 1), s)

/-- An update of a table's target (R332, R333): entries named by a GO come into force as they stood at it, and the applied
trim moves at most one LSB towards the interpolated value. -/
def State.compUpdate (s : State) (t : Nat) : State :=
  let s := (s.cmpPut t (tget (fun _ => []) s.therm.pend t)).modTherm fun x => { x with pend := tdel t x.pend }
  let (x, s) := s.cmpTemp t
  let want := cmpTrim (s.cmpEntry t) x
  let now : Int := tget (fun _ => 0) s.therm.trim t
  let next := if now < want then now + 1 else if want < now then now - 1 else now
  s.modTherm fun y => { y with trim := tset (fun _ => 0) t next y.trim }

/-- The restart event, once no start is left to decide (R330). -/
def State.restartEvent (s : State) : State :=
  if s.therm.rsPend.isEmpty then
    (s.raise 0x0C06 0 s.therm.rsOk s.therm.rsNo).modTherm fun x => { x with rsOk := 0, rsNo := 0 }
  else s

/-- The start of a head after a thermal restart is decided (1 started, 2 refused, 0 withdrawn); after the last one the
restart event is raised (R330). (DEDUCED, log entry 38) -/
def State.restartNote (s : State) (h res : Nat) : State :=
  if s.therm.rsPend.contains h then
    let s := s.modTherm fun x =>
      { x with rsPend := x.rsPend.filter (· != h), rsOk := x.rsOk ||| (if res = 1 then 2 ^ h else 0),
               rsNo := x.rsNo ||| (if res = 2 then 2 ^ h else 0) }
    s.restartEvent
  else s

end Sys2Proof.Machine
end

