-- ==== Sys2Proof/Machine/Head.lean ====
section
/-!
DEFINITION. The head ports: presence and attach (R59 to R61), biases (R47, R48), timing start and stop (R55, R406), start
and detach (R62 to R65), frame starts (R26, R37, R52) and the reference (R56 to R58).
-/
namespace Sys2Proof.Machine

/-- The ports act while the core runs and is not frozen. -/
def whenPort (f : State → State) (s : State) : State := if s.ao.up && !s.ao.frozen then f s else s

/-- Complete a command of a head and forget it. -/
def State.finishHead (s : State) (h : Nat) (status cause : Nat) (get : Head → Option Nat) (clr : Head → Head) : State :=
  (s.finishO (get (s.head h)) status cause 0 0).modHead h clr

/-- Drop pending start and detach requests of a head; their commands complete with a status. -/
def State.dropHeadReqs (s : State) (h status : Nat) : State :=
  let mine (q : Req) : Bool := (q.kind == .headStart || q.kind == .headDetach) && q.obj == h
  let s := (s.reqs.filter mine).foldl (fun s q => s.finishO q.cmd status 0 0 0) s
  let s : State := { s with reqs := s.reqs.filter fun q => !mine q }
  s.restartNote h 0

/-- The spares that stand in for a group's reference taps leave them: their input is none again (R73, R84). -/
def State.standEnd (s : State) (h : Nat) : State :=
  let g := s.group h
  let s := g.stand.foldl (fun (s : State) (w : Nat × Nat) =>
    if s.fld (R.afeSliceCtlInput (38 * h + w.2)) = w.1 && s.fld (R.afeSliceCtlRole (38 * h + w.2)) = 1 &&
        !g.takes.any (·.spare == w.2) then s.setFld (R.afeSliceCtlInput (38 * h + w.2)) 63 else s) s
  s.modGroup h fun g => { g with stand := [] }

/-- A training run of the head's group ends at once (R405): its command completes with a status. Until then no slice of it is
out of training. (DESIGN CHOICE, log entry 88) -/
def State.endTraining (s : State) (h status : Nat) : State :=
  let s := s.finishO (s.group h).trainCmd status 0 0 0
  let s := (List.range 38).foldl (fun s l =>
    s.modSlice (38 * h + l) fun x => { x with train := !x.rqThr && (s.group h).requal.any (·.1 == l) }) s
  ((s.modGroup h fun g =>
    { g with trainReq := 0, trainTaps := [], trainKind := 0, trainCmd := none, trainThr := [], trainPh := [] }).setFld
      (R.afeGrpStatTraining h) 0).standEnd h

/-- The bit of `MEM_ARB_DEFICIT` clears when the head stops, without an event (R232). -/
def State.headStops (s : State) (h : Nat) : State := s.deficitBit h false

/-! ### Presence and power -/

/-- R59: the HDET_N input changes level. -/
def hdetChange (h : Nat) (high : Bool) (t : Nat) (s : State) : State :=
  (s.at t).modHead h fun x => { x with hdet := high, hdetT := max s.now t }

/-- When a head attaches, firmware looks its golden copy up (R349). -/
def State.attachGold (s : State) (h : Nat) : State := if s.fwRuns then s.goldLookup h else s

/-- Firmware begins the attach of a present head (R61). -/
def State.attachBegin (s : State) (h : Nat) (cmd : Option Nat) : State :=
  let s := s.attachGold h
  let s := s.modHead h fun x => { x with attach := 1, attachCmd := cmd }
  let s := s.attachStep h 1
  ((s.setFld (R.headCtlPwr h) 1).powerUp h).attachStep h 2

/-- An unplanned detach (R64): power off at once, PWR with it, the frame in progress truncated, head-removed raised.
(DESIGN CHOICE, log entry 87) -/
def State.unplanned (s : State) (h : Nat) : State :=
  let st := s.hState h
  let inFrame := s.sampling h
  let flight := st = 4 || st = 5
  -- a planned detach whose frame is already read completes normally (R65)
  let keep := st = 5 && (s.head h).drain == .detach && !inFrame
  let ramping := (s.head h).ramp0
  let s := if flight then s.truncate h else s
  let s := s.dropPower h
  -- a planned detach whose ramp was under way has its outputs at 0 V now
  let s := if keep && ramping then s.modHead h fun x => { x with ramp0 := true } else s
  let s := s.raise 0x0203 h
  let s := (s.setFld (R.headCtlRun h) 0).setFld (R.headCtlPwr h) 0
  let s := s.finishHead h 4 0 (·.attachCmd) fun x => { x with attach := 0, attachCmd := none }
  let s := s.finishHead h 4 0 (·.startCmd) fun x => { x with startCmd := none }
  let s := if keep then s else s.finishHead h 4 0 (·.detachCmd) fun x => { x with detachCmd := none }
  let s := s.dropHeadReqs h 4
  let s := s.hlStop h 3 4
  let s := s.calAbandon h 8
  let s := s.inlineLost h
  let s := s.endTraining h 4
  let s := s.modHead h fun x => { x with refOk := false, resume := false }
  if flight then
    (s.modHead h fun x => { x with drain := if keep then .detach else .removal }).setHState h 5
  else s.setHState h (if s.flag (R.headStatusPresent h) then 1 else 0)

/-- Does firmware attach a head as soon as it is present (R60, R61)? -/
def State.attaches (s : State) (h : Nat) : Bool := s.flag (R.headCtlAuto h) && (s.head h).configured

/-- A present, unpowered head (R60, R61): firmware attaches it while it works (R367), or it is powered as PWR asks. -/
def State.arrive (s : State) (h : Nat) : State :=
  let s := s.setHState h 1
  if s.attaches h then (if s.fwRuns then s.attachBegin h none else s)
  else if s.flag (R.headCtlPwr h) then (s.attachGold h).powerUp h else s

/-- R59: the filtered level changes; an attach begins, or a powered head is lost. -/
def presenceAccepted (h : Nat) (s : State) : State :=
  let x := s.head h
  let was := s.flag (R.headStatusPresent h)
  if x.hdet == !was then s
  else if !x.hdet then
    let s := (s.at (x.hdetT + 10 * unitsPerMs)).setFlag (R.headStatusPresent h) true
    let s := s.raise 0x0201 h 1
    if s.hState h = 0 then s.arrive h else s.modHead h fun x => { x with again := true }
  else
    let s := (s.at (x.hdetT + 20 * unitsPerUs)).setFlag (R.headStatusPresent h) false
    let s := s.raise 0x0201 h 0
    if x.hpen then s.unplanned h else if s.hState h = 1 then s.setHState h 0 else s

/-- R61: HEAD_PWR_SETTLE has elapsed and the biases ramp to their codes. -/
def pwrSettleElapsed (h : Nat) (s : State) : State :=
  let x := s.head h
  if s.hState h = 2 && x.hpen && !x.settled then
    let s := s.at (x.pwrT + s.fld (R.headPwrSettle h) * unitsPerMs)
    let s := s.modHead h fun x => { x with settled := true, biasPend := false }
    (s.rampTo h (s.biasCodes h)).attachStep h 3
  else s

/-- Firmware sets CLK in an attach once the biases are up (R61 step 4). -/
def State.attachClk (s : State) (h : Nat) : State :=
  if (s.head h).attach = 0 || !s.fwRuns then s else (s.setFld (R.headCtlClk h) 1).attachStep h 4

/-- Firmware works again: it goes on with the attaches that waited for it (R366). -/
def State.attachesGoOn (s : State) : State :=
  (List.range 4).foldl (fun (s : State) (h : Nat) =>
    let x := s.head h
    if s.hState h = 1 && s.attaches h && x.attach = 0 then s.attachBegin h none
    else if s.hState h = 2 && x.ramped && x.attach = 3 then s.attachClk h else s) s

/-- R61: the bias ramp completes; firmware then sets CLK. -/
def biasRampDone (h : Nat) (s : State) : State :=
  let x := s.head h
  if s.hState h = 2 && x.settled && !x.ramped then
    let s := (s.at (s.biasEnd h)).modHead h fun x => { x with ramped := true }
    s.attachClk h
  else s

/-! ### Biases -/

/-- R47: a code is written: refused above its limit, else held for the next tick edge, or taken at once. -/
def headBiasWrite (h k code : Nat) (s : State) : State :=
  if s.fld (R.headBiasMax h k) < code then s.refuse (0x40100 + 0x10000 * h + 4 * k)
  else
    let s := (s.setFld (R.headBiasCode h k) code).modHead h fun x => { x with biasPend := true }
    if nbits (s.fld R.tickStatus) 0 1 = 0 then s.biasApply h else s

/-- R48: a bias output has stayed in its current limit for 100 us. -/
def biasFault (h k : Nat) (s : State) : State :=
  if (s.head h).hpen then (s.raise 0x0202 h k).unplanned h else s

/-! ### Timing -/

/-- R55: CLK is written 1. -/
def headClkStart (h : Nat) (s : State) : State :=
  if (s.head h).hpen then s.setFld (R.headCtlClk h) 1 else s.refuse (0x40000 + 0x10000 * h)

/-- R61 step 4: the timing starts at a tick whose count modulo N is P; the attach queue runs next (R307), and training
is due (R86). -/
def headTimingStart (h : Nat) (s : State) : State :=
  let x := s.head h
  let n := s.divN h
  if s.flag (R.headCtlClk h) && !x.timing && x.ramped && !x.resume && s.hState h = 2 && nbits (s.fld R.tickStatus) 0 1 = 1 &&
      s.fld R.tickCount % n = s.fld (R.headCadPhase h) then
    let s := s.modHead h fun x =>
      { x with timing := true, due := true, div := 0, periods := 0, startTick := s.fld R.tickCount, refOk := false,
               refSum := 0, refN := 0, refBad := false, edges := [] }
    let s := s.setHState h 3
    let s := s.attachStep h 5
    let s := if s.flag (R.afeGrpCtlTrainAuto h) then s.modGroup h fun g => { g with trainReq := 1 } else s
    let cnt := s.fld (R.spiHlAttqCnt h)
    if cnt != 0 && (x.attach != 0 || s.flag (R.headCtlAuto h)) then
      s.hlStart h (s.base (R.spiHlAttqLo h) (R.spiHlAttqHi h)) cnt false true none
    else s
  else s

/-- R406: CLK is written 0: the timing stops at once and the work in flight drains; the head then is powering. A HEAD_START
that waits for its first frame completes head-not-running. (DESIGN CHOICE, log entry 70) -/
def headClkStop (h : Nat) (s : State) : State :=
  let st := s.hState h
  if !s.flag (R.headCtlClk h) then s
  else
    let s := if st = 4 || st = 5 then s.truncate h else s
    let s := s.modHead h fun x =>
      { x with timing := false, due := false, idleP := none, idleOld := none, edges := [], refOk := false }
    let s := (s.setFld (R.headCtlClk h) 0).setFld (R.headCtlRun h) 0
    let s := s.finishHead h 3 0 (·.startCmd) fun x => { x with startCmd := none }
    let s := (s.calAbandon h 8).inlineLost h
    if st = 4 then ((s.hlSyncStop h).modHead h fun x => { x with drain := .stop }).setHState h 5
    else if st = 3 then s.setHState h 2
    else s

/-! ### Start -/

/-- A start request (R62): the need is computed (R66) and shown at most as 0xFFFF, the check bound to a tick.
(DESIGN CHOICE, log entry 87) -/
def State.startReq (s : State) (h : Nat) (cmd : Option Nat) : State :=
  (s.setFld (R.headNeed h) (min 0xFFFF (s.need h))).request { kind := .headStart, obj := h, cmd }

/-- A planned detach request (R63). -/
def State.detachReq (s : State) (h : Nat) (cmd : Option Nat) : State := s.request { kind := .headDetach, obj := h, cmd }

/-- A frame period inside R22. -/
def State.perOk (s : State) (h : Nat) : Bool := 266666667 ≤ s.framePer h && s.framePer h ≤ 256000000000

/-- The first cause of R62 for a start, with the check that failed under cause 9: R231 (1), or R193, R198 and R213 (2).
(DEDUCED, log entry 18; DESIGN CHOICE, log entry 70) -/
def State.startRefused (s : State) (h : Nat) : Option (Nat × Nat) :=
  let src := nbits s.tick.ctl 1 2
  let x := s.head h
  if s.hState h != 3 then some (1, 0)
  else if !s.geomOk h then some (2, 0)
  else if !s.rateOk h then some (3, 0)
  else if !s.timingOk h then some (4, 0)
  else if src = 1 && !s.tolOkFor h s.tick.tol then some (5, 0)
  else if h = 0 && src = 2 && (s.divN h != 1 || !s.perOk h) then some (6, 0)
  else if !(x.refOk && 2 ≤ x.periods) then some (7, 0)
  else if (s.pipe h).active.isNone then some (8, 0)
  else if !s.admits h then some (9, 1)
  else if !(s.vidLoadOk && s.txLoadOk && (!s.flag (R.vidHeadCtlEn h) || s.vidInputOk h)) then some (9, 2)
  else none

/-- The free spares of a group, lowest first: spares not yet assigned, with a full rotation behind them (R84, R330). -/
def State.afeSpares (s : State) (g : Nat) : List Nat :=
  (List.range 38).filter fun l => s.fld (R.afeSliceCtlRole (38 * g + l)) == 1 && (s.slice (38 * g + l)).rot == 0 &&
    !((s.group g).takes.any (·.spare == l))

/-- Show the free spares of a group. -/
def State.showAfeSpares (s : State) (g : Nat) : State := s.setFld (R.afeGrpStatSpares g) (s.afeSpares g).length

/-- R73: the slices that carry the taps in use stay working; every other unretired slice becomes a free spare. -/
def State.assignRoles (s : State) (h : Nat) : State :=
  let taps := s.tapsInUse h
  let s := (List.range 38).foldl (fun s l =>
    let i := 38 * h + l
    let role := s.fld (R.afeSliceCtlRole i)
    if role = 2 || (role = 0 && taps.contains (s.fld (R.afeSliceCtlInput i))) then s
    else (s.setFld (R.afeSliceCtlRole i) 1).setFld (R.afeSliceCtlInput i) 63) s
  s.showAfeSpares h

/-- R87: threshold training runs on no slice that carries a tap of a running head: at a head start the passes of such slices are
abandoned, and the slices keep CTRIM and COMP_OK. (DEDUCED, log entry 85) -/
def State.startStopsThr (s : State) (h : Nat) : State :=
  let g := s.group h
  let (gone, stay) := g.trainThr.partition fun l => (s.tapsInUse h).contains (s.fld (R.afeSliceCtlInput (38 * h + l)))
  let s := gone.foldl (fun (s : State) (l : Nat) => s.modSlice (38 * h + l) fun x =>
    { x with train := g.trainPh.contains (s.fld (R.afeSliceCtlInput (38 * h + l))) }) s
  if gone.isEmpty then s else (s.modGroup h fun g => { g with trainThr := stay }).standEnd h

/-- The held trim steps of a slice that is retired are discarded (R86). -/
def State.dropHolds (s : State) (i : Nat) : State := s.modSlice i fun x => { x with holdG := 0, holdC := 0 }

/-- R98: the condition of the short lead under a guard in us. -/
def State.shortLead (s : State) (h guard : Nat) : Bool :=
  decide (guard * unitsPerUs * s.nRows h * s.nPer h + s.lead h * s.framePer h < 4 * s.nPer h * s.framePer h)

/-- CORR_STATUS.SHORT_LEAD shows the condition under the guard in force (R98). -/
def State.showShort (s : State) (h : Nat) : State := s.setFlag (R.corrStatusShortLead h) (s.shortLead h s.tick.guard)

/-- R62: a start request at its commit point. A refused one leaves RUN at 1. (DESIGN CHOICE, log entry 70) -/
def headStartCommit (h : Nat) (s : State) : State :=
  match s.committedReq .headStart h with
  | none => s
  | some q =>
    let s := s.dropReq q
    match s.startRefused h with
    | some (c, r1) =>
      let s := if r1 = 2 then s.refuse (0x1A0000 + 0x100 * h) else s
      ((s.refuse (0x40000 + 0x10000 * h) c).finishO q.cmd 1 c 0 r1).restartNote h 2
    | none =>
      let s := (s.setHState h 4).setFld (R.headCtlRun h) 1
      let s := s.modHead h fun x =>
        { x with contBreak := true, everStarted := false, nextSlot := 0, startCmd := q.cmd, drain := .none,
                 firstStart := match x.firstStart with | none => some s.now | t => t }
      let s := (s.startStopsThr h).assignRoles h
      let s := s.vidHeadStart h
      let s := s.showLoads.showShort h
      let s := if s.flag (R.corrStatusShortLead h) then s.raise 0x0401 h else s
      s.restartNote h 1

/-! ### Detach -/

/-- The biases ramp to 0 V; the timing stops and HPEN drops when they are there (R47, R63). (DEDUCED, log entry 68) -/
def State.rampDown (s : State) (h : Nat) : State :=
  (s.rampTo h (List.replicate 8 0)).modHead h fun x => { x with ramp0 := true }

/-- The tick of effect of a planned detach: that of a head that is idle or powering begins its ramp (R63, R406); an in-line
head is lost then (R197). -/
def State.rampAtEdge (s : State) (h : Nat) : State :=
  let s := if (s.head h).edgeDue then s.modHead h fun x => { x with edgeDue := false } else s
  if (s.head h).rampDue then ((s.modHead h fun x => { x with rampDue := false }).inlineLost h).rampDown h else s

/-- Tone and layer words written for the tick of a detach have no effect (R65): those in force stay, in the registers of
requests `same` that are dropped too. (DEDUCED, log entry 77) -/
def State.vidUnbind (s : State) (h : Nat) (same : ReqKind → Bool) : State :=
  let v := s.vidH h
  let s := if same .tone then (s.setReg (0x1A0004 + 0x100 * h) (BitVec.ofNat 32 v.tone)).setReg (0x1A0008 + 0x100 * h)
    (BitVec.ofNat 32 v.win) else s
  let s := if same .layers then s.setReg (0x1A0014 + 0x100 * h) (BitVec.ofNat 32 v.layers) else s
  s.modVidH h fun v => { v with next := (v.tone, v.win, v.layers) }

/-- R63: at its tick a planned detach takes effect; work bound to the same tick has none (R65). A HEAD_START or HEAD_ATTACH in
progress completes head-not-running. (DESIGN CHOICE, log entry 70) -/
def detachCommit (h : Nat) (s : State) : State :=
  match s.committedReq .headDetach h with
  | none => s
  | some q =>
    -- a head detached in a thermal shutdown is not restarted (R331)
    let s := ((s.dropReq q).restartNote h 0).modTherm fun x => { x with downHeads := x.downHeads.filter (· != h) }
    let st := s.hState h
    if st < 2 || (st = 5 && (s.head h).drain == .detach) then (s.refuse (0x40000 + 0x10000 * h) 1).finishO q.cmd 1 1 0 0
    else
      let same (r : Req) : Bool := r.committed && ((r.obj == h && (r.kind == .activation || r.kind == .layers ||
        r.kind == .layer3 || r.kind == .tone)) || (r.kind == .inlineChange && r.p0 == h && r.p1 == 1))
      let s := (s.reqs.filter same).foldl (fun s r => s.finishO r.cmd 3 0 0 0) s
      let l3 := s.reqs.any fun r => same r && r.kind == .layer3
      let s := s.vidUnbind h fun k => s.reqs.any fun r => same r && r.kind == k
      let s : State := { s with reqs := s.reqs.filter fun r => !same r }
      let s := if l3 then s.l3Cancel h else s
      let s := match (s.pipe h).actNext with
        | some a => (s.finishO a.2.2.1 3 0 0 0).modPipe h fun p => { p with actNext := none }
        | none => s
      let s := (s.setFld (R.headCtlRun h) 0).modHead h fun x =>
        { x with drain := .detach, detachCmd := q.cmd, detachTick := s.nextTick, attach := 0 }
      let s := s.finishHead h 3 0 (·.startCmd) fun x => { x with startCmd := none }
      let s := s.finishHead h 3 0 (·.attachCmd) fun x => { x with attachCmd := none }
      let s := s.calAbandon h 8
      let s := s.endTraining h 3
      let s := s.hlSyncStop h
      let s := s.setHState h 5
      s.modHead h fun x => { x with edgeDue := true, rampDue := !(st = 4 || st = 5) }

/-- The head's work in flight is delivered: every frame is in DRAM, its results and display frames are made, and nothing
waits to be copied (R13, R63). -/
def State.drained (s : State) (h : Nat) : Bool :=
  let x := s.head h
  let tick := s.fld R.tickCount
  x.frames.all (fun f => f.landed && f.landTick != tick) &&
    s.arr.tasks.all (fun t => t.head != h || !t.runs || t.offered) &&
    x.frames.all (fun f => 2 ≤ f.comp || (f.comp == 0 && !(s.flag R.vidCtlEn && s.flag (R.vidHeadCtlEn h)))) &&
    !(s.offers.any (·.head == h))

/-- R63, R64, R406: the work in flight is delivered. A detach does not complete its drain before its tick of effect. -/
def drainComplete (h : Nat) (s : State) : State :=
  if s.hState h = 5 && s.drained h && !(s.head h).ramp0 && !(s.head h).rampDue && !(s.head h).edgeDue then
    let s := s.inlineLost h
    let why := (s.head h).drain
    match why with
    | .detach | .none => (s.rampDown h).headStops h
    | .removal =>
      let s := ((s.modHead h fun x => { x with drain := .none }).setHState h 0).headStops h
      let again := (s.head h).again
      let s := s.modHead h fun x => { x with again := false }
      if !s.flag (R.headStatusPresent h) then s else if again then s.arrive h else s.setHState h 1
    | .stop => ((s.modHead h fun x => { x with drain := .none }).setHState h 2).headStops h
  else s

/-- R63: the biases have reached 0 V: the timing stops, HPEN drops, the head is present and the detach complete; PWR falls with
HPEN. (DESIGN CHOICE, log entry 87) -/
def detachComplete (h : Nat) (s : State) : State :=
  let x := s.head h
  if x.ramp0 then
    let s := ((s.at (s.biasEnd h)).dropPower h).headStops h
    let s := (s.setFld (R.headCtlPwr h) 0).setHState h (if s.flag (R.headStatusPresent h) then 1 else 0)
    let s := s.modHead h fun x =>
      { x with drain := .none, detachCmd := none, refOk := false }
    s.finishO x.detachCmd 0 0 x.detachTick (prevNo x.nextNo)
  else s

/-! ### Frame start -/

/-- The reference temperature of a frame enters the spread of an averaged frame (R131). -/
def State.calNote (s : State) (h : Nat) (first : Bool) (t : Nat) (stale : Bool) : State :=
  s.modCal h fun c =>
    if first then { c with tMin := t, tMax := t, tLast := t, anyStale := stale }
    else { c with tMin := min c.tMin t, tMax := max c.tMax t, tLast := t, anyStale := c.anyStale || stale }

/-- Trims and phases that apply at a frame start (R79, R88), and the weights in force (R79): rows of the frame before that are
still to be read keep its weights. -/
def State.sliceFrame (s : State) (h : Nat) : State :=
  let s := if s.flag (R.afeGrpCtlTrimAt h) then s.applyTrims h else s
  (List.range 38).foldl (fun s l =>
    let i := 38 * h + l
    let x := s.slice i
    let s := match x.phNext with
      | some p =>
        -- a spare already connected beside the slice works at the tap's new phase (R84)
        let on := i :: ((s.group h).takes.filter (·.failing == l)).map fun t => 38 * h + t.spare
        on.foldl (fun (s : State) (j : Nat) => s.setFld (R.afeSlicePhaseSphase j) p) s
      | none => s
    let w := s.fld (R.afeSliceW i)
    if x.phNext.isNone && x.wUse = w && x.wPrev = w then s
    else s.modSlice i fun x => { x with phNext := none, wPrev := x.wUse, wUse := w }) s

/-- POWERED_NS at the first sample of read row 0 on tap 0 (R41, R52, R74), rounded down: the tap's sampling phase counts.
(DESIGN CHOICE, log entry 79) -/
def State.frameT (s : State) (h edge : Nat) : Nat :=
  (edge + (64 * s.lead h + s.tapPhase h 0) * s.framePer h / (64 * s.nRows h * s.nPer h)) / unitsPerNs

/-- R26, R37, R52, R58: a head starts a frame: numbered and delivered in the running state, else only a frame period. The values
of HEAD_REF_Lk latched here evaluate the reference window that is still open; a head that starts after a wrap of TICK_COUNT
keeps the cadence of its timing. (DESIGN CHOICE, log entries 79, 87) -/
def headFrameStart (h : Nat) (s : State) : State :=
  let x := s.head h
  if !(x.due && x.timing && s.alive) then s
  else
    let edge := s.tick.edge
    let tick := s.fld R.tickCount
    let refL := (List.range 17).map fun k => s.fld (R.headRefL h k)
    let s := s.modHead h fun x =>
      { x with due := false, periods := x.periods + 1, refL, edges := (edge, 0) :: x.edges.filter fun e => s.outsDue h edge e.1 }
    let s := (s.sliceFrame h).compUpdate (1 + h)
    let s := s.hlFrame h
    if s.hState h != 4 then s.modHead h fun x => { x with idleOld := x.idleP, idleP := some { edge, tick } }
    else
      let p := s.pipe h
      let b := p.active.getD 0
      let st := s.fld R.tickStatus
      let no := x.nextNo
      let (s, held, avg) := s.calFrameStart h
      let f : Frame :=
        { no, tick, edge, slot := x.nextSlot, prev := x.lastSlot, bank := b, gen := s.fld (R.corrActiveGen h),
          tcal := s.fld (R.corrBankTcal h b), tfpa := s.fld (R.headFpaTT h), refStale := s.flag (R.headFpaTStale h),
          loff := p.loff, inv := p.inv, emap := s.flag (R.corrRadCtlEmap h), noisyBad := s.flag (R.corrCtlNoisyBad h),
          suspectBad := s.flag (R.corrCtlSuspectBad h), satRepl := s.flag (R.corrCtlSatRepl h),
          wrap := x.wrapNext, fly := nbits st 1 1 == 1, holdover := nbits st 2 1 == 1, contBreak := x.contBreak,
          src := nbits s.tick.ctl 1 2, held, heldNo := if held then prevNo (s.cal h).f0 else 0, genNew := x.genNew,
          avg, tStart := s.frameT h edge, tRead := s.readRows h (s.nRows h) }
      let s := if avg = 0 then s else s.calNote h (avg == 1) f.tfpa f.refStale
      let s := p.emisCmds.foldl (fun s u => s.finish u 0 0 no f.loff) s
      let s := s.modPipe h fun p => { p with emisCmds := [] }
      let s := s.finishO x.startCmd 0 0 tick no
      let s := s.modHead h fun x =>
        { x with frames := (x.frames ++ [f]).drop (x.frames.length + 1 - 20), startCmd := none, everStarted := true,
                 contBreak := false, genNew := false, nextNo := (no + 1) % 2 ^ 32, wrapNext := no + 1 == 2 ^ 32,
                 nextSlot := (x.nextSlot + 1) % s.fld (R.corrFmtNbuf h), lastSlot := x.nextSlot, idleOld := x.idleP, idleP := none }
      s.inlineFrame h no

/-! ### The reference (R56, R57) -/

/-- T_fpa from the sum of the reference samples (R56). -/
def tfpaOf (refL : List Nat) (diff : Bool) (sum : Int) (n : Nat) : Nat :=
  let x := rdiv (sum * (if diff then 128 else 256)) n
  let u := (x + 32768 * 256).toNat
  let i := min 15 (u / 2 ^ 20)
  let f : Int := ((u - i * 2 ^ 20 : Nat) : Int)
  let a : Int := refL.getD i 0
  let b : Int := refL.getD (i + 1) 0
  (a + rdiv ((b - a) * f) (2 ^ 20)).toNat % 2 ^ 20

/-- The attach completes once the head is idle with an accepted reference, its attach queue has run and training is over
(R61, R285). -/
def State.attachCheck (s : State) (h : Nat) : State :=
  let x := s.head h
  let g := s.group h
  if x.attach = 5 && s.hState h = 3 && x.refOk && !((s.hl h).run && (s.hl h).attach) && g.trainReq = 0 && g.trainKind = 0 then
    let s := s.attachStep h 6
    let s := s.finishO x.attachCmd 0 0 x.startTick 0
    s.modHead h fun x => { x with attach := 0, attachCmd := none }
  else s

/-- R57, R58: the reference window of a frame is evaluated: accepted, or rejected as implausible. -/
def referenceEvaluation (h : Nat) (s : State) : State :=
  let x := s.head h
  if !(x.timing && 0 < x.periods && s.alive) then s
  else
    let old := s.fld (R.headFpaTT h)
    let t := tfpaOf x.refL (s.flag (R.headRefCtlDiff h)) x.refSum x.refN
    let bad := x.refN = 0 || x.refBad || (x.everAcc && s.fld (R.headRefStep h) < max t old - min t old)
    let s := s.modHead h fun x => { x with refSum := 0, refN := 0, refBad := false }
    let s :=
      if bad then
        let s := if x.rejRun = 0 then s else s.bumpSat (R.headFpaTStaleRun h)
        let s := s.setFlag (R.headFpaTStale h) true
        let s := if x.rejRun % 64 = 0 then s.raise 0x0204 h else s
        s.modHead h fun x => { x with rejRun := x.rejRun + 1 }
      else
        let s := ((s.setFld (R.headFpaTT h) t).setFlag (R.headFpaTStale h) false).setFld (R.headFpaTStaleRun h) 0
        s.modHead h fun x => { x with rejRun := 0, everAcc := true, refOk := true }
    -- the frame that follows has started already and is not yet read (R52, R58)
    let s := match s.freshFrame h with
      | some f =>
        let v := s.fld (R.headFpaTT h)
        let st := s.flag (R.headFpaTStale h)
        let s := s.modFrame h f.no fun g => { g with tfpa := v, refStale := st }
        if f.avg = 0 then s else s.calNote h (f.avg == 1) v st
      | none => s
    let s := if bad then s else s.calTempTrigger h t
    s.attachCheck h

/-- Complete committed requests of a kind with the tick of effect. -/
def State.finishKind (s : State) (k : ReqKind) : State :=
  (s.reqs.filter fun q => q.committed && q.kind == k).foldl
    (fun (s : State) (q : Req) => (s.dropReq q).finishO q.cmd 0 0 (s.fld R.tickCount) 0) s

/-- Complete the THAW commands whose tick has come, once every head that was running has its frame (R376). -/
def State.finishThaw (s : State) : State :=
  if (List.range 4).any fun h => (s.head h).resume then s else s.finishKind .thaw

/-- R376: at the first suitable tick whose commit point follows the thaw a head that was running starts its next frame with
CONT_BREAK. -/
def thawHeadResume (h : Nat) (s : State) : State :=
  let x := s.head h
  if x.resume && s.alive && !s.ao.edgeWait && s.hState h = 4 && s.fld R.tickCount % s.divN h = s.fld (R.headCadPhase h) then
    let s := s.modHead h fun x => { x with resume := false, timing := true, due := true, div := 0, contBreak := true }
    s.finishThaw
  else s

/-! ### The commands -/

/-- HDET_N_CHANGE (R59). -/
def execHdetNChange (h : Fin 4) (high : Bool) (t : Nat) (s : State) := ok (whenBalls (hdetChange h high t)) s
/-- PRESENCE_ACCEPTED (R59). -/
def execPresenceAccepted (h : Fin 4) (s : State) := ok (whenPort (presenceAccepted h)) s
/-- HEAD_PWR_SETTLE_ELAPSED (R61). -/
def execHeadPwrSettleElapsed (h : Fin 4) (s : State) := ok (whenPort (pwrSettleElapsed h)) s
/-- BIAS_RAMP_DONE (R61). -/
def execBiasRampDone (h : Fin 4) (s : State) := ok (whenPort (biasRampDone h)) s
/-- HEAD_TIMING_START (R61). -/
def execHeadTimingStart (h : Fin 4) (s : State) := ok (whenAlive (headTimingStart h)) s
/-- HEAD_BIAS_WRITE (R47). -/
def execHeadBiasWrite (h : Fin 4) (k : Fin 8) (code : BitVec 16) (s : State) :=
  ok (whenReg (R.headBiasCode h k).off (headBiasWrite h k code.toNat)) s
/-- BIAS_FAULT (R48). -/
def execBiasFault (h : Fin 4) (k : Fin 8) (s : State) := ok (whenPort (biasFault h k)) s
/-- HEAD_CLK_START (R55). -/
def execHeadClkStart (h : Fin 4) (s : State) := ok (whenReg (R.headCtlClk h).off (headClkStart h)) s
/-- HEAD_CLK_STOP (R406). -/
def execHeadClkStop (h : Fin 4) (s : State) := ok (whenReg (R.headCtlClk h).off (headClkStop h)) s
/-- HEAD_CTL_RUN_START (R62). -/
def execHeadCtlRunStart (h : Fin 4) (s : State) :=
  ok (whenReg (R.headCtlRun h).off fun s => (s.setFld (R.headCtlRun h) 1).startReq h none) s
/-- HEAD_CTL_RUN_DETACH (R63). -/
def execHeadCtlRunDetach (h : Fin 4) (s : State) :=
  ok (whenReg (R.headCtlRun h).off fun s => (s.setFld (R.headCtlRun h) 0).detachReq h none) s
/-- HEAD_START_COMMIT (R62). -/
def execHeadStartCommit (h : Fin 4) (s : State) := ok (whenAlive (headStartCommit h)) s
/-- DETACH_COMMIT (R63). -/
def execDetachCommit (h : Fin 4) (s : State) := ok (whenPort (detachCommit h)) s
/-- DRAIN_COMPLETE (R63). -/
def execDrainComplete (h : Fin 4) (s : State) := ok (whenPort (drainComplete h)) s
/-- DETACH_COMPLETE (R63). -/
def execDetachComplete (h : Fin 4) (s : State) := ok (whenPort (detachComplete h)) s
/-- HEAD_FRAME_START (R26). -/
def execHeadFrameStart (h : Fin 4) (s : State) := ok (headFrameStart h) s
/-- REFERENCE_EVALUATION (R57). -/
def execReferenceEvaluation (h : Fin 4) (s : State) := ok (referenceEvaluation h) s
/-- THAW_HEAD_RESUME (R376). -/
def execThawHeadResume (h : Fin 4) (s : State) := ok (thawHeadResume h) s

end Sys2Proof.Machine
end

