-- ==== Sys2Proof/Machine/Afe.lean ====
section
/-!
DEFINITION. The analogue front end: conversions (R68 to R75), background calibration (R76 to R82), faults and takeover
(R83 to R86), training (R87 to R89, R405) and the group commands (R92).
-/
namespace Sys2Proof.Machine

/-! ### Conversion -/

/-- The code a slice delivers (R68, R69): tap voltage `v` in nV, offset-cancel code `a`, residual zero offset `o` in
1/16 LSB before its trim, gain code `g`. One DAC code is 2 V / 16,384, one ADC LSB 2 V / 65,536; halves go up.
(DEDUCED, log entry 13) -/
def convCode (g gtrim ctrim a : Nat) (v o : Int) : Nat :=
  let gain : Int := 2 ^ g * (6400 + 3 * ((gtrim : Int) - 128))
  let num := 16 * gain * ((v - 2000000000) * 32768 - 4000000000 * ((a : Int) - 8192))
    + (o + 8 * ((ctrim : Int) - 32)) * 6400000000000
  (clampI 0 65535 (32768 + rhalfUp num (16 * 6400000000000))).toNat

/-- Count a conversion of a slice: status-2 conversions of the row (R83), and the run of equal codes of a video tap. -/
def State.countConv (s : State) (i r d st : Nat) (video : Bool) : State :=
  let s := if st = 2 then s.bump (R.afeSliceErrcnt i) else s
  s.modSlice i fun x =>
    let e := (if x.rowNo = r then x.rowErr else 0) + (if st = 2 then 1 else 0)
    let run := if st != 0 then 0 else if 0 < x.stuckN && x.stuckD = d then x.stuckN + 1 else 1
    { x with rowNo := r, rowErr := e, stuckD := if video then d else x.stuckD, stuckN := if video then run else x.stuckN }

/-- Is a row inside the reference window? -/
def State.inRefWin (s : State) (h r : Nat) : Bool :=
  nbits (s.fld (R.headRefWin h)) 0 11 ≤ r && r ≤ nbits (s.fld (R.headRefWin h)) 11 11

/-- A reference sample enters the sum of R56. With DIFF 1 and no sample of REF_B the one of REF_A counts alone.
(DESIGN CHOICE, log entry 79) -/
def State.refSample (s : State) (h r tap d : Nat) : State :=
  if s.inRefWin h r then
    let isA := tap = 32 + s.fld (R.headRefCtlRefA h)
    let isB := s.flag (R.headRefCtlDiff h) && tap == 32 + s.fld (R.headRefCtlRefB h)
    let x : Int := (d : Int) - 32768
    s.modHead h fun y =>
      { y with refSum := y.refSum + (if isA then x else 0) - (if isB then x else 0), refN := y.refN + (if isA then 1 else 0),
               refBad := y.refBad || ((isA || isB) && (d == 0 || d == 65535)) }
  else s

/-- The free spares that stand in for the reference taps, as taps and spares (R78): one for each while there are any, the
spare that `want` names for the tap, else the lowest. (DESIGN CHOICE, log entry 69) -/
def State.standIns (s : State) (h : Nat) (want : List (Nat × Nat)) : List (Nat × Nat) :=
  (((s.tapsInUse h).filter fun k => 32 ≤ k).foldl (fun (acc : List (Nat × Nat) × List Nat) k =>
    match ((want.find? fun w => w.1 == k && acc.2.contains w.2).map (·.2)).or acc.2.head? with
    | some sp => (acc.1 ++ [(k, sp)], acc.2.erase sp)
    | none => acc) ([], s.afeSpares h)).1

/-- The code of a spare that stands in for a slice (R78); what it is outside 0 to 65535 the rule does not say.
(DESIGN CHOICE, log entry 69) -/
def State.standCode (s : State) (h l sp d : Nat) : Nat :=
  let o (k : Nat) : Int := sext 16 (s.fld (R.afeSliceOffs (38 * h + k)))
  ((d : Int) + rne (o l - o sp) 4).toNat

/-- The spares that stand in while reference slices train their thresholds (R87) are on the taps (R73): INPUT shows the tap and
ROLE stays spare, since such a spare counts as free (R84). (DESIGN CHOICE, log entry 88) -/
def State.seatStandIns (s : State) (h : Nat) : State :=
  let want := (s.standIns h (s.group h).stand).filter fun w => (s.sliceOn h w.1).any ((s.group h).trainThr.contains ·)
  if want = (s.group h).stand then s
  else
    let s := want.foldl (fun (s : State) (w : Nat × Nat) => s.setFld (R.afeSliceCtlInput (38 * h + w.2)) w.1) (s.standEnd h)
    s.modGroup h fun g => { g with stand := want }

/-- A calibration row samples a video tap only where it has no working slice (R71, R76), and a reference tap only in its
window while no spare stands in for it (R78). -/
def State.samplesTap (s : State) (h r k : Nat) : Bool :=
  !s.isCalRow h r || (k < 32 && (s.sliceOn h k).isNone) ||
    (32 ≤ k && s.inRefWin h r && !(s.standIns h []).any (·.1 == k))

/-- The weight of a slice in a frame (R79): the rows of a frame that are read after the next frame start keep their own. -/
def State.wFor (s : State) (h i : Nat) (f : Option Frame) : Nat :=
  if f.any fun f => (s.head h).edges.head?.any fun e => e.1 != f.edge then (s.slice i).wPrev else (s.slice i).wUse

/-- A row before the last ones is read: the idle period before is over (R52). -/
def State.idleRead (s : State) (h r : Nat) : State :=
  if (s.curFrame h).isNone && (s.head h).idleOld.isSome && s.lead h + (r + 1) * s.nPer h ≤ s.nRows h * s.nPer h then
    s.modHead h fun x => { x with idleOld := none }
  else s

/-- R74: the slice on input `k` samples in tap period `j` of row `r` and delivers code and status. Without a working slice
the status is 3, and a reference tap gives no sample; a conversion error gives status 2 and a code the manual does not state.
While a reference slice trains its threshold a spare stands in for it (R87). Codes with status 2 for the replacement of their
slice alone count in AFE_SLICE_ERRCNT. (DESIGN CHOICE, log entries 14, 80) -/
def pixelConversion (h r j k : Nat) (v o : Int) (err : Bool) (s : State) : State :=
  let frame := s.frameFor h r
  let running := (s.head h).timing && (s.periodFor h r).any fun f => r + f.cut < s.nRows h
  if !running || !s.samplesTap h r k || s.nPer h ≤ j then s
  else
    let tap := if k < 32 then k < s.nTaps h else (s.tapsInUse h).contains k
    if !tap then s
    else
      let s := (s.idleRead h r).fresh
      let (d, st, a, w, s) : Nat × Nat × Nat × Nat × State := match s.sliceOn h k with
        | none => ((Config.freeCode s.freeCtr).toNat, 3, 8192, 0x4000, s)
        | some l0 =>
          let l := if 32 ≤ k && (s.group h).trainThr.contains l0 then
              (((s.group h).stand.find? (·.1 == k)).map (·.2)).getD l0 else l0
          let i := 38 * h + l
          let a := if k < 32 then (s.slice i).dac else s.fld (R.headRefCtlRefAcode h)
          let c := convCode (s.fld (R.afeGrpCtlGain h)) (s.fld (R.afeSliceTrimGtrim i)) (s.fld (R.afeSliceTrimCtrim i)) a v o
          let d := if err then (Config.freeCode s.freeCtr).toNat else if l = l0 then c else s.standCode h l0 l c
          let st := if err || (s.group h).takes.any (·.failing == l) then 2 else if d = 0 || d = 65535 then 1 else 0
          (d, st, a, s.wFor h i frame, s.countConv i r d (if err then 2 else st) (k < 32))
      if k < 32 then
        if frame.isNone then s
        else
          let c := s.colOf h k j
          s.setPix h r c { s.pix h r c with have_ := true, d, a, w, st }
      else if st = 3 then s
      else s.refSample h r k d

/-! ### Background calibration (R76 to R82) -/

/-- A calibration accumulation starts afresh. -/
def Slice.restart (x : Slice) : Slice := { x with rows := 0, sumA := 0, nA := 0, sumB := 0, nB := 0, bad := false }

/-- k of R77. -/
def State.calK (s : State) (h : Nat) : Nat := 4096 / 2 ^ s.fld (R.afeGrpCtlGain h)

/-- The code the DAC holds for conversion `j` of a calibration row: 8192, or 8192 + k and 8192 - k in turn (R77).
(DEDUCED, log entry 15) -/
def State.calDac (s : State) (h : Nat) (x : Slice) (j : Nat) : Nat :=
  if x.meas = 2 then (if j % 2 = 0 then 8192 + s.calK h else 8192 - s.calK h) else 8192

/-- A calibration conversion enters the accumulation: as the first kind, or as the two kinds in turn (R77). -/
def Slice.addConv (x : Slice) (j d : Nat) (bad : Bool) : Slice :=
  let x := { x with bad := x.bad || bad }
  if x.meas = 0 || j % 2 = 0 then { x with sumA := x.sumA + d, nA := x.nA + 1 }
  else { x with sumB := x.sumB + d, nB := x.nB + 1 }

/-- One slice's conversions of a calibration row enter its accumulation; the slice returns to its tap at 8192. With BGCAL_EN
0 it is switched all the same and its accumulation starts afresh; a row that is not whole does not count (R86).
(DESIGN CHOICE, log entries 14, 69) -/
def State.calSlice (s : State) (h r l : Nat) (cs : List (Nat × Bool)) (whole : Bool) : State :=
  let i := 38 * h + l
  let k := s.fld (R.afeSliceCtlInput i)
  let x := s.slice i
  let s := (cs.zipIdx).foldl (fun s (c, j) =>
    let s := s.fresh
    let d := if c.2 then (Config.freeCode s.freeCtr).toNat else c.1
    let st := if c.2 then 2 else 0
    let s := if st = 2 then s.bump (R.afeSliceErrcnt i) else s
    let s := if k < 32 && (s.frameFor h r).isSome then
        let col := s.colOf h k j
        s.setPix h r col { s.pix h r col with have_ := true, d, a := s.calDac h x j, w := s.wFor h i (s.frameFor h r), st }
      else s
    s.modSlice i fun y =>
      let e := (if y.rowNo = r then y.rowErr else 0) + (if st = 2 then 1 else 0)
      Slice.addConv { y with rowNo := r, rowErr := e } j d (st == 2)) s
  s.modSlice i fun y =>
    let y := { y with dac := 8192 }
    if s.flag (R.afeSliceCtlBgcalEn i) then { y with rows := if whole then y.rows + 1 else y.rows } else y.restart

/-- The samples of a tap in row `r` taken before an instant (R52, R74). -/
def State.samplesBy (s : State) (h r tap t : Nat) : Nat :=
  let edge := ((s.periodFor h r).map (·.edge)).getD t
  let sp := s.tapPhase h tap
  let steps := if s.framePer h = 0 then 0 else (t - edge) * (64 * s.nRows h * s.nPer h) / s.framePer h
  let first := 64 * (s.lead h + r * s.nPer h) + sp
  if steps < first then 0 else min (s.nPer h) ((steps - first) / 64 + 1)

/-- R84 step 4, R86: the codes of a tap in the rest of a calibration row from its `from`-th sample on, while its slice is
being replaced: status 2, and a value the manual does not state. They do not count in AFE_SLICE_ERRCNT.
(DESIGN CHOICE, log entries 14, 80) -/
def State.lostSamples (s : State) (h r tap frm : Nat) : State :=
  if tap < 32 && (s.frameFor h r).isSome then
    (List.range (s.nPer h)).foldl (fun (s : State) (j : Nat) =>
      if j < frm then s
      else
        let s := s.fresh
        let c := s.colOf h tap j
        s.setPix h r c { s.pix h r c with have_ := true, d := (Config.freeCode s.freeCtr).toNat, a := 8192, w := 0x4000, st := 2 }) s
  else s

/-- R76, R78: a calibration row that is not cut: every working slice converts its calibration inputs; `codes` gives the codes of
each local slice, `stand` the taps, spares and codes of the spares that stand in for reference slices. Of a slice being replaced
only the conversions before its takeover count (R86). -/
def calRow (h r : Nat) (codes : List (Nat × List (Nat × Bool))) (stand : List (Nat × Nat × List Nat)) (s : State) : State :=
  if !((s.head h).timing && s.isCalRow h r && (s.periodFor h r).all fun f => r + f.cut < s.nRows h) then s
  else
    let s := (List.range 38).foldl (fun s l =>
      s.bumpSat (R.afeSliceStatCalAge (38 * h + l))) s
    let win := s.inRefWin h r
    let ins := if win then s.standIns h (stand.map fun x => (x.1, x.2.1)) else []
    let s := codes.foldl (fun s (l, cs) =>
      let i := 38 * h + l
      let k := s.fld (R.afeSliceCtlInput i)
      -- a reference slice in its window calibrates only while a spare stands in
      if l < 38 && s.fld (R.afeSliceCtlRole i) == 0 && (k < 32 || !win || ins.any (·.1 == k)) then
        match (s.group h).takes.find? (·.failing == l) with
        | none => s.calSlice h r l (cs.take (s.nPer h)) true
        | some t => s.calSlice h r l (cs.take (s.samplesBy h r k t.t0)) false
      else s) s
    let s := (s.group h).takes.foldl (fun (s : State) (t : Takeover) =>
      s.lostSamples h r t.tap (s.samplesBy h r t.tap t.t0)) s
    stand.foldl (fun s (k, _, ds) =>
      match s.sliceOn h k, ins.find? (·.1 == k) with
      | some l, some (_, sp) =>
        (ds.take (s.nPer h)).foldl (fun (s : State) (d : Nat) => s.refSample h r k (s.standCode h l sp d)) s
      | _, _ => s) s

/-- The result of an accumulation (R77); how it is rounded is not stated. D+ is the code at A = 8192 - k, the higher one by R68,
so that W is the positive weight of R80 and R101. (DEDUCED, log entry 15) -/
def State.calValue (s : State) (h : Nat) (x : Slice) : Int :=
  let a := x.sumA
  let b := x.sumB
  let na : Int := x.nA
  let nb : Int := x.nB
  match x.meas with
  | 0 => freeDiv (16 * (a - 32768 * na)) (max 1 na)
  | 1 => freeDiv ((10 * (a * nb - b * na) - 131072 * na * nb) * 100000) (max 1 (131072 * na * nb))
  | _ => freeDiv (4096 * (b * na - a * nb)) (max 1 (na * nb * 2 * s.calK h))

/-- The trim step an offset or gain result calls for: one code toward zero (R79). -/
def trimWant (meas : Nat) (v : Int) : Int :=
  let lim : Int := if meas = 0 then 8 else 23
  if lim < v then -1 else if v < -lim then 1 else 0

/-- Is a result refused (R80)? A trim that is held already takes no further step, unless steps apply at once. -/
def State.calRefused (s : State) (h i meas : Nat) (v : Int) (bad atOnce : Bool) : Bool :=
  let x := s.slice i
  let g := 2 ^ s.fld (R.afeGrpCtlGain h)
  let want := trimWant meas v
  bad || match meas with
  | 0 =>
    let last := sext 16 (s.fld (R.afeSliceOffs i))
    let c : Int := s.fld (R.afeSliceTrimCtrim i)
    (s.fld (R.afeGrpLimOffLimOff h) : Int) < v.natAbs || (s.fld (R.afeGrpLimOffLimOffStep h) : Int) < (v - last).natAbs ||
      (want != 0 && (atOnce || x.holdC == 0) && (c + want < 0 || 63 < c + want))
  | 1 =>
    let last := sext 16 (s.fld (R.afeSliceGerr i))
    let c : Int := s.fld (R.afeSliceTrimGtrim i)
    (s.fld (R.afeGrpLimGainLimGain h) : Int) < v.natAbs ||
      (s.fld (R.afeGrpLimGainLimGainStep h) : Int) < (v - last).natAbs ||
      (want != 0 && (atOnce || x.holdG == 0) && (c + want < 0 || 255 < c + want))
  | _ =>
    let w0 : Int := 4 * g * 4096
    let last : Int := s.fld (R.afeSliceW i)
    decide (s.fld (R.afeGrpLimWLimW h) * w0 < (v - w0).natAbs * 100000) ||
      (last != 0 && decide (s.fld (R.afeGrpLimWLimWStep h) * last < (v - last).natAbs * 100000))

/-- Hold a step of a trim: one at most, an opposite one cancels (R79). -/
def holdStep (held want : Int) : Int := if want = 0 then held else if held = 0 then want else if held = want then held else 0

/-- An accepted result (R79): trims step at once for spares and in the idle state, else they are held. A step held before stays
held then. (DESIGN CHOICE, log entry 88) -/
def State.calAccept (s : State) (i meas : Nat) (v : Int) (atOnce : Bool) : State :=
  let want := trimWant meas v
  let s := (s.setFld (R.afeSliceStatFailrun i) 0).setFld (R.afeSliceStatCalAge i) 0
  match meas with
  | 0 =>
    let s := s.setFld (R.afeSliceOffs i) (unsx 16 v)
    if atOnce then s.setFld (R.afeSliceTrimCtrim i) ((s.fld (R.afeSliceTrimCtrim i) : Int) + want).toNat
    else s.modSlice i fun x => { x with holdC := holdStep x.holdC want }
  | 1 =>
    let s := s.setFld (R.afeSliceGerr i) (unsx 16 v)
    if atOnce then s.setFld (R.afeSliceTrimGtrim i) ((s.fld (R.afeSliceTrimGtrim i) : Int) + want).toNat
    else s.modSlice i fun x => { x with holdG := holdStep x.holdG want }
  | _ =>
    let s := s.setFld (R.afeSliceW i) (clampI 0 0xFFFFF v).toNat
    if s.fld (R.afeSliceCtlRole i) = 1 then s.modSlice i fun x => { x with wUse := s.fld (R.afeSliceW i), wPrev := s.fld (R.afeSliceW i) }
    else s

/-- R79 to R81: a measurement of a working slice has its calibration rows: the result is accepted or refused. -/
def calResult (h l : Nat) (s : State) : State :=
  let i := 38 * h + l
  let x := s.slice i
  if s.fld (R.afeSliceCtlRole i) = 0 && 2 ^ s.fld (R.afeGrpCalCalAvg h) ≤ x.rows then
    let v := s.calValue h x
    let s := if s.calRefused h i x.meas v x.bad (s.hState h == 3) then s.bumpSat (R.afeSliceStatFailrun i)
      else s.calAccept i x.meas v (s.hState h == 3)
    s.modSlice i fun x => { x.restart with meas := (x.meas + 1) % 3 }
  else s

/-- A slice becomes failing (R81). -/
def State.setFailing (s : State) (h l : Nat) : State :=
  (s.setFld (R.afeSliceStatFailing (38 * h + l)) 1).raise 0x0301 h l

/-! ### Faults and takeover (R83 to R86) -/

/-- A case of R83: declared for replacement, or reported while AUTO_SWAP is 0. (DEDUCED, log entry 16) -/
def State.declareSlice (s : State) (h l case : Nat) (cmd : Option Nat) : State :=
  let g := s.group h
  if g.decl.any (·.1 == l) || g.takes.any (·.failing == l) then s
  else if case != 5 && !s.flag (R.afeGrpCtlAutoSwap h) then
    s.raise 0x0306 h (s.fld (R.afeSliceCtlInput (38 * h + l)) + l * 256) case
  else
    let s := s.modGroup h fun g => { g with decl := g.decl ++ [(l, case, cmd)] }
    if case = 5 then s else s.faultFound 1 (38 * h + l)

/-- R81: FAILRUN has reached its limit; a slice that is FAILING already raises no second event.
(DESIGN CHOICE, log entry 69) -/
def sliceFailing (h l : Nat) (s : State) : State :=
  let i := 38 * h + l
  if s.fld (R.afeSliceCtlRole i) = 0 && s.fld (R.afeGrpCalFailLim h) ≤ s.fld (R.afeSliceStatFailrun i) &&
      !s.flag (R.afeSliceStatFailing i) then
    (s.setFailing h l).declareSlice h l 1 none
  else s

/-- R83: more than HARD_LIM conversions of a row had status 2. -/
def hardFault (h l : Nat) (s : State) : State :=
  let i := 38 * h + l
  if s.fld (R.afeSliceCtlRole i) = 0 && s.fld (R.afeGrpHardHardLim h) < (s.slice i).rowErr then s.declareSlice h l 2 none
  else s

/-- R83: the same code with status 0 for 4096 conversions. -/
def stuckDetected (h l : Nat) (s : State) : State :=
  let i := 38 * h + l
  if s.fld (R.afeSliceCtlRole i) = 0 && s.flag (R.afeGrpHardStuckEn h) && 4096 ≤ (s.slice i).stuckN then
    (s.modSlice i fun x => { x with stuckN := 0 }).declareSlice h l 3 none
  else s

/-- The longest run of set bits below 64 as first and last position; which of several is free (R87, R88).
(DESIGN CHOICE, log entry 17) -/
def longestRun (free mask : Nat) : Option (Nat × Nat) :=
  let bit (i : Nat) : Bool := i < 64 && nbits mask i 1 == 1
  let starts := (List.range 64).filter fun i => bit i && (i = 0 || !bit (i - 1))
  let runs := starts.map fun a => (a, ((List.range 64).filter fun b => a ≤ b && (List.range 64).all fun c =>
    c < a || b < c || bit c).foldl max a)
  let best := (runs.map fun r => r.2 - r.1 + 1).foldl max 0
  let tops := runs.filter fun r => r.2 - r.1 + 1 == best
  tops[Config.runChoice free % tops.length]?

/-- The window edges shown: those of the longest run, and free ones where nothing was valid (R89).
(DESIGN CHOICE, log entry 17) -/
def windowEdges (free : Nat) (e : Option (Nat × Nat)) : Nat × Nat :=
  e.getD (Config.runChoice free % 64, Config.runChoice free / 64 % 64)

/-- The tap and slice of a failed pass are named with the measured window (R89, R279). -/
def State.trainFailed (s : State) (h l : Nat) (thr : Bool) (w : Nat × Nat) : State :=
  s.raise 0x0305 h (s.fld (R.afeSliceCtlInput (38 * h + l)) + l * 256 + (if thr then 65536 else 0)) (w.1 + w.2 * 256)

/-- Is a slice under requalification (R85)? -/
def State.requalifying (s : State) (h l : Nat) : Bool := (s.group h).requal.any (·.1 == l)

/-- A result of a requalification is refused: the slice will stay retired (R85). -/
def State.requalFails (s : State) (h l : Nat) : State :=
  if s.requalifying h l then s.modGroup h fun g => { g with rqBad := l :: g.rqBad.erase l } else s

/-- AFE_SLICE_WIN keeps the edges of a threshold window (R89). -/
def State.thrWindow (s : State) (h l : Nat) (w : Nat × Nat) : State :=
  let win := R.afeSliceWin (38 * h + l)
  s.setFld win (s.fld win % 65536 + w.1 * 65536 + w.2 * 2 ^ 24)

/-- A threshold result is refused (R89): COMP_OK stays 0, the training-failed event names tap and slice. -/
def State.thrFails (s : State) (h l : Nat) (w : Nat × Nat) : State :=
  ((s.setFld (R.afeSliceStatCompOk (38 * h + l)) 0).trainFailed h l true w).requalFails h l

/-- A takeover needs a spare whose threshold training is open: the pass is abandoned, its result refused (R84, R89); the edges
measured so far are not stated. (DESIGN CHOICE, log entry 17) -/
def State.thrAbandoned (s : State) (h l : Nat) : State :=
  let s := (s.modGroup h fun g => { g with trainThr := g.trainThr.erase l }).fresh
  let w := windowEdges s.freeCtr none
  (s.thrWindow h l w).thrFails h l w

/-- Refuse a group command: in AFE_ERR at the group's AFE_GRP_CMD, and in the completion. -/
def State.afeRefuse (s : State) (h cause : Nat) (cmd : Option Nat) : State :=
  (s.refuse (0xA0020 + 0x100 * h) cause).finishO cmd 1 cause 0 0

/-- R84 steps 1 and 2: the next declared replacement gets the lowest free spare, connected to the tap with its phase.
Without one, a slice with a hard fault is retired and its tap lost (R85). A fault waits for its turn (R364).
(DEDUCED, log entry 16) -/
def takeover (h : Nat) (s : State) : State :=
  match (s.group h).decl with
  | [] => s
  | (l, case, cmd) :: rest =>
    let i := 38 * h + l
    if case != 5 && !s.faultTurn 1 i then s else
    let tap := s.fld (R.afeSliceCtlInput i)
    let s := s.modGroup h fun g => { g with decl := rest }
    -- a swap command that can no longer be carried out is refused (R92)
    let refuse (s : State) (cause : Nat) : State := if case = 5 then s.afeRefuse h cause cmd else s
    if s.fld (R.afeSliceCtlRole i) != 0 then refuse s 2
    else
      match (s.afeSpares h).head? with
      | none =>
        if case = 2 || case = 3 then
          let s := ((s.setFld (R.afeSliceCtlRole i) 2).setFld (R.afeSliceCtlInput i) 63).dropHolds i
          (((s.raise 0x0304 h tap).setFld (R.afeGrpStatTapLost h) 1).faultBit 2)
        else refuse s 1
      | some sp =>
        let j := 38 * h + sp
        let s := if (s.group h).trainThr.contains sp then s.thrAbandoned h sp else s
        let s := (s.setFld (R.afeSliceCtlInput j) tap).setFld (R.afeSlicePhaseSphase j) (s.fld (R.afeSlicePhaseSphase i))
        let s := s.modSlice j fun x => { x with train := false }
        let s := s.modGroup h fun g => { g with takes := g.takes ++ [{ failing := l, spare := sp, tap, case, cmd, t0 := s.now }] }
        let s := (s.seatStandIns h).showAfeSpares h
        -- the passes still open go on with the next spare (R88)
        let s := if (s.group h).trainPh.isEmpty then s
          else match (s.afeSpares h).head? with
            | some next => s.modSlice (38 * h + next) fun x => { x with train := true }
            | none => s
        if s.calState h = 3 then s.calTakeover h else s

/-- R82, R86: a failing spare is retired and lost; in its own takeover the next free spare is assigned from step 1. -/
def State.spareFails (s : State) (h l : Nat) : State :=
  let i := 38 * h + l
  let s := s.setFailing h l
  let s := (((s.setFld (R.afeSliceCtlRole i) 2).setFld (R.afeSliceCtlInput i) 63).dropHolds i).seatStandIns h
  let s := (s.raise 0x0302 h l).faultBit 3
  match (s.group h).takes.find? (·.spare == l) with
  | none => s.showAfeSpares h
  | some t =>
    takeover h (s.modGroup h fun g => { g with takes := g.takes.erase t, decl := (t.failing, t.case, t.cmd) :: g.decl })

/-- The conversions of one measurement of a disconnected slice (R77, R82), over 2^CAL_AVG rows. -/
def State.spareConvs (s : State) (h l : Nat) (cs : List (Nat × Bool)) : State :=
  let i := 38 * h + l
  let n := 2 ^ s.fld (R.afeGrpCalCalAvg h) * s.nPer h
  (cs.take n).zipIdx.foldl (fun (s : State) (c : (Nat × Bool) × Nat) =>
    let s := s.fresh
    let d := if c.1.2 then (Config.freeCode s.freeCtr).toNat else c.1.1
    let s := if c.1.2 then s.bump (R.afeSliceErrcnt i) else s
    s.modSlice i fun x => x.addConv c.2 d c.1.2) (s.modSlice i fun x => x.restart)

/-- The check and the effect of a measurement of a disconnected slice that has its conversions (R80, R81): refused or accepted,
trims at once; the next measurement follows. -/
def State.spareMeasure (s : State) (h l : Nat) (refused : Bool) : State :=
  let i := 38 * h + l
  let x := s.slice i
  let s := if refused then s.bumpSat (R.afeSliceStatFailrun i) else s.calAccept i x.meas (s.calValue h x) true
  s.modSlice i fun x => { x.restart with meas := (x.meas + 1) % 3, rot := x.rot - 1, rqN := x.rqN + 1 }

/-- Is the measurement that a slice has accumulated refused (R80)? -/
def State.spareRefused (s : State) (h l : Nat) : Bool :=
  let x := s.slice (38 * h + l)
  s.calRefused h (38 * h + l) x.meas (s.calValue h x) x.bad true

/-- The conversions of a spare's measurement in order: their codes, and the positions of those with status 2. -/
def convs (codes errs : List Nat) : List (Nat × Bool) := codes.zipIdx.map fun c => (c.1, errs.contains c.2)

/-- R82: a spare with BGCAL_EN completes a background measurement from the conversions `cs`, or a slice under requalification
one of its three rotations (R85). During its own takeover only a refused one of a spare counts (R86).
(DEDUCED, log entry 16) -/
def spareCalResult (h l : Nat) (cs : List (Nat × Bool)) (s : State) : State :=
  let i := 38 * h + l
  let role := s.fld (R.afeSliceCtlRole i)
  let spare := role = 1 && !(s.slice i).train && s.flag (R.afeSliceCtlBgcalEn i)
  let requal := role = 2 && s.requalifying h l && (s.slice i).rqThr
  if cs.length < 2 ^ s.fld (R.afeGrpCalCalAvg h) * s.nPer h || !(spare || requal) then s
  else
    let taking := (s.group h).takes.any (·.spare == l)
    let s := s.spareConvs h l cs
    let refused := s.spareRefused h l
    if spare && taking && !refused then s.modSlice i fun x => x.restart
    else
      let s := s.spareMeasure h l refused
      if requal then (if refused then s.requalFails h l else s)
      else if s.fld (R.afeGrpCalFailLim h) ≤ s.fld (R.afeSliceStatFailrun i) then s.spareFails h l
      else s.showAfeSpares h

/-- R84 steps 3 to 6: from tap period 0 of row `r` the spare works the tap; the failing slice is retired. -/
def spareTakesTap (h l r : Nat) (s : State) : State :=
  match (s.group h).takes.find? (·.failing == l) with
  | none => s
  | some t =>
    let i := 38 * h + l
    let j := 38 * h + t.spare
    let s := s.modGroup h fun g => { g with takes := g.takes.erase t }
    let s := (s.setFld (R.afeSliceCtlRole i) 2).setFld (R.afeSliceCtlInput i) 63
    let s := (s.setFld (R.afeSliceCtlRole j) 0).setFld (R.afeSliceCtlInput j) t.tap
    -- a weight accepted in this frame is discarded with the slice (R86); the tap's pending phase goes to the spare, and what of
    -- a training run the tap still waits for trains it (R88)
    let s := if s.flag (R.afeSliceCtlBgcalEn i) then s.setFld (R.afeSliceW i) (s.slice i).wUse else s
    let ph := (s.slice i).phNext
    let s := s.modSlice i fun x => { x with holdG := 0, holdC := 0, phNext := none }
    let s := s.modSlice j fun x =>
      { x.restart with wUse := s.fld (R.afeSliceW j), wPrev := s.fld (R.afeSliceW j), stuckN := 0, rowErr := 0, phNext := ph,
                       train := (s.group h).trainPh.contains t.tap }
    let frame := s.frameFor h r
    let no := (frame.map (·.no)).getD ((s.newFrame h).map (·.no) |>.getD (s.head h).nextNo)
    let s : State := match frame with
      | some f => s.modFrame h f.no fun g => { g with sliceChg := true, sliceRows := g.sliceRows ++ [r] }
      | none => s
    let s := s.raise 0x0303 h (t.tap + l * 256 + t.spare * 65536) (r % 2048 + no % 65536 * 65536)
    let s := if t.case = 5 then s else s.handled 1
    let s := s.finishO t.cmd 0 0 t.spare r
    let s := s.showAfeSpares h
    let s : State := if s.calState h = 3 then s else s.calTakeover h
    if s.flag (R.afeGrpCtlTrainAuto h) && !(s.afeSpares h).isEmpty then
      s.modGroup h fun g =>
        { g with trainTaps := g.trainTaps ++ [t.tap],
                 trainReq := if g.trainReq = 0 && g.trainKind = 0 then 3 else g.trainReq }
    else s

/-- R85: requalification of a retired slice ends, at instant t, once its threshold training and its three full rotations have
run, or a result was refused; it returns as a spare if every result was accepted. FAILING clears with it. (DESIGN CHOICE, log
entry 69) -/
def requalifyDone (h l t : Nat) (s : State) : State :=
  match (s.group h).requal.find? (·.1 == l) with
  | none => s
  | some q =>
    let i := 38 * h + l
    let bad := (s.group h).rqBad.contains l
    if !bad && !((s.slice i).rqThr && 9 ≤ (s.slice i).rqN) then s
    else
      let s := (s.at t).modGroup h fun g => { g with requal := g.requal.erase q, rqBad := g.rqBad.erase l }
      let s := s.modSlice i fun x => { x with train := false, rqThr := false, rqN := 0 }
      let s := if bad then s
        else ((s.setFld (R.afeSliceCtlRole i) 1).setFld (R.afeSliceStatFailrun i) 0).setFld (R.afeSliceStatFailing i) 0
      (s.showAfeSpares h).finishO q.2 0 0 (if bad then 0 else 1) 0

/-! ### Training (R87 to R89, R405) -/

/-- R405: a requested run starts in the idle or running state; at attach once the attach queue has run. A reference slice trains
its threshold where a spare is free for its tap (R87). -/
def trainingStart (h : Nat) (s : State) : State :=
  let g := s.group h
  let st := s.hState h
  let waits := (s.hl h).run && (s.hl h).attach
  if g.trainReq = 0 || g.trainKind != 0 || !(st = 3 || st = 4) || (g.trainReq = 1 && waits) then s
  else
    let free := s.afeSpares h
    let taps := s.tapsInUse h
    let carriers := taps.filterMap fun k => (s.sliceOn h k).map fun l => (k, l)
    let thr := if g.trainReq = 3 then []
      else (if st = 3 then (carriers.filter fun c => c.1 < 32 || (s.standIns h []).any (·.1 == c.1)).map (·.2) else []) ++ free
    let ph := if free.isEmpty then [] else if g.trainReq = 3 then g.trainTaps.take 1 else taps
    let s := s.modGroup h fun g =>
      { g with trainReq := 0, trainKind := g.trainReq, trainThr := thr, trainPh := ph, trainAcc := 0, trainRef := 0,
               trainTaps := if g.trainReq = 3 then g.trainTaps.drop 1 else g.trainTaps }
    -- the slices of the taps, and the spare that steps or is the reference of their passes (R88)
    let on := thr ++ ph.filterMap (s.sliceOn h ·) ++ (if ph.isEmpty then [] else free.take 1)
    let s := on.foldl (fun s l => s.modSlice (38 * h + l) fun x => { x with train := true }) s
    (s.setFld (R.afeGrpStatTraining h) 1).seatStandIns h

/-- Is a window refused for its width (R89)? -/
def State.narrow (s : State) (h : Nat) (e : Option (Nat × Nat)) : Bool :=
  match e with
  | none => true
  | some w => decide (w.2 - w.1 + 1 < s.fld (R.afeGrpTrainTrainMinw h))

/-- The conversions of a code or of a phase step: those of TRAIN_ROWS rows. -/
def State.trainConvs (s : State) (h : Nat) : Nat := s.fld (R.afeGrpTrainTrainRows h) * s.nPer h

/-- The codes or steps, as a mask, that pass a test. -/
def maskOf (ok : Nat → Bool) : Nat := (List.range 64).foldl (fun m k => if ok k then m + 2 ^ k else m) 0

/-- The valid codes of R87: `errs` tells of every conversion at each code whether its status was 2. -/
def State.thrMask (s : State) (h : Nat) (errs : List (List Bool)) : Nat :=
  let n := s.trainConvs h
  maskOf fun k => let e := (errs.getD k []).take n; n ≤ e.length && e.all (!·)

/-- CTRIM steps through its codes (R87); the conversions with status 2 count (R90). -/
def State.thrSteps (s : State) (h l : Nat) (errs : List (List Bool)) : State :=
  let i := 38 * h + l
  (List.range 64).foldl (fun (s : State) (k : Nat) =>
    (s.setFld (R.afeSliceTrimCtrim i) k).bump (R.afeSliceErrcnt i)
      (((errs.getD k []).take (s.trainConvs h)).countP fun e => e)) s

/-- R87, R89: threshold training of a slice ends: CTRIM goes to the centre of the longest run of valid codes, or back to what
it was; `lost` tells that a takeover took the spare of its pass. -/
def thresholdResult (h l : Nat) (errs : List (List Bool)) (lost : Bool) (s : State) : State :=
  let rq := s.requalifying h l && !(s.slice (38 * h + l)).rqThr
  if !(s.group h).trainThr.contains l && !rq then s
  else
    let i := 38 * h + l
    let old := s.fld (R.afeSliceTrimCtrim i)
    let s := (s.modGroup h fun g => { g with trainThr := g.trainThr.erase l }).seatStandIns h
    let s := if rq then s.modSlice i fun x => { x with rqThr := true, train := false } else s
    let s := (s.thrSteps h l errs).fresh
    let e := longestRun s.freeCtr (s.thrMask h errs)
    let w := windowEdges s.freeCtr e
    let s := s.thrWindow h l w
    let c := (w.1 + w.2) / 2
    if s.narrow h e || c < 16 || 47 < c || lost then
      let s := (s.setFld (R.afeSliceTrimCtrim i) old).thrFails h l w
      if s.fld (R.afeSliceCtlRole i) = 0 then s.declareSlice h l 4 none else s
    else ((s.setFld (R.afeSliceTrimCtrim i) c).setFld (R.afeSliceStatCompOk i) 1).modSlice i fun x => { x with holdC := 0 }

/-- The valid steps of R88: in `steps` the codes of the stepping and of the reference slice. The differences of a step, less
their mean, are within TRAIN_TOL, pairs with a saturated code apart. -/
def State.phMask (s : State) (h : Nat) (steps : List (List (Nat × Nat))) : Nat :=
  let n := s.trainConvs h
  let tol : Int := s.fld (R.afeGrpTrainTrainTol h)
  maskOf fun k =>
    let ps := (steps.getD k []).take n
    let sum := (ps.map fun p => (p.1 : Int) - p.2).sum
    let sat (d : Nat) : Bool := d = 0 || d = 65535
    n ≤ ps.length && ps.all fun p =>
      sat p.1 || sat p.2 || decide (((((p.1 : Int) - p.2) * ps.length - sum).natAbs : Int) ≤ tol * ps.length)

/-- R88: in the idle state a free spare is the reference of a video tap's pass, at SPHASE = TRAIN_REF. -/
def State.phReference (s : State) (h tap : Nat) : State :=
  match (s.afeSpares h).head? with
  | some sp =>
    if s.hState h = 3 && tap < 32 then s.setFld (R.afeSlicePhaseSphase (38 * h + sp)) (s.fld (R.afeGrpTrainTrainRef h)) else s
  | none => s

/-- The code both slices of a pass hold (R88): in the running state the one of the working slice; else the active table's for the
pixel, here of the pass's last row, whose number the manual does not state, or REF_ACODE for reference taps and without an
active table. (DESIGN CHOICE, log entry 80) -/
def State.trainAcode (s : State) (h tap l : Nat) : Nat :=
  match (s.pipe h).active with
  | some b =>
    if 32 ≤ tap then s.fld (R.headRefCtlRefAcode h)
    else if s.hState h = 4 then (s.slice (38 * h + l)).dac
    else
      let r := Config.runChoice s.freeCtr % max 1 (s.nRows h)
      recAcode (s.rd (s.recBase h b + 16 * (r * s.nCols h + s.colOf h tap (s.nPer h - 1))) 16)
  | none => s.fld (R.headRefCtlRefAcode h)

/-- The working slice of a tap and the free spare beside it hold the pass's code (R88). -/
def State.trainDacs (s : State) (h tap l : Nat) : State :=
  let a := s.trainAcode h tap l
  (l :: (s.afeSpares h).take 1).foldl (fun (s : State) (k : Nat) => s.modSlice (38 * h + k) fun x => { x with dac := a }) s

/-- R88, R89: phase training of a tap ends; an accepted phase applies at the next frame start. Without a free spare the pass
was abandoned. -/
def phaseResult (h tap : Nat) (steps : List (List (Nat × Nat))) (lost : Bool) (s : State) : State :=
  if !(s.group h).trainPh.contains tap then s
  else
    let s := s.modGroup h fun g => { g with trainPh := g.trainPh.erase tap }
    match s.sliceOn h tap with
    | none => s.modGroup h fun g => { g with trainRef := g.trainRef + 1 }
    | some l =>
      let i := 38 * h + l
      let lost := lost || (s.afeSpares h).isEmpty
      let s := ((s.phReference h tap).fresh).trainDacs h tap l
      let e := longestRun s.freeCtr (s.phMask h steps)
      let w := windowEdges s.freeCtr e
      let win := s.fld (R.afeSliceWin i)
      let s := s.setFld (R.afeSliceWin i) (win / 65536 * 65536 + w.1 + w.2 * 256)
      if s.narrow h e || lost then
        ((s.setFld (R.afeSliceStatPhaseOk i) 0).trainFailed h l false w).modGroup h
          fun g => { g with trainRef := g.trainRef + 1 }
      else
        let s := (s.setFld (R.afeSliceStatPhaseOk i) 1).modSlice i fun x => { x with phNext := some ((w.1 + w.2) / 2) }
        s.modGroup h fun g => { g with trainAcc := g.trainAcc + 1 }

/-- R89: every pass of the run has ended. -/
def trainingDone (h : Nat) (s : State) : State :=
  let g := s.group h
  if g.trainKind != 0 && g.trainThr.isEmpty && g.trainPh.isEmpty then
    let s := s.finishO g.trainCmd 0 0 g.trainAcc g.trainRef
    let s := s.endTraining h 0
    let s := if g.trainTaps.isEmpty then s else s.modGroup h fun x => { x with trainReq := 3, trainTaps := g.trainTaps }
    s.attachCheck h
  else s

/-! ### Group commands (R92) -/

def State.afeIdleOrRun (s : State) (h : Nat) : Bool := s.hState h == 3 || s.hState h == 4

/-- OP 1: train; while a run is requested it is refused as while one runs. (DESIGN CHOICE, log entry 80) -/
def State.afeTrain (s : State) (h : Nat) (cmd : Option Nat) : State :=
  let g := s.group h
  if g.trainKind != 0 || g.trainReq != 0 then s.afeRefuse h 3 cmd
  else if !s.afeIdleOrRun h then s.afeRefuse h 4 cmd
  else if (s.afeSpares h).isEmpty then s.afeRefuse h 6 cmd
  else s.modGroup h fun g => { g with trainReq := 2, trainCmd := cmd }

/-- OP 2: swap. A slice that is declared already or being replaced is no working slice any more (cause 2); to a ring command for a
slice that a swap is replacing the answer is busy (R274). (DESIGN CHOICE, log entry 69) -/
def State.afeSwap (s : State) (h l : Nat) (cmd : Option Nat) : State :=
  let g := s.group h
  let same := g.decl.any (fun d => d.1 == l && d.2.1 == 5) || g.takes.any fun t => t.failing == l && t.case == 5
  if cmd.isSome && same then s.finishO cmd 0x0A 0 0 0
  else if (s.afeSpares h).isEmpty then s.afeRefuse h 1 cmd
  else if 38 ≤ l || s.fld (R.afeSliceCtlRole (38 * h + l)) != 0 || g.decl.any (·.1 == l) || g.takes.any (·.failing == l) then
    s.afeRefuse h 2 cmd
  else if !s.afeIdleOrRun h then s.afeRefuse h 4 cmd
  else s.declareSlice h l 5 cmd

/-- OP 3: requalify. For a slice under requalification already the register path is refused with cause 5, and to a ring command the
answer is busy (R274). (DESIGN CHOICE, log entry 69) -/
def State.afeRequalify (s : State) (h l : Nat) (cmd : Option Nat) : State :=
  if cmd.isSome && (s.group h).requal.any (·.1 == l) then s.finishO cmd 0x0A 0 0 0
  else if !s.afeIdleOrRun h then s.afeRefuse h 4 cmd
  else if 38 ≤ l || s.fld (R.afeSliceCtlRole (38 * h + l)) != 2 || (s.group h).requal.any (·.1 == l) then s.afeRefuse h 5 cmd
  else (s.modGroup h fun g => { g with requal := g.requal ++ [(l, cmd)] }).modSlice (38 * h + l) fun x =>
    { x.restart with train := true, rqThr := false, rqN := 0, meas := 0 }

/-! ### The commands -/

/-- PIXEL_CONVERSION (R74). -/
def execPixelConversion (h : Fin 4) (r j : Nat) (k : Fin 36) (v o : Int) (err : Bool) (s : State) :=
  ok (whenAlive (pixelConversion h r j k v o err)) s
/-- CAL_ROW (R76). -/
def execCalRow (h : Fin 4) (r : Nat) (codes : List (Nat × List (Nat × Bool))) (stand : List (Nat × Nat × List Nat))
    (s : State) := ok (whenAlive (calRow h r codes stand)) s
/-- CAL_RESULT (R79). -/
def execCalResult (h : Fin 4) (l : Fin 38) (s : State) := ok (whenAlive (calResult h l)) s
/-- SLICE_FAILING (R81). -/
def execSliceFailing (h : Fin 4) (l : Fin 38) (s : State) := ok (whenAlive (sliceFailing h l)) s
/-- SPARE_CAL_RESULT (R82). -/
def execSpareCalResult (h : Fin 4) (l : Fin 38) (codes errs : List Nat) (s : State) :=
  ok (whenAlive (spareCalResult h l (convs codes errs))) s
/-- HARD_FAULT_DETECTED (R83). -/
def execHardFaultDetected (h : Fin 4) (l : Fin 38) (s : State) := ok (whenAlive (hardFault h l)) s
/-- STUCK_DETECTED (R83). -/
def execStuckDetected (h : Fin 4) (l : Fin 38) (s : State) := ok (whenAlive (stuckDetected h l)) s
/-- TAKEOVER (R84). -/
def execTakeover (h : Fin 4) (s : State) := ok (whenAlive (takeover h)) s
/-- SPARE_TAKES_TAP (R84). -/
def execSpareTakesTap (h : Fin 4) (l : Fin 38) (r : Nat) (s : State) := ok (whenAlive (spareTakesTap h l r)) s
/-- REQUALIFY_DONE (R85). -/
def execRequalifyDone (h : Fin 4) (l : Fin 38) (t : Nat) (s : State) := ok (whenAlive (requalifyDone h l t)) s
/-- TRAINING_START (R405). -/
def execTrainingStart (h : Fin 4) (s : State) := ok (whenAlive (trainingStart h)) s
/-- THRESHOLD_TRAINING_RESULT (R87). -/
def execThresholdTrainingResult (h : Fin 4) (l : Fin 38) (errs : List (List Bool)) (lost : Bool) (s : State) :=
  ok (whenAlive (thresholdResult h l errs lost)) s
/-- PHASE_TRAINING_RESULT (R88). -/
def execPhaseTrainingResult (h : Fin 4) (tap : Fin 36) (steps : List (List (Nat × Nat))) (lost : Bool) (s : State) :=
  ok (whenAlive (phaseResult h tap steps lost)) s
/-- TRAINING_DONE (R89). -/
def execTrainingDone (h : Fin 4) (s : State) := ok (whenAlive (trainingDone h)) s
/-- AFE_CMD_TRAIN (R92). -/
def execAfeCmdTrain (g : Fin 4) (s : State) := ok (whenReg (R.afeGrpCmd g).off fun s => s.afeTrain g none) s
/-- AFE_CMD_SWAP (R92). -/
def execAfeCmdSwap (g : Fin 4) (l : Fin 64) (s : State) := ok (whenReg (R.afeGrpCmd g).off fun s => s.afeSwap g l none) s
/-- AFE_CMD_REQUALIFY (R92). -/
def execAfeCmdRequalify (g : Fin 4) (l : Fin 64) (s : State) := ok (whenReg (R.afeGrpCmd g).off fun s => s.afeRequalify g l none) s

end Sys2Proof.Machine
end

