-- ==== Sys2Proof/Machine/Act.lean ====
section
/-!
DEFINITION. Actuator drivers: starts, stops and clears (R147, R148, R154, R158), phases and profile ends (R143, R146),
faults (R153), the position input (R155), sense zero (R156), charge (R149) and VACT (R159).
-/
namespace Sys2Proof.Machine

/-- A start by the host, at once or at a tick (R147); in a thermal shutdown it waits for the restart (R329). -/
def State.actHostStart (s : State) (c slot : Nat) (atTick : Bool) (cmd : Option Nat) : State :=
  if atTick then s.request { kind := .actStart, obj := c, p0 := slot, cmd }
  else if s.alive then s.actStart c slot .host cmd
  else { s with therm := { s.therm with starts := s.therm.starts ++ [(c, slot)] } }

/-- R147: a start bound to a tick takes effect; starts of one edge go in channel order, those of the sequencers included
(R152). (DEDUCED, log entry 19) -/
def actStartAtTick (c : Nat) (s : State) : State :=
  if (s.reqs.any fun r => r.committed && r.kind == .actStart && decide (r.obj < c)) ||
    ((List.range 4).any fun h => decide (shutCh h < c) && s.seqStartDue h) then s
  else s.actTickStart c

/-- A start that waits or is queued is cancelled. -/
def State.actCancel (s : State) (c code : Nat) : State :=
  let x := s.act c
  let s : State := { (s.setActState c (if s.flag (R.actChCtlEn c) then 1 else 0)) with actQ := s.actQ.erase c }
  (s.modAct c fun x => { x with cmd := none }).finishO x.cmd 0 0 code 0

/-- A stop (R148, R158): slow decay at 0 until the current is below 10 mA, or the end of a wait. It is refused on a
reserved shutter (R157). One cancels a start that waits for a restart as well. Answers whether it was accepted. -/
def State.actStop (s : State) (c : Nat) : State × Bool :=
  if s.reserved c then (s.refuse (0x110034 + 0x100 * c) 4, false)
  else if s.actState c = 4 then ((s.modAct c fun x => { x with stopping := true }).setBridge c (.regulate false 0 0), true)
  else if s.actState c = 2 || s.actState c = 3 then (s.actCancel c 1, true)
  else ({ s with therm := { s.therm with starts := s.therm.starts.filter (·.1 != c) } }, true)

/-- Has a channel used more than 9/8 of its budget (R150)? -/
def State.overBudget (s : State) (c : Nat) : Bool := s.fld (R.actChBudget c) * 9 < 8 * s.charge c

/-- Does the condition of a channel's fault persist (R154)? The bridge coasts, so the loop is open.
(DEDUCED, log entry 19) -/
def State.faultPersists (s : State) (c : Nat) : Bool :=
  let i (k : Nat) : Nat := (sext 11 (s.fld (R.actChI k))).natAbs
  let v := s.fld R.actVact
  match s.fld (R.actChStatFault c) with
  | 1 => 1000 < (s.act c).peakI.natAbs || 1000 < (s.act c).valleyI.natAbs
  | 4 => s.overBudget c
  | 5 => v < 4500 || 17500 < v
  | 6 => 2200 < ((List.range 8).map i).sum
  | _ => false

/-- The clear command (R154). Answers whether it was accepted. -/
def State.actClear (s : State) (c : Nat) : State × Bool :=
  if s.actState c != 5 then (s, true)
  else if s.faultPersists c then (s.refuse (0x110034 + 0x100 * c) 4, false)
  else (((s.setActState c (if s.flag (R.actChCtlEn c) then 1 else 0)).setFld (R.actChStatFault c) 0).setBridge c .highZ, true)

/-- R148: the minimum off time of a waiting start is over. -/
def actMinoffElapsed (c : Nat) (s : State) : State :=
  if s.actState c = 2 then
    (s.at ((((s.act c).lastEnd).getD 0) + s.fld (R.actChMinoff c) * unitsPerMs)).runOrQueue c
  else s

/-- R152: the oldest queued start runs once the peaks allow it. -/
def actQueueRelease (s : State) : State :=
  match s.actQ with
  | [] => s
  | c :: t =>
    if s.peakSum + s.peak c (s.fld (R.actChStatSlot c)) ≤ s.fld R.actTotalLim then
      ({ s with actQ := t } : State).runProfile c
    else s

/-- What a bridge does after a period of these samples: one that coasts is at high impedance once its current is gone (R142,
R144). -/
def State.bridgeAfter (s : State) (c : Nat) (pk vy : Int) : Bridge :=
  if (s.act c).bridge == .coast && decide ((pk + vy).natAbs < 20) then .highZ else (s.act c).bridge

/-- The samples of a PWM period; ACT_CH_I shows their mean (R145). (DESIGN CHOICE, log entry 71) -/
def State.sample (s : State) (c : Nat) (pk vy : Int) : State :=
  let b := s.bridgeAfter c pk vy
  let pk := clampI (-1023) 1023 pk
  let vy := clampI (-1023) 1023 vy
  (s.setFld (R.actChI c) (unsx 11 (freeDiv (pk + vy) 2))).modAct c fun x => { x with peakI := pk, valleyI := vy, bridge := b }

/-- The samples of a PWM period, and the charge since the last report (R149). -/
def State.measure (s : State) (c : Nat) (pk vy : Int) (q : Nat) : State :=
  ((s.sample c pk vy).modAct c fun x => { x with cur := x.cur + q }).showUsed c

/-- A channel faults (R153, R154): it coasts, its profile is abandoned, and on a shutter a running event too. -/
def State.actFault (s : State) (c cause : Nat) : State :=
  let x := s.act c
  let st := s.actState c
  let run := st == 4
  let t := if run then s.profTime c else 0
  let ph := if run then s.fld (R.actChStatPhase c) else 0
  let slot := s.fld (R.actChStatSlot c)
  let s : State := { s with actQ := s.actQ.erase c }
  let s := ((s.setActState c 5).setFld (R.actChStatFault c) cause).bump (R.actChFaults c)
  let s := s.raise 0x0602 c (cause + ph * 16 + slot * 256) t
  let s := s.modAct c fun x =>
    { x with last := false, stopping := false, cmd := none, lastEnd := if run then some s.now else x.lastEnd,
             bridge := .coast }
  let s := s.finishO x.cmd 0 0 (8 + cause) t
  if c % 2 = 0 then s.calAbandon (c / 2) 1 else s

/-- R150: a running channel over its budget faults with cause 4. -/
def State.budgetFault (s : State) (c : Nat) : State :=
  if s.actState c = 4 && s.overBudget c then s.actFault c 4 else s

/-- R143: the running phase reaches its duration; the next begins, or the channel coasts to its end (R146). -/
def actPhaseEnd (c : Nat) (pk vy : Int) (q : Nat) (s : State) : State :=
  let x := s.act c
  if s.actState c = 4 && !x.last && !x.stopping then
    let slot := s.fld (R.actChStatSlot c)
    let p := s.fld (R.actChStatPhase c)
    let w := s.fld (R.actChPhase c slot p)
    let t := x.phaseT + phDur w * 10 * unitsPerUs
    let s := ((s.at t).measure c pk vy q).budgetFault c
    if s.actState c != 4 then s
    else if p + 1 < s.slotLen c slot then
      (s.setFld (R.actChStatPhase c) (p + 1)).modAct c fun x => { x with phaseT := t, bridge := s.phaseBridge c (p + 1) }
    else s.modAct c fun x => { x with last := true, bridge := .coast }
  else s

/-- R146, R158: after the last phase or a stop, a period, over at instant t, whose measured current is below 10 mA ends the
profile. -/
def actProfileEnd (c : Nat) (pk vy : Int) (t q : Nat) (s : State) : State :=
  let s := ((s.at t).measure c pk vy q).budgetFault c
  let x := s.act c
  if s.actState c = 4 && (x.last || x.stopping) && decide ((pk + vy).natAbs < 20) then
    s.profileEnd c (if x.stopping then 1 else 0)
  else s

/-- The first condition of R153 that holds for a channel. `per`: its last PWM periods, newest first: was the duty at its
maximum, and the peak and valley samples. `mv`: VACT. `tot`: the current summed over all channels in the last periods.
(DEDUCED, log entry 76) -/
def State.faultCause (s : State) (c : Nat) (per : List (Bool × Int × Int)) (mv : Nat) (tot : List Nat) : Option Nat :=
  let run := s.actState c == 4
  let last32 := per.take 32
  let ago (k : Nat) : Nat := s.now - k * 20 * unitsPerUs
  let pairs := last32.map (·.2)
  if per.head?.any (fun x => 1000 < x.2.1.natAbs || 1000 < x.2.2.natAbs) then some 1
  else if run && last32.length == 32 && last32.zipIdx.all (fun (x, k) => x.1 && match s.targetAt c (ago k) with
      | some (v, d) => 40 * d ≤ v.natAbs && decide (2 * (x.2.1 + x.2.2).natAbs * d < v.natAbs)
      | none => false) then some 2
  else if run && pairs.length == 32 && pairs.all (fun x => x.1 == x.2 && pairs.head? == some x) &&
      (List.range 32).all (fun k => (s.targetAt c (ago k)).isSome) then some 3
  else if run && s.overBudget c then some 4
  else if run && (mv < 4500 || 17500 < mv) then some 5
  else if run && 5 ≤ tot.length && (tot.take 5).all (2200 < ·) then some 6
  else none

/-- R153: at instant t the first condition that holds faults the channel, whose newest samples are shown; those of the supply and
of the total current fault every running channel. -/
def actuatorFault (c : Nat) (per : List (Bool × Int × Int)) (mv : Nat) (tot : List Nat) (t : Nat) (s : State) : State :=
  let s := s.at t
  let s := match per with
    | x :: _ => s.sample c x.2.1 x.2.2
    | [] => s
  let hit (s : State) (k : Nat) (per : List (Bool × Int × Int)) : State :=
    if s.actState k = 5 then s
    else match s.faultCause k per mv tot with
      | some cause => s.actFault k cause
      | none => s
  (List.range 8).foldl (fun s k => if k = c then s else if s.actState k = 4 then hit s k [] else s) (hit s c per)

/-- POS shows the filtered level, inverted by POS_POL; without POS_EN it reads 0 (R155). -/
def State.posOf (s : State) (c : Nat) : Bool :=
  s.flag (R.actChCtlPosEn c) && ((s.act c).posHigh != s.flag (R.actChCtlPosPol c))

/-- Show POS; each change raises a position event (R155). -/
def State.showPos (s : State) (c : Nat) : State :=
  let p := s.posOf c
  if p == s.flag (R.actChStatPos c) then s else (s.setFlag (R.actChStatPos c) p).raise 0x0603 c (if p then 1 else 0)

/-- R155: `n` samples of APOSk at one level, 10 us apart: a level stable for POSDEB passes the filter.
(DEDUCED, log entry 19) -/
def aposChange (c : Nat) (high : Bool) (n : Nat) (s : State) : State :=
  if s.flag (R.actChCtlPosEn c) then
    let x := s.act c
    let run := if x.posLvl == high then x.posRun + n else n
    (s.modAct c fun x =>
      { x with posLvl := high, posRun := min run 1000,
               posHigh := if s.fld (R.actChPosdeb c) ≤ 10 * run then high else x.posHigh }).showPos c
  else s

/-- R156: an idle enabled channel measures its sense zero. -/
def senseZeroCal (c : Nat) (v : Int) (s : State) : State :=
  if s.actState c = 1 then
    let x := s.act c
    if 20 < v.natAbs || 5 < (v - x.zero).natAbs then
      let s := s.raise 0x0604 c
      if 3 ≤ x.zeroRej then (s.modAct c fun x => { x with zeroRej := 0 }).actFault c 3
      else s.modAct c fun x => { x with zeroRej := x.zeroRej + 1 }
    else s.modAct c fun x => { x with zero := v, zeroRej := 0 }
  else s

/-- One bin of the charge window: WINDOW x 0.1 s / 64 (R149). -/
def State.binLen (s : State) (c : Nat) : Nat := s.fld (R.actChWindow c) * 100 * unitsPerMs / 64

/-- The instant the current bin of a channel ends: bins end at whole multiples of their length, the first at the one that has
come or comes next. (DESIGN CHOICE, log entry 71) -/
def State.binEnd (s : State) (c : Nat) : Nat :=
  match (s.act c).binT with
  | some t => (t / s.binLen c + 1) * s.binLen c
  | none => ceilDiv (max 1 s.now) (s.binLen c) * s.binLen c

/-- R149: the window advances by one bin; the charge since the last report enters the bin that ends. -/
def chargeBinAdvance (c q : Nat) (pk vy : Int) (s : State) : State :=
  let t := s.binEnd c
  let s := ((s.at t).measure c pk vy q).budgetFault c
  (s.modAct c fun x => { x with bins := (x.cur :: x.bins).take 63, cur := 0, binT := some t }).showUsed c

/-- Is a slot running, or reserved for a shutter event (R143)? -/
def State.slotHeld (s : State) (c slot : Nat) : Bool :=
  (s.reserved c && ((slot == s.fld (R.calProfClose (c / 2)) && (s.act c).rsvClose.isSome) ||
    (slot == s.fld (R.calProfOpen (c / 2)) && (s.act c).rsvOpen.isSome))) ||
  (s.actState c == 4 && s.fld (R.actChStatSlot c) == slot)

/-- May a phase word be written (R143)? -/
def State.phaseOk (s : State) (c slot w : Nat) : Bool :=
  phDur w != 0 && decide (phMode w < 5) && decide ((phItgt w).natAbs ≤ s.fld (R.actChIlim c)) && !s.slotHeld c slot

/-- R143: a phase word is stored or refused. -/
def actPhaseWrite (c slot p w : Nat) (s : State) : State :=
  if s.phaseOk c slot w then s.setFld (R.actChPhase c slot p) w else s.refuse (0x110080 + 0x100 * c + 0x20 * slot + 4 * p)

/-- R159: VACT is measured. -/
def vactMeasurement (mv : Nat) (s : State) : State := s.setFld R.actVact (min mv 0xFFFF)

/-! ### The commands -/

/-- ACT_CMD_START (R147). -/
def execActCmdStart (c : Fin 8) (slot : Fin 4) (atTick : Bool) (s : State) :=
  ok (whenReg (R.actChCmd c).off fun s => s.actHostStart c slot atTick none) s
/-- ACT_CMD_STOP (R158). -/
def execActCmdStop (c : Fin 8) (s : State) := ok (whenReg (R.actChCmd c).off fun s => (s.actStop c).1) s
/-- ACT_CMD_CLEAR (R154). -/
def execActCmdClear (c : Fin 8) (s : State) := ok (whenReg (R.actChCmd c).off fun s => (s.actClear c).1) s
/-- ACT_START_AT_TICK (R147). -/
def execActStartAtTick (c : Fin 8) (s : State) := ok (whenAlive (actStartAtTick c)) s
/-- ACT_MINOFF_ELAPSED (R148). -/
def execActMinoffElapsed (c : Fin 8) (s : State) := ok (whenAlive (actMinoffElapsed c)) s
/-- ACT_QUEUE_RELEASE (R152). -/
def execActQueueRelease (s : State) := ok (whenAlive actQueueRelease) s
/-- ACT_PHASE_END (R143). -/
def execActPhaseEnd (r : Fin 8 × (Int × Int) × Nat) (s : State) :=
  ok (whenAlive (actPhaseEnd r.1 r.2.1.1 r.2.1.2 r.2.2)) s
/-- ACT_PROFILE_END (R146). -/
def execActProfileEnd (c : Fin 8) (i : (Int × Int) × Nat) (q : Nat) (s : State) :=
  ok (whenAlive (actProfileEnd c i.1.1 i.1.2 i.2 q)) s
/-- ACTUATOR_FAULT (R153). -/
def execActuatorFault (c : Fin 8) (m : List (Bool × Int × Int) × Nat × List Nat × Nat) (s : State) :=
  ok (whenAlive (actuatorFault c m.1 m.2.1 m.2.2.1 m.2.2.2)) s
/-- APOS_CHANGE (R155). -/
def execAposChange (c : Fin 8) (x : Bool × Nat) (s : State) := ok (whenAlive (whenBalls (aposChange c x.1 x.2))) s
/-- SENSE_ZERO_CAL (R156). -/
def execSenseZeroCal (c : Fin 8) (v : Int) (s : State) := ok (whenAlive (senseZeroCal c v)) s
/-- CHARGE_BIN_ADVANCE (R149). -/
def execChargeBinAdvance (c : Fin 8) (q : Nat) (i : Int × Int) (s : State) := ok (whenAlive (chargeBinAdvance c q i.1 i.2)) s
/-- ACT_PHASE_WRITE (R143). -/
def execActPhaseWrite (c : Fin 8) (slot : Fin 4) (p : Fin 8) (w : BitVec 32) (s : State) :=
  ok (whenReg (R.actChPhase c slot p).off (actPhaseWrite c slot p w.toNat)) s
/-- VACT_MEASUREMENT (R159). -/
def execVactMeasurement (mv : Nat) (s : State) := ok (whenUp (vactMeasurement mv)) s

end Sys2Proof.Machine
end

