-- ==== Sys2Proof/Machine/Crypto.lean ====
section
/-!
DEFINITION. The checks of a firmware image (R360, R361): SHA-256 (FIPS 180-4), and the verification of an ECDSA signature on
the curve P-256 (FIPS 186). Digests, coordinates and signature halves are byte strings, most significant byte first, as those
standards write them.
-/
namespace Sys2Proof.Machine

/-! ### SHA-256 -/

/-- The big-endian number of a list of bytes. -/
def beNat (l : List Nat) : Nat := l.foldl (fun a b => 256 * a + b) 0
/-- n big-endian bytes. -/
def beBytes (n v : Nat) : List Nat := (leBytes n v).reverse.map (·.toNat)

/-- The primes up to 311: the digest's constants are the roots of the first 64 of them. -/
def digestPrimes : List Nat :=
  (List.range 312).filter fun n => 2 ≤ n && (List.range 16).all fun d => d + 2 == n || n % (d + 2) != 0

/-- The largest number below 2^`b`, added to `r` in steps of halving powers of two, whose `k`-th power is at most `n`. -/
def rootFrom (k n : Nat) : Nat → Nat → Nat
  | 0, r => r
  | b + 1, r => rootFrom k n b (if (r + 2 ^ b) ^ k ≤ n then r + 2 ^ b else r)

/-- The first 32 bits of the fraction of the `k`-th root of `p`. -/
def rootFraction (k p : Nat) : Nat := rootFrom k (p * 2 ^ (32 * k)) 40 0 % 2 ^ 32

/-- What the digest adds in each of its 64 rounds: the fractions of the cube roots of the first 64 primes. -/
def roundAddends : List Nat := digestPrimes.map (rootFraction 3)
/-- What the digest starts from: the fractions of the square roots of the first 8 primes. -/
def startWords : List Nat := (digestPrimes.take 8).map (rootFraction 2)

/-- The exclusive or of a 32-bit number turned right by each of `places`. -/
def turned (places : List Nat) (x : Nat) : Nat :=
  places.foldl (fun acc k => acc ^^^ (x * (2 ^ 32 + 1) / 2 ^ k % 2 ^ 32)) 0

/-- The digest in the middle of a block: the next 16 words of the schedule, oldest first, and the last four values of its two
sequences, newest first. -/
structure Digest where
  window : List Nat
  hi : List Nat
  lo : List Nat
deriving DecidableEq, Repr

/-- One round with its addend: both sequences gain a value, and the window moves on by a word. -/
def Digest.advance (d : Digest) (addend : Nat) : Digest :=
  let w (k : Nat) : Nat := d.window.getD k 0
  let hi (k : Nat) : Nat := d.hi.getD k 0
  let lo (k : Nat) : Nat := d.lo.getD k 0
  let chosen := lo 2 ^^^ (lo 0 &&& (lo 1 ^^^ lo 2))
  let common := (hi 0 &&& (hi 1 ||| hi 2)) ||| (hi 1 &&& hi 2)
  let gain := addend + w 0 + lo 3 + turned [6, 11, 25] (lo 0) + chosen
  let fresh := w 0 + w 9 + (turned [7, 18] (w 1) ^^^ w 1 / 8) + (turned [17, 19] (w 14) ^^^ w 14 / 1024)
  { window := d.window.drop 1 ++ [fresh % 2 ^ 32]
    hi := (gain + turned [2, 13, 22] (hi 0) + common) % 2 ^ 32 :: d.hi.take 3
    lo := (gain + hi 3) % 2 ^ 32 :: d.lo.take 3 }

/-- One 64-byte block on the eight chaining words. -/
def absorb (chain block : List Nat) : List Nat :=
  let words := (List.range 16).map fun i => beNat ((block.drop (4 * i)).take 4)
  let d := roundAddends.foldl Digest.advance ⟨words, chain.take 4, chain.drop 4⟩
  List.zipWith (fun x y => (x + y) % 2 ^ 32) chain (d.hi ++ d.lo)

/-- The 32-byte digest of a message: the message is followed by a one bit, zeros and its length in bits, to a whole number of
blocks. (PRESUMED, log entry 30) -/
def sha256 (m : List Nat) : List Nat :=
  let blocks := (m.length + 72) / 64
  let padded := m ++ 128 :: (List.replicate (64 * blocks - m.length - 9) 0 ++ beBytes 8 (8 * m.length))
  let chain := (List.range blocks).foldl (fun c k => absorb c ((padded.drop (64 * k)).take 64)) startWords
  chain.flatMap (beBytes 4)

/-! ### P-256 -/

def ecP : Nat := 0xffffffff00000001000000000000000000000000ffffffffffffffffffffffff
def ecN : Nat := 0xffffffff00000000ffffffffffffffffbce6faada7179e84f3b9cac2fc632551
def ecB : Nat := 0x5ac635d8aa3a93e7b3ebbd55769886bc651d06b0cc53b0f63bce3c3e27d2604b
def ecG : Nat × Nat :=
  (0x6b17d1f2e12c4247f8bce6e563a440f277037d812deb33a0f4a13945d898c296,
   0x4fe342e2fe1a7f9b8ee7eb4a7c0f9e162bce33576b315ececbb6406837bf51f5)

/-- x^e modulo m, by the low `n` bits of e. -/
def powMod (m : Nat) : Nat → Nat → Nat → Nat
  | 0, _, _ => 1 % m
  | n + 1, x, e => (if e % 2 = 1 then x else 1) * powMod m n (x * x % m) (e / 2) % m

/-- The inverse modulo a prime below 2^256. -/
def invMod (m x : Nat) : Nat := powMod m 256 (x % m) (m - 2)

/-- Sum of two points; none is the point at infinity. -/
def ecAdd : Option (Nat × Nat) → Option (Nat × Nat) → Option (Nat × Nat)
  | none, q => q
  | p, none => p
  | some (x1, y1), some (x2, y2) =>
    if x1 = x2 && (y1 + y2) % ecP = 0 then none
    else
      let l := if x1 = x2 then (3 * x1 * x1 + (ecP - 3)) * invMod ecP (2 * y1) % ecP
        else (y2 + (ecP - y1)) * invMod ecP (x2 + (ecP - x1)) % ecP
      let x3 := (l * l + 2 * ecP - x1 - x2) % ecP
      some (x3, (l * (x1 + (ecP - x3)) + (ecP - y1)) % ecP)

/-- k times a point, by the low `n` bits of k. -/
def ecMul : Nat → Nat → Option (Nat × Nat) → Option (Nat × Nat)
  | 0, _, _ => none
  | n + 1, k, p => ecAdd (if k % 2 = 1 then p else none) (ecMul n (k / 2) (ecAdd p p))

/-- Is a pair a point of the curve? -/
def ecOn (q : Nat × Nat) : Bool :=
  q.1 < ecP && q.2 < ecP && q.2 * q.2 % ecP == (q.1 * q.1 * q.1 + (ecP - 3) * q.1 + ecB) % ecP

/-- ECDSA verification of (r, s) over a digest e with the public key q. (PRESUMED, log entry 30) -/
def ecdsaOk (q : Nat × Nat) (e r s : Nat) : Bool :=
  if !(ecOn q && 0 < r && r < ecN && 0 < s && s < ecN) then false
  else
    let w := invMod ecN s
    match ecAdd (ecMul 256 (e * w % ecN) (some ecG)) (ecMul 256 (r * w % ecN) (some q)) with
    | none => false
    | some (x, _) => x % ecN == r

/-! ### Images (R360, R361) -/

/-- The bytes of words a to b of an image. -/
def imgBytes (img : List Nat) (a b : Nat) : List Nat := (img.drop (4 * a)).take (4 * (b + 1 - a))
/-- Word k of an image. -/
def imgWord (img : List Nat) (k : Nat) : Nat := beNat (imgBytes img k k).reverse

/-- The first check of R361 that an image fails, coded as AO_HOLD.BOOT (2 format, 3 key, 4 SVN, 5 digest, 6 signature), or 0.
`keys` are the programmed hashes of the key slots, `rev` the revoked slots. (DEDUCED, log entry 31) -/
def imageCheck (keys : List (List Byte)) (rev : List Nat) (svnMin : Nat) (img : List Nat) : Nat :=
  let w := imgWord img
  let len := w 3
  let key := nbits (w 2) 16 2
  let zeros := (([5, 6, 7] ++ (List.range 16).map (48 + ·)).all fun k => w k == 0) && nbits (w 2) 18 14 == 0
  if !(nbits (w 0) 0 16 == 0x5A17 && nbits (w 0) 16 16 == 1 && key != 3 && len % 64 == 0 && 64 ≤ len && len ≤ 4194048 &&
      w 4 < len && zeros) then 2
  else if rev.contains key || sha256 (imgBytes img 32 47) != (keys.getD key []).map (·.toNat) then 3
  else if nbits (w 2) 0 16 < svnMin then 4
  else if sha256 ((img.drop 256).take len) != imgBytes img 8 15 then 5
  else
    let q := (beNat (imgBytes img 32 39), beNat (imgBytes img 40 47))
    let e := beNat (sha256 (imgBytes img 0 15))
    if ecdsaOk q e (beNat (imgBytes img 16 23)) (beNat (imgBytes img 24 31)) then 0 else 6

end Sys2Proof.Machine
end

