-- ==== Sys2Proof/Machine/Mem.lean ====
section
/-!
DEFINITION. The memory system: the lottery arbiter (R225 to R228), inheritance (R234), starvation and rebalancing (R230,
R407), ticket writes (R232), refresh (R222), the debug port (R223) and the scrubber (R236 to R239).
-/
namespace Sys2Proof.Machine

/-! ### The lottery (R225, R226) -/

/-- One step of a channel's LFSR: Galois form of x^32 + x^22 + x^2 + x + 1, shifting right. -/
def lfsrStep (l : Nat) : Nat := if l % 2 = 1 then (l / 2) ^^^ 0x80200003 else l / 2

/-- The channel of a device address (R217). -/
def chanOf (a : Nat) : Nat := a / 1792 % 2

/-- A legal requester burst: 16 to 256 bytes in one aligned 256-byte block (R217). -/
def burstOk (a n : Nat) : Bool := 16 ≤ n && n ≤ 256 && a % 256 + n ≤ 256

/-! ### Mire ports (R233, R234) -/

/-- The engines of a mire with a request waiting: they count as active (R233). -/
def State.activeEngs (s : State) (m : Nat) : List Nat :=
  ((List.range 24).map (24 * m + ·)).filter fun e => (s.engRequest e).isSome

/-- The engine whose request a mire's port brings to a channel: round robin after the one served last (R233). -/
def State.portNext (s : State) (m ch : Nat) : Option Nat :=
  let es := (s.activeEngs m).filter fun e => (s.engRequest e).any fun r => chanOf r.2.1 == ch
  match es.find? (fun e => (s.mire m).port < e % 24) with
  | some e => some e
  | none => es.head?

/-- The requesters with a burst waiting for a channel, in requester order. -/
def State.contenders (s : State) (ch : Nat) : List Nat :=
  (List.range 16).filter fun i =>
    if i < 8 then s.msys.waits.any fun b => b.req == i && chanOf b.addr == ch else (s.portNext (i - 8) ch).isSome

/-- The tickets a requester draws with: mire ports inherit from their active engines of the moment (R234). -/
def State.drawTickets (s : State) (i : Nat) : Nat :=
  if s.flag R.memCtlInherit && 8 ≤ i then min 255 (s.fld R.memArbEtkt * (s.activeEngs (i - 8)).length)
  else s.fld (R.memArbTickets i)

/-! ### A decision -/

/-- The first contender whose running total exceeds r. -/
def lotteryWalk (tickets : Nat → Nat) (r : Nat) : Nat → List Nat → Option Nat
  | _, [] => none
  | acc, i :: t => if r < acc + tickets i then some i else lotteryWalk tickets r (acc + tickets i) t

/-- The next contender round robin after the last one served. -/
def rrNext (last : Nat) (cs : List Nat) : Option Nat :=
  match cs.find? (fun i => last < i) with
  | some i => some i
  | none => cs.head?

/-- A decision of a channel's arbiter: the winner, the LFSR after it, and the round-robin place after it.
(DEDUCED, log entry 33) -/
def State.lottery (s : State) (ch : Nat) : Option Nat × Nat × Nat :=
  let l := if ch = 0 then s.msys.lfsr0 else s.msys.lfsr1
  let rr := if ch = 0 then s.msys.rr0 else s.msys.rr1
  let owner := if ch = 0 then s.msys.owner0 else s.msys.owner1
  let cs := s.contenders ch
  match cs with
  | [] => (none, l, rr)
  | c :: t =>
    if t = [] && owner == some c then (some c, l, rr)
    else
      let tot := (cs.map s.drawTickets).sum
      if tot = 0 then
        let w := rrNext rr cs
        (w, l, w.getD rr)
      else (lotteryWalk s.drawTickets (l * tot / 2 ^ 32) 0 cs, lfsrStep l, rr)

/-- Bursts arrive at an instant: each waits, or is refused outside device DRAM: a read answers zeros, and either answers an
error (R218). -/
def State.arrivals (s : State) (t : Nat) : List (Nat × Bool × Nat × Nat × List Byte) → State
  | [] => s
  | (req, wr, addr, len, data) :: r =>
    let s := if inDram addr len then
        s.modMem fun m => { m with waits := m.waits ++ [{ req, wr, addr, len, data, since := t }] }
      else (s.oor req addr).answer req 2 (if wr then [] else List.replicate len 0)
    s.arrivals t r

/-- The instant since when a requester's oldest burst waits (R230). -/
def State.waitsSince (s : State) (i : Nat) : Option Nat :=
  if i < 8 then (s.msys.waits.find? (·.req == i)).map (·.since)
  else (((s.activeEngs (i - 8)).filterMap s.engRequest).map (·.1.since)).min?

/-- The burst that a winner brings to a channel, taken from those that wait. -/
def State.takeBurst (s : State) (i ch : Nat) : Option (Burst × State) :=
  if i < 8 then
    (s.msys.waits.find? fun b => b.req == i && chanOf b.addr == ch).map fun b =>
      (b, s.modMem fun m => { m with waits := m.waits.erase b })
  else
    (s.portNext (i - 8) ch).bind fun e => (s.engRequest e).map fun (t, a, n) =>
      ({ req := i, wr := t.put, addr := a, len := n, since := t.since, eng := some (e, t.tag, t.done) },
       (s.modXfer e t.tag fun t => { t with done := t.done + n, since := s.now }).modMire (i - 8) fun x => { x with port := e % 24 })

/-- R217, R223, R225, R226, R233: bursts arrive; the channel's interrupted burst resumes without a draw, or its arbiter decides
and the winner's burst runs, for `cut` units where an emergency requester then takes the grant. -/
def dramBurst (ch : Nat) (arr : List (Nat × Bool × Nat × Nat × List Byte)) (cut : Option Nat) (t : Nat) (s : State) : State :=
  let s := ((s.modMem fun m => { m with answers := [] }).at t).arrivals t arr
  match s.runOn ch with
  | some b => s.runBurst ch b cut
  | none =>
    let (w, l, rr) := s.lottery ch
    let s := s.modMem fun m =>
      if ch = 0 then { m with lfsr0 := l, rr0 := rr, owner0 := w.or m.owner0 } else { m with lfsr1 := l, rr1 := rr, owner1 := w.or m.owner1 }
    match w.bind fun i => (s.takeBurst i ch).map fun p => (i, p) with
    | none => s
    | some (i, b, s') =>
      -- the waiting timer stops with the grant of the oldest burst (R230)
      let s' := if s.waitsSince i = some b.since then s'.modMem fun m => { m with timed := m.timed.filter (·.1 != i) } else s'
      (s'.bump (R.memArbGrants i)).runBurst ch b cut

/-! ### Starvation (R230, R407) -/

/-- R230: the waiting timer of a requester exceeds its limit: once for each oldest burst. -/
def starvation (i t : Nat) (s : State) : State :=
  let s := s.at t
  let lim := s.fld (R.memArbStarveLim i)
  match s.waitsSince i with
  | none => s
  | some since =>
    if lim != 0 && !s.msys.timed.contains (i, since) && since + lim * 10 * unitsPerNs < t then
      let st := s.fld R.memArbStarveStat
      let s := (s.bump (R.memArbStarveCnt i)).modMem fun m => { m with timed := m.timed.filter (·.1 != i) ++ [(i, since)] }
      if nbits st i 1 = 1 then s else (s.setFld R.memArbStarveStat (st + 2 ^ i)).raise 0x0903 i lim
    else s

/-- One ticket is taken: from the mire ports round robin from port p, else from Sluice (R407). -/
def State.takeTicket (s : State) (i p : Nat) : Option (Nat × Nat) :=
  let port := if s.flag R.memCtlInherit then none
    else ((List.range 8).map fun k => (p + k) % 8).find? fun m => 8 + m != i && 1 < s.fld (R.memArbTickets (8 + m))
  match port with
  | some m => some (8 + m, (m + 1) % 8)
  | none => if i != 6 && 1 < s.fld (R.memArbTickets 6) then some (6, p) else none

/-- Gather up to n tickets for requester i; the number taken. -/
def State.gather (s : State) (i : Nat) : Nat → Nat → Nat → Nat × State
  | 0, _, got => (got, s)
  | n + 1, p, got =>
    match s.takeTicket i p with
    | none => (got, s)
    | some (j, p') => (s.setFld (R.memArbTickets j) (s.fld (R.memArbTickets j) - 1)).gather i n p' (got + 1)

/-- R407: the rebalance of firmware at work (R367) after a starvation event of requester i. (DEDUCED, log entry 33) -/
def rebalance (i : Nat) (s : State) : State :=
  let st := s.fld R.memArbStarveStat
  if s.fwRuns && s.flag R.memCtlRebal && nbits st i 1 = 1 then
    let t := s.fld (R.memArbTickets i)
    let want := min (max 1 (ceilDiv t 4)) (255 - t)
    let (got, s) := s.gather i want 0 0
    (((s.setFld (R.memArbTickets i) (t + got)).setFld R.memArbStarveStat (st - 2 ^ i))).retest
  else s

/-! ### Ticket writes (R228, R232, R234) -/

def ticketWrite (i v : Nat) (s : State) : State := (s.setFld (R.memArbTickets i) v).retest
def inheritWrite (b : Bool) (s : State) : State := (s.setFlag R.memCtlInherit b).retest
def etktWrite (v : Nat) (s : State) : State := if 10 < v then s.refuse 0x1B0008 2 else (s.setFld R.memArbEtkt v).retest

/-! ### Requester reset (R235) -/

/-- Drop a requester's waiting bursts, its timer and its parked grant; a burst of it that has the grant runs to its end
without effect. A block transfer whose request is dropped gets no more requests. (DESIGN CHOICE, log entry 73) -/
def State.dropRequester (s : State) (i : Nat) : State :=
  let off (b : Burst) : Burst := if b.req = i then { b with off := true } else b
  let s := if i < 8 then s else (s.activeEngs (i - 8)).foldl (fun (s : State) (e : Nat) =>
    match s.engRequest e with
    | some (t, _) => s.modXfer e t.tag fun t => { t with lost := true }
    | none => s) s
  s.modMem fun m =>
    { m with waits := m.waits.filter (·.req != i), timed := m.timed.filter (·.1 != i),
             owner0 := if m.owner0 = some i then none else m.owner0,
             owner1 := if m.owner1 = some i then none else m.owner1,
             run0 := m.run0.map off, run1 := m.run1.map off }

/-! ### Refresh and the debug port -/

/-- The refresh rate for the hotter of TS12 and TS13, in 1/16 degree C (R222). -/
def refreshRate (t : Int) : Nat := if t < 85 * 16 then 0 else if t < 105 * 16 then 1 else 2

/-- R222: a refresh; it takes the grant at the end of a unit, and the rate follows the hotter DRAM sensor. -/
def refresh (s : State) : State :=
  s.setFld R.memRefreshRate (refreshRate (max (sext 13 (s.fld (R.thermTs 12))) (sext 13 (s.fld (R.thermTs 13)))))

/-- An access from outside waits for the memory system. -/
def State.hold (s : State) (x : Held) : State := s.modMem fun m => { m with held := m.held ++ [x] }

/-- The bytes of a debug access, in device DRAM. -/
def debugBytes (wr : Bool) (a : Nat) (n : Nat) (data : List Byte) (s : State) : State :=
  if wr then s.dramWrite 16 a data
  else
    let r := s.dramRead 16 a n
    { r.2.2 with reply := r.1.map (·.toNat) }

/-- R223: an access of the debug port takes the grant without a draw; an interrupted burst waits to resume. During a thermal
shutdown it waits until restart (R329); a freeze does not hold it (R373). (DEDUCED, log entry 33) -/
def debugAccess (wr : Bool) (a : Nat) (n : Nat) (data : List Byte) (s : State) : State :=
  if s.ao.shut then s.hold { req := 16, wr, addr := a, len := n, data } else debugBytes wr a n data s

/-- Load the DEBUG register: address, data, operation and status (R375). -/
def State.setDebug (s : State) (addr data op status : Nat) : State :=
  { s with ao := { s.ao with ir := 0x21, debug := addr + 2 ^ 64 * data + 2 ^ 96 * op + 2 ^ 98 * status } }

/-- The word a DEBUG operation reads from device DRAM, or writes there: status 2 where R218 refuses it. -/
def debugDram (wr : Bool) (a v : Nat) (s : State) : State :=
  if wr then (s.dramWrite 16 a (leBytes 4 v)).setDebug a v 2 (if inDram a 4 then 0 else 2)
  else
    let r := s.dramRead 16 a 4
    { r.2.2.setDebug a (leNat r.1) 1 (if r.2.1 = .refused then 2 else 0) with reply := [leNat r.1] }

/-- A DEBUG operation on device DRAM: during a thermal shutdown it stays busy, status 1, until restart (R329). -/
def debugWord (wr : Bool) (a v : Nat) (s : State) : State :=
  if s.ao.shut then (s.hold { req := 17, wr, addr := a, len := 4, data := leBytes 4 v }).setDebug a v (if wr then 2 else 1) 1
  else debugDram wr a v s

/-! ### Regions (R238, R239) -/

/-- The table regions: head, bank, base, length, and whether it is the record area (R94, R95, R236). -/
def State.tableRegions (s : State) : List (Nat × Nat × Nat × Nat × Bool) :=
  (List.range 4).flatMap fun h => (List.range 2).flatMap fun b =>
    let r := s.recBase h b
    let l := s.lutBase h b
    (if r = 0 then [] else [(h, b, r, 16 * s.nCols h * s.nRows h, true)]) ++ (if l = 0 then [] else [(h, b, l, 0x8800, false)])

/-- The frame regions the device registers (R238): base and length. -/
def State.frameRegions (s : State) : List (Nat × Nat) :=
  ((List.range 4).flatMap fun h =>
    let n := s.fld (R.corrFmtNbuf h)
    (((List.range 5).filter (s.fmtOn h)).map fun f => (s.base (R.corrOutLo h f) (R.corrOutHi h f), n * s.fmtSize h f)) ++
      [(s.lstatAddr h 0 0, 4096 * n), (s.dispAddr h 0, s.dispAddr h n - s.dispAddr h 0)]) ++
    ((s.arr.tasks.filter (·.en)).map fun t => (t.outBase, t.outSlot * t.nslot)) ++
    ((s.msys.rgns.filter fun r => r.2.2.2 == 1).map fun r => (r.2.1, r.2.2.1))

/-- Is an address in a region? -/
def inRgn (a base len : Nat) : Bool := base ≤ a && a < base + len

/-- The kind of region that holds an address: 0 table, 1 frame, 2 data, 3 free (R238, R239). -/
def State.rgnKind (s : State) (a : Nat) : Nat :=
  if s.tableRegions.any (fun r => inRgn a r.2.2.1 r.2.2.2.1) then 0
  else if s.frameRegions.any (fun r => inRgn a r.1 r.2) then 1
  else if s.msys.rgns.any (fun r => r.2.2.2 == 2 && inRgn a r.2.1 r.2.2.1) then 2
  else 3

/-- The bytes of the slot that an offered frame or result lies in. -/
def State.slotBytes (s : State) (o : Offer) : Nat :=
  if o.kind < 5 then s.fmtSize o.head o.kind
  else if o.kind = 5 then 4096
  else if o.kind = 6 then s.dispAddr o.head 1 - s.dispAddr o.head 0
  else o.bytes

/-- Mark repaired the frame last written to the slot that holds an address, while its delivery is not complete (R238): one that
is still being written, a display frame in composition or a task's result in the making, or else the newest offered. -/
def State.markFrame (s : State) (a : Nat) : State :=
  let writing (h : Nat) (f : Frame) : Bool := !f.landed && (((List.range 5).any fun k => s.fmtOn h k &&
      inRgn a (s.outAddr h k f.slot 0 0) (s.fmtSize h k)) || inRgn a (s.lstatAddr h f.slot 0) 4096)
  let drawing (h : Nat) (c : Comp) : Bool := c.started && inRgn a (s.dispAddr h c.slot) (2 * s.actW h * s.actH h)
  let making (t : Task) : Bool := t.runs && !t.offered && inRgn a (t.outBase + t.no % t.nslot * t.outSlot) t.outSlot
  let busy := s.arr.tasks.any making || (List.range 4).any fun h =>
    (s.head h).frames.any (writing h) || (s.vidH h).work.any (drawing h)
  if busy then
    let s := (List.range 4).foldl (fun (s : State) (h : Nat) =>
      (s.modHead h fun x =>
        { x with frames := x.frames.map fun f => if writing h f then { f with repaired := true } else f }).modVidH h fun v =>
        { v with work := v.work.map fun c => if drawing h c then { c with bad := true } else c }) s
    s.modArr fun r => { r with tasks := r.tasks.map fun t => if making t then
      { t with repaired := true, resRepaired := t.resRepaired || t.resNo == some t.no } else t }
  else
    match s.offers.reverse.find? fun o => inRgn a o.addr (s.slotBytes o) with
    | none => s
    | some o =>
      let mark (p : Offer) : Offer :=
        if p = o && nbits (p.ws.getD 1 0) 1 1 == 0 then { p with ws := p.ws.set 1 (p.ws.getD 1 0 + 2) } else p
      { s with offers := s.offers.map mark }

/-- The scrubber meets an uncorrectable group (R238). -/
def State.scrubUe (s : State) (g : Nat) : State :=
  let a := 8 * g
  let k := s.rgnKind a
  let s := ((s.bump R.memUeCnt).set64 R.memEccAddrLo R.memEccAddrHi a).raise 0x0906 0 a k
  let s := s.faultBit 5
  match k with
  | 0 =>
    match s.tableRegions.find? (fun r => inRgn a r.2.2.1 r.2.2.2.1) with
    | some (h, b, base, _, true) => s.noteRepair h b ((a - base) / 16)
    | _ => s
  | 1 => s.markFrame a
  | 2 => s
  | _ => (s.putBytes a (List.replicate 8 0)).setEcc g 0

/-- The scrubber reads one 256-byte block (R236, R237). -/
def State.scrubAt (s : State) (a : Nat) : State :=
  (groupsOf a 256).foldl (fun s g =>
    match tget (fun _ => 0) s.ecc g with
    | 1 => (((s.bump R.memCeCnt).set64 R.memEccAddrLo R.memEccAddrHi (8 * g)).setEcc g 0).handled 3
    | 2 => s.scrubUe g
    | _ => s) s

/-- The blocks of the table regions, in order. -/
def State.tableBlock (s : State) (n : Nat) : Option Nat :=
  (s.tableRegions.foldl (fun (p : Nat × Option Nat) r =>
    let k := ceilDiv r.2.2.2.1 256
    match p.2 with
    | some a => (p.1, some a)
    | none => if n < p.1 + k then (p.1, some (r.2.2.1 + 256 * (n - p.1))) else (p.1 + k, none)) (0, none)).2

/-- R236: the scrubber's next block, of the full pass or of the table walk. -/
def scrubBlock (table : Bool) (s : State) : State :=
  if !s.flag R.memCtlScrubEn then s
  else if table then
    -- regions that have shrunk below the walker's place leave it at the end of its pass
    let past := (s.tableBlock s.msys.tscrub).isNone && (s.tableBlock 0).isSome
    let s := if past then (s.modMem fun m => { m with tscrub := 0 }).bump R.memScrubTpass else s
    match s.tableBlock s.msys.tscrub with
    | none => s
    | some a =>
      let s := (s.scrubAt a).modMem fun m => { m with tscrub := m.tscrub + 1 }
      if (s.tableBlock s.msys.tscrub).isSome then s
      else (s.modMem fun m => { m with tscrub := 0 }).bump R.memScrubTpass
  else
    let n := s.msys.scrub
    let s := s.scrubAt (256 * n)
    if n + 1 < 0x700000 then s.modMem fun m => { m with scrub := n + 1 }
    else (s.modMem fun m => { m with scrub := 0 }).bump R.memScrubPass

/-- R225, R242: firmware writes the seed in boot: zero is refused, and the two generators start from the seed and its
inverse. -/
def seedWrite (v : Nat) (s : State) : State :=
  if v = 0 then s.refuse 0x1B0004 1
  else (s.setFld R.memArbSeed v).modMem fun m => { m with lfsr0 := v, lfsr1 := 2 ^ 32 - 1 - v }

/-- R239, R242: a write of MEM_RGNk_KIND commits the entry, or refuses it and gives the old one back. -/
def memRgnKindWrite (k v : Nat) (s : State) : State :=
  let kind := v % 4
  let base := s.fld (R.memRgnLo k) + 2 ^ 32 * s.fld (R.memRgnHi k)
  let len := s.fld (R.memRgnLen k)
  if kind = 3 || (kind != 0 && !(base % 256 == 0 && len % 256 == 0 && inDram base len)) then
    let (b, l, o) := tget (fun _ => (0, 0, 0)) s.msys.rgns k
    ((((s.set64 (R.memRgnLo k) (R.memRgnHi k) b).setFld (R.memRgnLen k) l).setFld (R.memRgnKind k) o)).refuse
      (0x1B020C + 0x10 * k) 3
  else
    (s.setFld (R.memRgnKind k) kind).modMem fun m => { m with rgns := tset (fun _ => (0, 0, 0)) k (base, len, kind) m.rgns }

/-! ### The commands -/

/-- DRAM_BURST (R217). -/
def execDramBurst (ch : Fin 2) (arr : List (Fin 8 × Bool × Nat × Nat × List (BitVec 8))) (cut : Option Nat) (t : Nat)
    (s : State) := ok (whenBus (dramBurst ch (arr.map fun b => (b.1.val, b.2)) cut t)) s
/-- REFRESH (R222). -/
def execRefresh (s : State) := ok (whenBus refresh) s
/-- DEBUG_ACCESS (R223). -/
def execDebugAccess (wr : Bool) (a n : Nat) (data : List (BitVec 8)) (s : State) := ok (whenUp (debugAccess wr a n data)) s
/-- STARVATION (R230). -/
def execStarvation (i : Fin 16) (t : Nat) (s : State) := ok (whenAlive (starvation i t)) s
/-- REBALANCE (R407). -/
def execRebalance (i : Fin 16) (s : State) := ok (whenAlive (rebalance i)) s
/-- TICKET_WRITE (R228). -/
def execTicketWrite (i : Fin 16) (v : BitVec 8) (s : State) := ok (whenReg (R.memArbTickets i).off (ticketWrite i v.toNat)) s
/-- INHERIT_WRITE (R234). -/
def execInheritWrite (b : Bool) (s : State) := ok (whenReg R.memCtlInherit.off (inheritWrite b)) s
/-- ETKT_WRITE (R232). -/
def execEtktWrite (v : BitVec 4) (s : State) := ok (whenReg R.memArbEtkt.off (etktWrite v.toNat)) s
/-- SCRUB_BLOCK (R236). -/
def execScrubBlock (table : Bool) (s : State) := ok (whenAlive (scrubBlock table)) s
/-- MEM_RGN_KIND_WRITE (R239). -/
def execMemRgnKindWrite (k : Fin 32) (v : BitVec 32) (s : State) := ok (whenReg (R.memRgnKind k).off (memRgnKindWrite k v.toNat)) s

end Sys2Proof.Machine
end

