-- ==== Sys2Proof/Machine/DmaBase.lean ====
section
/-!
DEFINITION. Sluice as other blocks command it: doorbells (R254), the head register (R255), aborts (R256), halts (R257), and
the reads and write-backs of descriptors they need; the reset of a requester (R235).
-/
namespace Sys2Proof.Machine

def State.modDma (s : State) (f : Dma → Dma) : State := { s with dma := f s.dma }
def State.chan (s : State) (c : Nat) : Chan := tget (fun _ => {}) s.dma.chans c
def State.setChan (s : State) (c : Nat) (x : Chan) : State := s.modDma fun d => { d with chans := tset (fun _ => {}) c x d.chans }
def State.modChan (s : State) (c : Nat) (f : Chan → Chan) : State := s.setChan c (f (s.chan c))
def State.chState (s : State) (c : Nat) : Nat := s.fld (R.dmaChStatState c)
def State.setChState (s : State) (c v : Nat) : State := s.setFld (R.dmaChStatState c) v
def State.chCur (s : State) (c : Nat) : Nat := s.fld (R.dmaChCurLo c) + 2 ^ 32 * s.fld (R.dmaChCurHi c)
/-- Is a channel owned by Wisoa firmware (R263)? -/
def State.chOwned (s : State) (c : Nat) : Bool := nbits (s.fld R.dmaOwn) c 1 == 1

/-- The channel gives up the engine. -/
def State.freeEngine (s : State) : State :=
  ((s.setFld R.dmaStatBusy 0).setFld R.dmaStatRunning 0).modDma fun d => { d with run := none }

/-- The stream length of a descriptor (R244): for a fill its destination's. -/
def descN (ws : List Nat) : Nat :=
  let w (k : Nat) : Nat := ws.getD k 0
  if nbits (w 0) 0 2 = 1 then nbits (w 9) 0 24 * nbits (w 8) 16 16 else nbits (w 6) 0 24 * nbits (w 8) 0 16

/-- The host port writes completions and events: also after the pair has failed (R367). -/
def State.hostWrites (s : State) : Bool := (s.ao.lsStop.isNone || s.ao.failed) && s.ao.sw.isNone

/-- R257: a write of DMA_HALT_CLR returns every channel to idle. -/
def dmaHaltClr (s : State) : State :=
  if s.flag R.dmaStatHalt then
    ((List.range 16).foldl (fun s c => (s.setChState c 0).modChan c fun x => { x with desc := none })
      ((s.setFld R.dmaStatHalt 0).setFld R.dmaStatHaltCause 0)).modDma fun d => { d with fwHalt := false }
  else s

/-- Firmware clears the halt that came while a channel of its own ran (R287, R288). (DESIGN CHOICE, log entry 34) -/
def State.fwHaltClr (s : State) : State := if s.dma.fwHalt && s.fwRuns then dmaHaltClr s else s

/-- A bus error halts the whole engine (R257). (DESIGN CHOICE, log entry 34) -/
def State.engineHalt (s : State) (cause addr : Nat) : State :=
    let run := s.dma.run
    let s := match run with
      | some c =>
        match (s.chan c).desc with
        | some d => s.setFld (R.dmaChResid c) (descN d.ws - d.pos)
        | none => s
      | none => s
    let s := ((s.setFld R.dmaStatHalt 1).setFld R.dmaStatHaltCause cause).set64 R.dmaErrAddrLo R.dmaErrAddrHi addr
    let s := ((s.bump R.dmaHaltCnt).freeEngine).faultBit 8
    let s := s.raise 0x0A03 (run.getD 0xFF) addr (addr / 2 ^ 32)
    (List.range 16).foldl (fun s c =>
      let x := s.chan c
      let s := (s.setChState c 4).setFld (R.dmaChStatDbpend c) 0
      (s.modChan c fun x => { x with cmd := none, desc := none, mid := none }).finishO x.cmd 7 0 0 x.done) s

/-- A bus error while the engine is not halted already; firmware clears it where a channel of its own ran. -/
def State.dmaHalt (s : State) (cause addr : Nat) : State :=
  if s.flag R.dmaStatHalt then s
  else
    let own := s.dma.run.any s.chOwned
    ((s.engineHalt cause addr).modDma fun d => { d with fwHalt := own }).fwHaltClr

/-- A descriptor access of the engine: its words, or none where it gives a bus error (R257): outside device DRAM and host
memory, or host memory without a link. Poisoned words are taken as read. (DESIGN CHOICE, log entry 34) -/
def State.descRead (s : State) (a n : Nat) : Option (List Byte) × State :=
  if isHost a then (if s.host.linkUp then (some (s.bytes a n), s.hostArrives a n) else (none, s))
  else
    let r := s.resumed.dramRead 6 a n
    (if r.2.1 = .refused then none else some r.1, r.2.2)

/-- Write back a word of a descriptor; host writes are posted (R257). -/
def State.descWrite (s : State) (a v : Nat) : State :=
  if isHost a then s.hostPut a (leBytes 4 v) else s.resumed.dramWrite 6 a (leBytes 4 v)

/-- Write back the outcome of a descriptor (R253). -/
def State.writeBack (s : State) (a code cause resid : Nat) : State :=
  (s.descWrite (a + 56) (code + 128 + cause * 256)).descWrite (a + 60) resid

/-- The re-read of words 12 and 13: NEXT when END is 0, none at an end mark (R254, R255); no answer on a bus error. -/
def State.reread (s : State) (c : Nat) : Option (Option Nat) × State :=
  let a := s.chCur c + 48
  match s.descRead a 8 with
  | (some bs, s) => let v := leNat bs; (some (if v % 2 = 1 then none else some (v / 64 * 64)), s)
  | (none, s) => (none, s.dmaHalt 3 a)

/-- R254: a doorbell of a channel, by the host or by Wisoa firmware. -/
def dmaDoorbell (c : Nat) (fw : Bool) (s : State) : State :=
  if (!fw && s.chOwned c) || !s.flag (R.dmaChCfgEn c) then s.refuse (0x1C000C + 0x40 * c)
  else
    match s.chState c with
    | 0 =>
      (s.setChState c 1).modChan c fun x => { x with next := s.base (R.dmaChHeadLo c) (R.dmaChHeadHi c), desc := none, done := 0 }
    | 3 =>
      match s.reread c with
      | (some (some n), s) => (s.setChState c 1).modChan c fun x => { x with next := n }
      | (_, s) => s
    | 1 | 2 => s.setFld (R.dmaChStatDbpend c) 1
    | _ => s

/-- R255: a write of DMA_CHc_HEAD_HI completes the base; at end it returns the channel to idle. -/
def dmaHeadWrite (c hi : Nat) (fw : Bool) (s : State) : State :=
  let a := s.fld (R.dmaChHeadLo c) + 2 ^ 32 * hi
  let st := s.chState c
  if (!fw && s.chOwned c) || !(st == 0 || st == 3) || a % 64 != 0 then
    (s.setBase (R.dmaChHeadLo c) (R.dmaChHeadHi c) (s.base (R.dmaChHeadLo c) (R.dmaChHeadHi c))).refuse (0x1C0008 + 0x40 * c)
  else (s.setBase (R.dmaChHeadLo c) (R.dmaChHeadHi c) a).setChState c 0

/-- R256: an abort of a channel; answers the residue, or none when it is refused. In the middle of a chunk of that channel, which
only a register write of the chunk itself can meet, it waits for the chunk's end. -/
def State.dmaAbort (s : State) (c : Nat) (fw : Bool) : Option Nat × State :=
  let st := s.chState c
  if !fw && s.chOwned c then (none, s.refuse (0x1C0010 + 0x40 * c))
  else if st = 0 || st = 4 then (none, (s.setFld (R.dmaChStatDbpend c) 0).refuse (0x1C0010 + 0x40 * c))
  else if (s.chan c).mid.isSome then
    (some 0, (s.setFld (R.dmaChStatDbpend c) 0).modChan c fun x => { x with mid := some true })
  else
    let x := s.chan c
    let s := s.setFld (R.dmaChStatDbpend c) 0
    let s := if st = 2 then s.freeEngine else s
    match x.desc with
    | some d =>
      let r := descN d.ws - d.pos
      let s := ((s.setFld (R.dmaChStatCode c) 1).setFld (R.dmaChResid c) r).writeBack d.addr 1 0 r
      let s := (s.raise 0x0A02 c r (d.addr % 2 ^ 32)).setChState c 0
      let s := (s.modChan c fun x => { x with desc := none, cmd := none }).finishO x.cmd 0 0 1 x.done
      (some r, s)
    | none =>
      let s := (s.raise 0x0A02 c 0 1).setChState c 0
      let s := (s.modChan c fun x => { x with cmd := none }).finishO x.cmd 0 0 1 x.done
      (some 0, s)

/-- R235: requesters are reset; the reset of Sluice halts it when it works (R257). -/
def requesterReset (mask : Nat) (s : State) : State :=
  let s := (List.range 16).foldl (fun s i => if nbits mask i 1 = 1 then s.dropRequester i else s) s
  if nbits mask 6 1 = 1 && s.dma.run.isSome then s.dmaHalt 5 0 else s

/-- REQUESTER_RESET (R235). -/
def execRequesterReset (mask : BitVec 16) (s : State) := ok (whenReg R.memReqRst.off (requesterReset mask.toNat)) s
/-- DMA_DOORBELL (R254). -/
def execDmaDoorbell (c : Fin 16) (fw : Bool) (s : State) :=
  ok (whenReg (R.dmaChDb c).off (if fw then dmaDoorbell c fw else whenD0 (dmaDoorbell c fw))) s
/-- DMA_HEAD_WRITE (R255). -/
def execDmaHeadWrite (c : Fin 16) (hi : BitVec 32) (fw : Bool) (s : State) := ok (whenReg (R.dmaChHeadHi c).off (dmaHeadWrite c hi.toNat fw)) s
/-- DMA_CMD_ABORT (R256). -/
def execDmaCmdAbort (c : Fin 16) (fw : Bool) (s : State) := ok (whenReg (R.dmaChCmd c).off fun s => (s.dmaAbort c fw).2) s
/-- DMA_HALT_CLR (R257). -/
def execDmaHaltClr (s : State) := ok (whenReg R.dmaHaltClr.off dmaHaltClr) s
/-- BUS_ERROR (R257). -/
def execBusError (cause : Fin 4) (a : Nat) (s : State) := ok (whenAlive fun s => s.dmaHalt (cause + 1) a) s

end Sys2Proof.Machine
end

