-- ==== Sys2Proof/Machine/HostPort.lean ====
section
/-!
DEFINITION. The host port: doorbells and rings (R268 to R270), command fetch (R271, R272), completions, notifications and
events (R273 to R280), frame delivery (R281 to R284), resets (R288), BAR4 (R267) and the mailbox (R289).
-/
namespace Sys2Proof.Machine

def State.modHost (s : State) (f : Host_ → Host_) : State := { s with host := f s.host }

/-! ### Entries in memory -/

/-- The words of a list of bytes. -/
def wordsOf (n : Nat) (bs : List Byte) : List Nat := (List.range n).map fun i => leNat ((bs.drop (4 * i)).take 4)
def bytesOf (ws : List Nat) : List Byte := (ws.map (leBytes 4)).flatten

/-! ### Rings: 0 to 7 submission, 8 to 15 completion, 16 to 23 buffer, 24 to 31 delivery (R290) -/

def ringOff (k o : Nat) : Nat := 0x1D0000 + 0x20 * k + o
def State.ringEn (s : State) (k : Nat) : Bool := wbits (s.reg (ringOff k 8)) 0 1 == 1
def State.ringSize (s : State) (k : Nat) : Nat := 2 ^ wbits (s.reg (ringOff k 8)) 1 4
def State.ringBase (s : State) (k : Nat) : Nat := s.base ⟨ringOff k 0, 0, 32⟩ ⟨ringOff k 4, 0, 32⟩
/-- Where the index that rises with produced entries stands, and the one that rises with consumed entries. -/
def ringTailF (k : Nat) : Fld := ⟨ringOff k 0x10, 0, 12⟩
def ringHeadF (k : Nat) : Fld := if k / 8 % 2 = 0 then ⟨ringOff k 0xC, 0, 12⟩ else ⟨ringOff k 0x14, 0, 12⟩
def State.ringTail (s : State) (k : Nat) : Nat := s.fld (ringTailF k)
def State.ringHead (s : State) (k : Nat) : Nat := s.fld (ringHeadF k)
/-- The hidden part of a device-written ring is kept under 0 to 7 completion, 8 to 15 delivery. -/
def ringKey (k : Nat) : Nat := if k < 16 then k - 8 else k - 16
def State.ring (s : State) (k : Nat) : Ring := tget (fun _ => {}) s.host.rings (ringKey k)
def State.setRing (s : State) (k : Nat) (x : Ring) : State :=
  s.modHost fun h => { h with rings := tset (fun _ => {}) (ringKey k) x h.rings }

/-- The bytes of one entry. -/
def entrySize (k : Nat) : Nat := match k / 8 with | 0 => 64 | 1 => 16 | 2 => 32 | _ => 64

/-- Is there room for one more entry? -/
def State.ringRoom (s : State) (k : Nat) : Bool := (s.ringTail k + 1) % s.ringSize k != s.ringHead k

/-- A vector is not signalled: it is masked, all are, or MSI-X is off (R269). (PRESUMED, log entry 83) -/
def Host_.blocked (h : Host_) (v : Nat) : Bool := !h.msixEn || h.msixMask || h.masked.contains v

/-- R269: fire an MSI-X vector, or set its pending bit while it is masked. -/
def State.msixFire (s : State) (v : Nat) : State :=
  s.modHost fun h =>
    if h.blocked v then { h with pendBits := if h.pendBits.contains v then h.pendBits else h.pendBits ++ [v] }
    else { h with msix := h.msix ++ [v] }

/-- R269: pending vectors that are no longer masked are signalled. (PRESUMED, log entry 83) -/
def State.msixPending (s : State) : State :=
  s.modHost fun h =>
    { h with msix := h.msix ++ (List.range 64).filter fun v => h.pendBits.contains v && !h.blocked v,
             pendBits := h.pendBits.filter h.blocked }

/-- Fire a ring's vector and start a new count. -/
def State.ringFire (s : State) (k : Nat) : State :=
  (s.msixFire (wbits (s.reg (ringOff k 8)) 5 6)).setRing k { s.ring k with times := [] }

/-- R270, R269: write an entry into a device-written ring; `pw` is the word that carries PHASE in bit 31. -/
def State.ringPut (s : State) (k pw : Nat) (ws : List Nat) : State :=
  let t := s.ringTail k
  let r := s.ring k
  let ws := ws.set pw (ws.getD pw 0 % 2 ^ 31 + if r.phase then 2 ^ 31 else 0)
  let s := s.hostWrite (s.ringBase k + entrySize k * t) (bytesOf ws)
  let t' := (t + 1) % s.ringSize k
  let s := s.setFld (ringTailF k) t'
  let s := s.setRing k { r with phase := if t' = 0 then !r.phase else r.phase, times := r.times ++ [s.now],
                                full := none, stalled := false }
  let coal := (s.reg (ringOff k 0xC)).toNat
  if nbits coal 0 8 ≤ r.times.length + 1 || nbits coal 16 10 = 0 then s.ringFire k else s

/-- A write to a full ring begins to wait (R276). -/
def State.ringWait (s : State) (k : Nat) : State :=
  s.setRing k { s.ring k with full := (s.ring k).full.or (some s.now) }

/-- R268, R292: a ring doorbell: refused for a disabled ring, another size than a word, or an index beyond the ring.
(DESIGN CHOICE, log entry 23) -/
def State.doorbell (s : State) (k w : Nat) (word : Bool) : Option Nat × State :=
  let i := w % 4096
  let refuse (cause : Nat) : State := s.latch R.hostErr 12 (4 * k) (cause * 2 ^ 16)
  if !word || !s.ringEn k then (none, refuse 2)
  else if s.ringSize k ≤ i then (none, refuse 1)
  else (some i, s)

def sqTailDoorbell (q w : Nat) (word : Bool) (s : State) : State :=
  match s.doorbell q w word with
  | (some i, s) => s.setFld (ringTailF q) i
  | (none, s) => s

/-- The host releases entries of a device-written ring. -/
def State.release (s : State) (k i : Nat) : State :=
  let s := s.setFld (ringHeadF k) i
  let left := (s.ringTail k + s.ringSize k - i) % s.ringSize k
  let r := s.ring k
  s.setRing k { r with times := r.times.drop (r.times.length - left) }

def cqHeadDoorbell (c w : Nat) (word : Bool) (s : State) : State :=
  match s.doorbell (8 + c) w word with
  | (some i, s) => s.release (8 + c) i
  | (none, s) => s

def bqTailDoorbell (b w : Nat) (word : Bool) (s : State) : State :=
  match s.doorbell (16 + b) w word with
  | (some i, s) => s.setFld (ringTailF (16 + b)) i
  | (none, s) => s

/-- Headers of the backlog enter the ring while there is room (R284). -/
def State.drainBacklog (d : Nat) : Nat → State → State
  | 0, s => s
  | n + 1, s =>
    match s.backlogOf d with
    | [] => s
    | ws :: rest =>
      if s.ringRoom (24 + d) then
        State.drainBacklog d n ({ (s.ringPut (24 + d) 0 ws) with backlog := tset (fun _ => []) d rest s.backlog })
      else s

/-- A stream that is to end leaves once its last header is written (R285). -/
def State.endStreams (s : State) : State :=
  let waits (t : Stream) : Bool := s.offers.any (fun o => o.head == t.head && o.kind == t.kind && o.task == t.task) ||
    (s.backlogOf t.dq).any fun ws => ws.getD 0 0 % 64 == t.kind + 16 * t.head && nbits (ws.getD 0 0) 16 6 == t.task
  let out (t : Stream) : Bool := t.ending && !waits t
  let s := (s.streams.filter out).foldl (fun (s : State) (t : Stream) => s.finishO t.endCmd 0 0 t.lastNo 0) s
  { s with streams := s.streams.filter fun t => !out t }

/-- Firmware, while it works, writes the headers of a delivery ring's backlog. -/
def State.drain (s : State) (d : Nat) : State := if s.fwRuns then (State.drainBacklog d 64 s).endStreams else s

/-- Firmware works again: the headers that waited meanwhile follow. -/
def State.drainAll (s : State) : State := (List.range 8).foldl (fun s d => s.drain d) s

/-- The control pair works again (R363, R366): what firmware owes follows. -/
def State.fwResumes (s : State) : State := s.fwHaltClr.drainAll

def dqHeadDoorbell (d w : Nat) (word : Bool) (s : State) : State :=
  match s.doorbell (24 + d) w word with
  | (some i, s) => (s.release (24 + d) i).drain d
  | (none, s) => s

/-- Does a ring lie as R270 asks: aligned, and wholly in host space or device DRAM? -/
def State.ringOk (s : State) (k base : Nat) : Bool :=
  let n := entrySize k * s.ringSize k
  base % min n 4096 == 0 && (if isHost base then decide (base + n ≤ 2 ^ 64) else inDram base n)

/-- R270: a ring is enabled: head and tail 0, phase 1, ERR clear. -/
def ringEnable (k : Nat) (s : State) : State :=
  if s.ringEn k then s
  else if !s.ringOk k (s.ringBase k) then s.refuse (ringOff k 8) 3
  else
    let s := s.setFld ⟨ringOff k 8, 0, 1⟩ 1
    let s := (s.setFld (ringTailF k) 0).setFld (ringHeadF k) 0
    if k / 8 % 2 = 0 then s.setFld ⟨ringOff k 0xC, 16, 1⟩ 0 else s.setRing k {}

/-- A ring is disabled: commands of a submission ring in progress complete as cancelled (R274) and still take effect (R288),
and what waits for a ring the device writes is discarded. (DESIGN CHOICE, log entry 23) -/
def State.ringDisable (s : State) (k : Nat) : State :=
  let s := s.setFld ⟨ringOff k 8, 0, 1⟩ 0
  match k / 8 with
  | 0 =>
    let waiting := (s.cmds.filter fun c => c.src == k && c.phase == 0).zipIdx.map fun (c, i) =>
      { c with uid := s.nextUid + i, src := 9, fence := false }
    let s := (s.cmds.filter fun c => c.src == k).foldl (fun (s : State) (c : Cmd) => s.finish c.uid 8 0 0 0) s
    { s with cmds := s.cmds ++ waiting, nextUid := s.nextUid + waiting.length }
  | 1 => s.modDma fun d => { d with notes := d.notes.filter fun n => 8 + n.cq != k }
  | 2 => s
  | _ => ({ s with backlog := tset (fun _ => []) (k - 24) [] s.backlog } : State).endStreams

/-! ### Commands (R271, R272) -/

/-- The commands of R285: the number of objects (1: none, OBJ is zero) and of parameters; none for an unlisted opcode. -/
def opShape : Nat → Option (Nat × Nat)
  | 0x00 => some (1, 0) | 0x01 => some (1, 2) | 0x02 => some (1, 1) | 0x03 => some (1, 3) | 0x04 => some (1, 4)
  | 0x10 => some (4, 12) | 0x11 => some (4, 0) | 0x12 => some (4, 0) | 0x13 => some (4, 0) | 0x14 => some (4, 4)
  | 0x18 => some (4, 0) | 0x19 => some (4, 1) | 0x1A => some (4, 1)
  | 0x20 => some (4, 0) | 0x21 => some (4, 2) | 0x22 => some (4, 2) | 0x23 => some (4, 0) | 0x24 => some (4, 0)
  | 0x28 => some (4, 2) | 0x29 => some (4, 3)
  | 0x30 => some (8, 5) | 0x31 => some (8, 1) | 0x32 => some (8, 0) | 0x33 => some (8, 0)
  | 0x38 => some (8, 2) | 0x39 => some (1, 3) | 0x3A => some (8, 1) | 0x3B => some (1, 5) | 0x3C => some (4, 3)
  | 0x40 => some (4, 1) | 0x41 => some (4, 2) | 0x42 => some (4, 1) | 0x43 => some (4, 2) | 0x44 => some (4, 2)
  | 0x45 => some (1, 4) | 0x48 => some (1, 4) | 0x50 => some (8, 2) | 0x51 => some (16, 0)
  | 0x58 => some (4, 2) | 0x59 => some (4, 1) | 0x60 => some (1, 1) | 0x68 => some (1, 7) | 0x69 => some (1, 7)
  | 0x70 => some (1, 3) | 0x71 => some (1, 0) | 0x78 => some (1, 0) | 0x79 => some (1, 0)
  | _ => none

/-- A submission entry as a command: a listed opcode whose zero fields are not zero or whose OBJ is out of range is a bad
entry (R274). -/
def cmdOf (uid src : Nat) (ws : List Nat) : Cmd :=
  let w0 := ws.getD 0 0
  let w1 := ws.getD 1 0
  let ps := ws.drop 2
  let bad := match opShape (nbits w0 0 8) with
    | none => false
    | some (objs, n) => nbits w0 9 7 != 0 || nbits w1 8 24 != 0 || objs ≤ nbits w1 0 8 || (ps.drop n).any (· != 0)
  { uid, src, home := src, fence := nbits w0 8 1 == 1, cid := nbits w0 16 16, opc := nbits w0 0 8, obj := nbits w1 0 8, ps,
    phase := if bad then 2 else 0, status := if bad then 6 else 0 }

/-- Take a command in. -/
def State.addCmd (s : State) (src : Nat) (ws : List Nat) : State :=
  { s with cmds := s.cmds ++ [cmdOf s.nextUid src ws], nextUid := s.nextUid + 1 }

/-- A submission or buffer fetch fails: the ring stops with ERR (R292 cause 5). -/
def State.ringError (s : State) (k : Nat) : State :=
  let s := (s.setFld ⟨ringOff k 0xC, 16, 1⟩ 1).latch R.hostErr 12 (0x20 * k + 0xC) (5 * 2 ^ 16)
  s.raise 0x0B01 (k % 8)

/-- Can an access go on now? One of device DRAM waits for the memory system to run again (R329, R371). -/
def State.memReady (s : State) (a : Nat) : Bool := isHost a || s.alive

/-- R272: a submission ring has an entry to fetch, and nothing holds the fetch back: the command before it has started, fewer
than 64 are in progress, and the ring's memory can be read. -/
def State.fetchable (s : State) (q : Nat) : Bool :=
  let mine := s.cmds.filter (·.src == q)
  s.flag R.hostCtlEn && s.ringEn q && s.fwRuns && s.fld ⟨ringOff q 0xC, 16, 1⟩ == 0 && s.ringHead q != s.ringTail q &&
    !mine.any (·.phase == 0) && decide ((mine.filter fun c => decide (c.phase < 2)).length < 64) && s.memReady (s.ringBase q)

/-- R272: the ring whose turn it is: round robin after the one served last. -/
def State.nextSq (s : State) : Option Nat :=
  ((List.range 8).map fun i => (s.host.lastSq + 1 + i) % 8).find? s.fetchable

/-- R272: the next entry of the submission ring whose turn it is, is fetched. (DESIGN CHOICE, log entry 23) -/
def commandFetch (q : Nat) (s : State) : State :=
  if s.nextSq != some q then s
  else
    let h := s.ringHead q
    let s := s.modHost fun x => { x with lastSq := q }
    match s.hostRead (s.ringBase q + 64 * h) 64 with
    | (none, s) => s.ringError q
    | (some bs, s) => (s.addCmd q (wordsOf 16 bs)).setFld (ringHeadF q) ((h + 1) % s.ringSize q)

/-! ### Completions, notifications, events (R273 to R280) -/

/-- Remove a command from those fetched. -/
def State.dropCmd (s : State) (c : Cmd) : State := { s with cmds := s.cmds.erase c }

/-- The words of a completion entry (R273). -/
def State.cplWords (s : State) (c : Cmd) : List Nat :=
  [c.cid + (if c.src < 8 then c.src * 2 ^ 16 + s.ringHead c.src * 2 ^ 19 else 0), c.status + c.cause % 256 * 256, c.r0, c.r1]

/-- The words of a notification (R275). -/
def noteWords (n : Note) : List Nat := [n.tag, n.code + 2 ^ 17 + n.chan * 2 ^ 18 + (if n.full then 2 ^ 22 else 0), n.w2, n.w3]

/-- The words of an event (R277). -/
def evWords (e : Ev) : List Nat := [e.code + e.seq * 2 ^ 16, e.obj + 2 ^ 16, e.p0, e.p1]

/-- R273, R275, R276, R289: the oldest command of a source is complete and its completion is written: sources 0 to 7 are
the submission rings, 8 the mailbox, 9 the commands a reset cut off; source 10 writes the oldest notification for ring c. -/
def completionWrite (c src : Nat) (s : State) : State :=
  if !s.hostWrites then s
  else if src = 10 then
    match s.dma.notes.find? (·.cq == c) with
    | none => s
    | some n =>
      if !s.ringEn (8 + c) then s.modDma fun d => { d with notes := d.notes.erase n }
      else if !s.memReady (s.ringBase (8 + c)) then s
      else if s.ringRoom (8 + c) then (s.ringPut (8 + c) 1 (noteWords n)).modDma fun d => { d with notes := d.notes.erase n }
      else s.ringWait (8 + c)
  else
    match s.cmds.find? (·.src == src) with
    | none => s
    | some k =>
      if k.phase != 2 then s
      else if src = 9 then s.dropCmd k
      else if src = 8 then
        let s := (((s.cplWords k).zipIdx).foldl (fun (s : State) (w : Nat × Nat) => s.setFld (R.hostMbxCpl w.2) w.1) s).dropCmd k
        (s.setFld R.hostMbxStat 2).modHost fun h => { h with mbxBusy := false }
      else if s.fld (R.hostSqCfgCq src) != c then s
      else if !s.ringEn (8 + c) then s.dropCmd k
      else if !s.memReady (s.ringBase (8 + c)) then s
      else if s.ringRoom (8 + c) then (s.ringPut (8 + c) 1 (s.cplWords k)).dropCmd k
      else s.ringWait (8 + c)

/-- Room returns to the event queue: an events-lost event carries the count (R280). -/
def State.eventsLost (s : State) : State :=
  if s.evtLost = 0 then s else ({ s with evtLost := 0 } : State).raise 0x0105 0 s.evtLost

/-- R280: the oldest event is written to completion ring 0. -/
def eventWrite (s : State) : State :=
  match s.events with
  | [] => s
  | e :: rest =>
    if !(s.hostWrites && s.ringEn 8 && s.memReady (s.ringBase 8)) then s
    else if s.ringRoom 8 then (({ s with events := rest } : State).ringPut 8 1 (evWords e)).eventsLost
    else s.ringWait 8

/-- R269: COAL_US after the oldest unread entry the ring fires. -/
def msixCoalesceTimeout (k : Nat) (s : State) : State :=
  let k := if k < 8 then k + 8 else k + 16
  match (s.ring k).times.head? with
  | none => s
  | some t => (s.at (t + nbits (s.reg (ringOff k 0xC)).toNat 16 10 * unitsPerUs)).ringFire k

/-- R276: a wait of more than 1 ms on a full completion ring. -/
def cqStall (c : Nat) (s : State) : State :=
  let r := s.ring (8 + c)
  match r.full with
  | some t => if r.stalled then s
    else ((s.at (t + unitsPerMs)).bump (R.hostCqStall c)).setRing (8 + c) { r with stalled := true }
  | none => s

/-! ### Frame delivery (R281 to R284) -/

/-- The backlog of a delivery ring holds 64 headers; the next one waits with its copy until one of them is written (R284). -/
def State.headerRoom (s : State) (d : Nat) : Bool := !s.ringEn (24 + d) || decide ((s.backlogOf d).length < 64)

/-- A header enters the delivery ring or its backlog; a disabled ring discards it. (DESIGN CHOICE, log entry 22) -/
def State.putHeader (s : State) (d : Nat) (ws : List Nat) : State :=
  if !s.ringEn (24 + d) then s
  else if (s.backlogOf d).isEmpty && s.ringRoom (24 + d) then s.ringPut (24 + d) 0 ws
  else { s with backlog := tset (fun _ => []) d (s.backlogOf d ++ [ws]) s.backlog }

/-- The stream of an offer. -/
def State.streamOf (s : State) (o : Offer) : Option Stream :=
  s.streams.find? fun t => t.head == o.head && t.kind == o.kind && t.task == o.task

/-- The header of an offer with its buffer, flags and gap, and the repair of what its copy met (R283, R287). -/
def headerOf (o : Offer) (addr bytes cookie flags : Nat) (repaired : Bool) : List Nat :=
  let w (k : Nat) : Nat := o.ws.getD k 0
  let fix : Nat := if repaired && nbits (w 1) 1 1 = 0 then 2 else 0
  (((((o.ws.set 1 (w 1 + fix + flags * 16 + (if o.gap = 0 then 0 else 64))).set 8 (w 8 + min o.gap 4095 * 2 ^ 20)).set 12
    (addr % 2 ^ 32)).set 13 (addr / 2 ^ 32)).set 14 bytes).set 15 cookie

/-- An offer has its header: it leaves, the last frame its stream has delivered. -/
def State.offerDone (s : State) (o : Offer) : State :=
  let same (t : Stream) : Bool := t.head == o.head && t.kind == o.kind && t.task == o.task
  let s : State := { s with offers := s.offers.erase o, streams := s.streams.map fun t => if same t then { t with lastNo := o.no } else t }
  s.endStreams

/-- Is an offer the first of its stream? -/
def State.firstOffer (s : State) (i : Nat) : Option Offer :=
  match s.offers[i]? with
  | none => none
  | some o => if (s.offers.take i).any fun p => p.head == o.head && p.kind == o.kind && p.task == o.task then none else some o

/-- Firmware can copy a frame: it works, and Sluice's engine is on, free and not halted (R252, R284). -/
def State.copyReady (s : State) : Bool :=
  s.fwRuns && s.flag R.dmaCtlEn && s.dma.run.isNone && !s.flag R.dmaStatHalt

/-- The Sluice channel with which firmware copies a frame: one of its own, which of them is open (R263, R284).
(DESIGN CHOICE, log entry 22) -/
def State.copyChannel (s : State) : Nat :=
  let own := (List.range 16).filter s.chOwned
  own.getD (Config.freeVal s.freeCtr % own.length) (8 + Config.freeVal s.freeCtr % 8)

/-- A frame's bytes go to host memory; poisoned ones are sent poisoned and told (R258, R284). The channel shows the outcome;
where firmware keeps its descriptor is open. (DESIGN CHOICE, log entry 22) -/
def State.copyOut (s : State) (src dst : Nat) (bs : List DByte) : State :=
  let c := s.copyChannel
  let s := s.fresh
  let s := (s.set64 (R.dmaChCurLo c) (R.dmaChCurHi c) (64 * Config.freeVal s.freeCtr)).fresh
  let s := (s.hostPut dst (bs.map (·.1))).modHost fun h => { h with frameRo := h.ro }
  let s := ((s.setFld (R.dmaChStatCode c) (if bs.any (·.2) then 2 else 0)).setFld (R.dmaChResid c) 0).bump (R.dmaChDescCnt c)
  match bs.findIdx? (·.2) with
  | none => s
  | some i =>
    let s := if s.host.linkUp then s.markPoison dst bs else s
    s.raise 0x0A04 c (src + i) ((src + i) / 2 ^ 32)

/-- The read of a frame was refused: the engine halts on firmware's channel, and firmware clears the halt (R257, R287). -/
def State.copyHalt (s : State) (src : Nat) : State :=
  let c := s.copyChannel
  ((s.fresh).modDma fun d => { d with run := some c }).dmaHalt 1 src

/-- R284: firmware copies an offered frame into the next buffer of its stream's ring and writes its header; a buffer that
is too short, or not a 64-byte aligned host address, is consumed without data. A copy whose read is refused halts Sluice; its
frame stays offered, and firmware copies it again (R287). `torn`: the slot was rewritten meanwhile.
(DESIGN CHOICE, log entry 22) -/
def frameDelivery (i : Nat) (torn : Bool) (s : State) : State :=
  match s.firstOffer i with
  | none => s
  | some o =>
    match s.streamOf o with
    | none => { s with offers := s.offers.erase o }
    | some t =>
      let k := 16 + t.bq
      let h := s.ringHead k
      if !s.copyReady || !s.headerRoom t.dq || !s.ringEn k || s.fld ⟨ringOff k 0xC, 16, 1⟩ = 1 || h = s.ringTail k then s
      else
        match s.hostRead (s.ringBase k + 32 * h) 32 with
        | (none, s) => s.ringError k
        | (some bs, s) =>
          let ws := wordsOf 8 bs
          let addr := ws.getD 0 0 + 2 ^ 32 * ws.getD 1 0
          let taken (s : State) : State := s.setFld (ringHeadF k) ((h + 1) % s.ringSize k)
          if !(isHost addr && addr % 64 == 0) || ws.getD 2 0 < o.bytes then
            ((taken s).putHeader t.dq (headerOf o addr 0 (ws.getD 4 0) 1 false)).offerDone o
          else
            let r := s.dramRead 6 o.addr o.bytes
            if r.2.1 = .refused then r.2.2.copyHalt o.addr
            else
              let s := (taken r.2.2).copyOut o.addr addr (s.withPoison o.addr r.1)
              -- an uncorrectable error in a frame buffer is absorbed at the delivery (R365)
              let s := if nbits (o.ws.getD 1 0) 1 1 = 1 || r.2.1 == .poisoned then s.handled 5 else s
              (s.putHeader t.dq
                (headerOf o addr o.bytes (ws.getD 4 0) (if torn then 2 else 0) (r.2.1 == .poisoned))).offerDone o

/-- The slots of a stream's ring of buffers in DRAM. -/
def State.slotsOf (s : State) (o : Offer) : Nat :=
  if o.kind = 7 then ((s.arr.tasks.find? (·.idx == o.task)).map fun t => nbits (t.ws.getD 7 0) 0 5).getD 1
  else s.fld (R.corrFmtNbuf o.head)

/-- R284: no buffer has come by the time the slot is rewritten, as the buffer ring is empty, disabled or stopped (R292): a NODATA
header. (DESIGN CHOICE, log entry 22) -/
def nodataHeader (i : Nat) (s : State) : State :=
  match s.firstOffer i with
  | none => s
  | some o =>
    match s.streamOf o with
    | none => { s with offers := s.offers.erase o }
    | some t =>
      let k := 16 + t.bq
      if s.fwRuns && s.headerRoom t.dq &&
          (!s.ringEn k || s.fld ⟨ringOff k 0xC, 16, 1⟩ = 1 || s.ringHead k = s.ringTail k) then
        let s := s.at (o.t + (s.slotsOf o - 1) * s.framePer o.head)
        (s.putHeader t.dq (headerOf o 0 0 0 1 false)).offerDone o
      else s

/-- Why a stream of a head, a kind and a task cannot be bound to a delivery and a buffer ring (R282, R285): 1 its kind or
task is absent, 2 a ring, 3 it is bound already. -/
def State.bindCause (s : State) (h kind task dq bq : Nat) : Option Nat :=
  let present : Bool :=
    if kind < 5 then s.fmtOn h kind
    else if kind = 5 then true
    else if kind = 6 then s.flag (R.vidHeadCtlEn h)
    else kind == 7 && s.arr.tasks.any fun t => t.idx == task && t.en && t.head == h
  if !present then some 1
  else if !(s.ringEn (24 + dq) && s.ringEn (16 + bq) && isHost (s.ringBase (24 + dq))) then some 2
  else if s.streams.any fun t => t.head == h && t.kind == kind && t.task == task then some 3
  else none

/-- R282: a bind takes effect at its tick, or is refused; it completes with the tick and the first frame. -/
def streamBindCommit (h : Nat) (s : State) : State :=
  match s.committedReq .bind h with
  | none => s
  | some q =>
    let s := s.dropReq q
    let kind := q.p0 % 16
    let task := q.p0 / 256
    let dq := q.p1 % 8
    let bq := q.p1 / 256
    match s.bindCause h kind task dq bq with
    | some c => s.finishO q.cmd 1 c 0 0
    | none =>
      let tick := s.fld R.tickCount
      let first := match s.newFrame h with
        | some f => if f.tick = tick then f.no else (s.head h).nextNo
        | none => (s.head h).nextNo
      let s : State := { s with streams := s.streams ++ [{ head := h, kind, task, dq, bq, tick, bound := true }] }
      s.finishO q.cmd 0 0 tick first

/-! ### Resets and the link (R288) -/

/-- R288: a hot reset, a function-level reset or a link-down; the settings of configuration space and the MSI-X table return to
their reset values. (DESIGN CHOICE, log entry 35) (PRESUMED, log entry 83) -/
def pcieReset (s : State) : State :=
  let s := (List.range 32).foldl (fun s k => s.setFld ⟨ringOff k 8, 0, 1⟩ 0) s
  let s := s.dropRequester 7
  let s : State := { s with
    streams := [], offers := [], backlog := [], reqs := s.reqs.filter fun q => q.kind != .bind,
    cmds := s.cmds.filterMap fun (c : Cmd) =>
      if c.src = 8 then some c else if c.phase < 2 then some { c with src := 9 } else none }
  let s := s.setFld R.hostLink 0
  let x : Host_ := {}
  (s.modHost fun h =>
    { h with linkUp := false, pendBits := [], masked := x.masked, table := x.table, msixEn := x.msixEn, msixMask := x.msixMask,
             bars := x.bars, mps := x.mps, mrrs := x.mrrs, ro := x.ro, d3 := x.d3 }).modDma fun d => { d with notes := [] }

/-- R288: the link comes up with a width of 1, 2 or 4 lanes and a rate from 1, 2.5 GT/s, to 4, 16 GT/s (R265); no other link
trains. -/
def linkRestored (width rate : Nat) (s : State) : State :=
  if s.host.linkUp || !([1, 2, 4].contains width && 1 ≤ rate && rate ≤ 4) then s
  else ((s.setFld R.hostLink (256 + rate % 16 * 16 + width % 16)).modHost fun h => { h with linkUp := true }).raise 0x0B03 0

/-! ### BAR2 (R266, R268), configuration space (R265), BAR4 (R267) -/

/-- A write to the MSI-X table: word 3 of an entry holds its mask in bit 0 (R269). (PRESUMED, log entry 83) -/
def State.msixTableWrite (s : State) (x : Nat) (data : List Byte) : State :=
  (data.zipIdx.foldl (fun (s : State) (b : Byte × Nat) =>
    let a := x + b.2
    if 1024 ≤ a then s
    else if a % 16 = 12 then
      s.modHost fun h =>
        let rest := h.masked.filter (· != a / 16)
        { h with masked := if b.1.toNat % 2 = 1 then rest ++ [a / 16] else rest }
    else if a % 16 < 12 then s.modHost fun h => { h with table := tset (fun _ => 0) a b.1 h.table }
    else s) s).msixPending

/-- A byte of BAR2: the MSI-X table, the pending-bit array, else zero (R268). -/
def State.bar2Byte (s : State) (a : Nat) : Nat :=
  if 0x8000 ≤ a ∧ a < 0x8400 then
    if a % 16 = 12 then (if s.host.masked.contains ((a - 0x8000) / 16) then 1 else 0)
    else (tget (fun _ => (0 : Byte)) s.host.table (a - 0x8000)).toNat
  else if 0x9000 ≤ a ∧ a < 0x9008 then
    (List.range 8).foldl (fun n i => n + if s.host.pendBits.contains (8 * (a - 0x9000) + i) then 2 ^ i else 0) 0
  else 0

/-- R268: an access to BAR2: a doorbell, the MSI-X table, or nothing; a doorbell reads zero. -/
def bar2Access (wr : Bool) (x n : Nat) (data : List Byte) (s : State) : State :=
  if !wr then { s with reply := (List.range n).map fun i => s.bar2Byte (x + i) }
  else
    let w := leNat data
    let word := data.length == 4 && x % 4 == 0
    let k := x % 0x20 / 4
    if x < 0x20 then sqTailDoorbell k w word s
    else if x < 0x40 then cqHeadDoorbell k w word s
    else if x < 0x60 then bqTailDoorbell k w word s
    else if x < 0x80 then dqHeadDoorbell k w word s
    else if x < 0xC0 then
      let c := (x - 0x80) / 4
      if word then whenReg (R.dmaChDb c).off (dmaDoorbell c false) s else s.refuse (R.dmaChDb c).off
    else if 0x8000 ≤ x && x < 0x8400 then s.msixTableWrite (x - 0x8000) data
    else s

/-- The BARs of R266: the bits of an address inside each, and its low bits as they read: 64-bit, BAR4 prefetchable. -/
def barSpecs : List (Nat × Nat) := [(24, 4), (16, 4), (28, 12)]

/-- A write of a BAR's base address, whose bits inside the BAR stay zero. -/
def Host_.setBar (h : Host_) (bits v : Nat) : Host_ :=
  { h with bars := h.bars.filter (·.2 != 2 ^ bits) ++ [(v / 2 ^ bits * 2 ^ bits, 2 ^ bits)] }

/-- The settings of configuration space that R265 and R266 name: 0 Device Control, 1 MSI-X Message Control, 2 the power state,
3 the class code, 4 the AER uncorrectable error status, whose bits a 1 clears, 5 to 7 the base addresses of BAR0, BAR2 and BAR4.
A value the endpoint does not support leaves the setting. (PRESUMED, log entry 83) -/
def configAccess (wr : Bool) (x : Nat) (data : List Byte) (s : State) : State :=
  let h := s.host
  let w := leNat data
  let b (p : Bool) (k : Nat) : Nat := if p then 2 ^ k else 0
  if !wr then
    { s with reply := [match x with
      | 0 => b h.ro 4 + h.mps * 32 + h.mrrs * 4096
      | 1 => 63 + b h.msixMask 14 + b h.msixEn 15
      | 2 => if h.d3 then 3 else 0
      | 3 => 0x048000
      | 4 => h.aer
      | _ => match barSpecs[x - 5]? with
        | some b => ((h.bars.find? (·.2 == 2 ^ b.1)).map (·.1)).getD 0 + b.2
        | none => 0] }
  else match x with
    | 0 => s.modHost fun h => { h with ro := nbits w 4 1 == 1, mps := if nbits w 5 3 ≤ 2 then nbits w 5 3 else h.mps,
                                       mrrs := if nbits w 12 3 ≤ 5 then nbits w 12 3 else h.mrrs }
    | 1 => (s.modHost fun h => { h with msixMask := nbits w 14 1 == 1, msixEn := nbits w 15 1 == 1 }).msixPending
    | 2 => if w % 4 = 0 || w % 4 = 3 then s.modHost fun h => { h with d3 := w % 4 == 3 } else s
    | 3 => s
    | 4 => s.modHost fun h => { h with aer := h.aer - (h.aer &&& w) }
    | _ => match barSpecs[x - 5]? with
      | some b => s.modHost fun h => h.setBar b.1 w
      | none => s

/-- R267: an access through BAR4 in the window in force; a read of poisoned data is answered with the EP bit. -/
def bar4Access (wr : Bool) (a n : Nat) (data : List Byte) (s : State) : State :=
  if wr then s.resumed.dramWrite 7 a data
  else
    let r := s.resumed.dramRead 7 a n
    { r.2.2 with reply := r.1.map (·.toNat), host := { r.2.2.host with ep := r.2.1 == .poisoned } }

/-- R267, R329: an access of BAR4, whose window is that of its arrival (R15), waits while the memory system stands still. -/
def bar4Arrive (wr : Bool) (x n : Nat) (data : List Byte) (s : State) : State :=
  let a := s.fld R.hostBar4Win * 0x10000000 + x
  if s.alive then bar4Access wr a n data s
  else s.hold { req := 7, wr, addr := a, len := n, data }

/-- A held access is made. -/
def heldAccess (x : Held) (s : State) : State :=
  if x.req = 7 then bar4Access x.wr x.addr x.len x.data s
  else if x.req = 16 then debugAccess x.wr x.addr x.len x.data s
  else debugWord x.wr x.addr (leNat x.data) s

/-- The accesses held go on in order once the memory system runs again: those of BAR4 not while it is frozen, those of the
debug port from the restart on. -/
def State.heldGoOn (s : State) : State :=
  if s.ao.shut then s
  else
    let go (x : Held) : Bool := x.req != 7 || !s.ao.frozen
    (s.msys.held.filter go).foldl (fun s x => heldAccess x s) (s.modMem fun m => { m with held := m.held.filter fun x => !go x })

/-! ### The mailbox (R289) -/

/-- R289: HOST_MBX_GO submits the mailbox entry, or is refused while BUSY. -/
def hostMbxGo (s : State) : State :=
  if s.host.mbxBusy then s.refuse 0x1D0840 4
  else
    let ws := (List.range 16).map fun w => s.fld (R.hostMbxSub w)
    let st := s.fld R.hostMbxStat
    ((s.addCmd 8 ws).setFld R.hostMbxStat (st - nbits st 0 1 + 1)).modHost fun h => { h with mbxBusy := true }

/-- The words the mailbox shows of the oldest event, while completion ring 0 is disabled. -/
def State.mbxEvt (s : State) (w : Nat) : Nat :=
  if s.ringEn 8 then 0 else ((s.events.head?).map fun e => (evWords e).getD w 0).getD 0

/-- HOST_MBX_STAT with its EVT bit. -/
def State.mbxStat (s : State) : Nat := s.fld R.hostMbxStat % 4 + if s.ringEn 8 || s.events.isEmpty then 0 else 4

/-- R289: a read of HOST_MBX_CPL3 clears CPL. -/
def hostMbxCpl3Read (s : State) : State :=
  let st := s.fld R.hostMbxStat
  { s.setFld R.hostMbxStat (st - nbits st 1 1 * 2) with reply := [s.fld (R.hostMbxCpl 3)] }

/-- R289: a read of HOST_MBX_EVT3 takes the next event from the queue. -/
def hostMbxEvt3Read (s : State) : State :=
  let s : State := { s with reply := [s.mbxEvt 3] }
  if s.ringEn 8 then s else ({ s with events := s.events.drop 1 } : State).eventsLost

/-! ### The commands -/

/-- SQ_TAIL_DOORBELL (R268). -/
def execSqTailDoorbell (q : Fin 8) (w : BitVec 32) (word : Bool) (s : State) :=
  ok (whenUp (whenD0 (sqTailDoorbell q w.toNat word))) s
/-- CQ_HEAD_DOORBELL (R268). -/
def execCqHeadDoorbell (c : Fin 8) (w : BitVec 32) (word : Bool) (s : State) :=
  ok (whenUp (whenD0 (cqHeadDoorbell c w.toNat word))) s
/-- BQ_TAIL_DOORBELL (R268). -/
def execBqTailDoorbell (b : Fin 8) (w : BitVec 32) (word : Bool) (s : State) :=
  ok (whenUp (whenD0 (bqTailDoorbell b w.toNat word))) s
/-- DQ_HEAD_DOORBELL (R268). -/
def execDqHeadDoorbell (d : Fin 8) (w : BitVec 32) (word : Bool) (s : State) :=
  ok (whenUp (whenD0 (dqHeadDoorbell d w.toNat word))) s
/-- RING_ENABLE (R270). -/
def execRingEnable (k : Fin 32) (s : State) := ok (whenUp (ringEnable k)) s
/-- COMMAND_FETCH (R272). -/
def execCommandFetch (q : Fin 8) (s : State) := ok (whenUp (commandFetch q)) s
/-- COMPLETION_WRITE (R273). -/
def execCompletionWrite (c : Fin 8) (src : Fin 11) (s : State) := ok (whenUp (completionWrite c src)) s
/-- MSIX_COALESCE_TIMEOUT (R269). -/
def execMsixCoalesceTimeout (k : Fin 16) (s : State) := ok (whenUp (msixCoalesceTimeout k)) s
/-- CQ_STALL (R276). -/
def execCqStall (c : Fin 8) (s : State) := ok (whenUp (cqStall c)) s
/-- EVENT_WRITE (R280). -/
def execEventWrite (s : State) := ok (whenUp eventWrite) s
/-- FRAME_DELIVERY (R284). -/
def execFrameDelivery (i : Nat) (torn : Bool) (s : State) := ok (whenAlive (frameDelivery i torn)) s
/-- NODATA_HEADER (R284). -/
def execNodataHeader (i : Nat) (s : State) := ok (whenUp (nodataHeader i)) s
/-- STREAM_BIND_COMMIT (R282). -/
def execStreamBindCommit (h : Fin 4) (s : State) := ok (whenUp (streamBindCommit h)) s
/-- PCIE_RESET (R288). -/
def execPcieReset (s : State) := ok (whenUp pcieReset) s
/-- LINK_RESTORED (R288). -/
def execLinkRestored (width rate : BitVec 4) (s : State) := ok (whenUp (linkRestored width.toNat rate.toNat)) s
/-- HOST_MBX_GO (R289). -/
def execHostMbxGo (s : State) := ok (whenUp hostMbxGo) s
/-- HOST_MBX_CPL3_READ (R289). -/
def execHostMbxCpl3Read (s : State) := ok (whenUp hostMbxCpl3Read) s
/-- HOST_MBX_EVT3_READ (R289). -/
def execHostMbxEvt3Read (s : State) := ok (whenUp hostMbxEvt3Read) s

end Sys2Proof.Machine
end

