-- ==== Sys2Proof/Machine/Image.lean ====
section
/-!
DEFINITION. The flash directory and the firmware images (R360, R361), and the staging of an image (R362).
-/
namespace Sys2Proof.Machine

def State.modAo (s : State) (f : AO → AO) : State := { s with ao := f s.ao }

/-! ### The flash directory and the images (R360, R361) -/

def slotBase (k : Nat) : Nat := xipBase + (if k = 0 then 0x10000 else 0x410000)
/-- Word w of directory copy c. -/
def State.dirWord (s : State) (c w : Nat) : Nat := s.rd (xipBase + 0x1000 * c + 4 * w) 4
def State.dirValid (s : State) (c : Nat) : Bool :=
  s.dirWord c 0 == 0x5A18 && crc32 (s.bytes (xipBase + 0x1000 * c) 12) == s.dirWord c 3
/-- The copy in use: the valid one with the higher sequence number. -/
def State.dirInUse (s : State) : Option Nat :=
  match s.dirValid 0, s.dirValid 1 with
  | true, true =>
    let d := (s.dirWord 1 2 + 2 ^ 32 - s.dirWord 0 2) % 2 ^ 32
    some (if d != 0 && d < 2 ^ 31 then 1 else 0)
  | true, false => some 0
  | false, true => some 1
  | false, false => none

/-- Firmware rewrites the older directory copy, out of continuous-read mode (R313). -/
def State.dirWrite (s : State) (pref : Nat) (trial : Bool) : State :=
  let use := s.dirInUse.getD 1
  let ws := [0x5A18, pref + (if trial then 2 else 0), (s.dirWord use 2 + 1) % 2 ^ 32]
  let bs := bytesOf ws
  let s := s.xipExit
  let s := s.putBytes (xipBase + 0x1000 * (1 - use)) (bs ++ leBytes 4 (crc32 bs))
  { s with flash := { s.flash with lines := [] } }

/-- The image in a slot: its header and the body bytes that LEN names, at most the slot. -/
def State.slotImage (s : State) (k : Nat) : List Nat :=
  let len := s.rd (slotBase k + 12) 4
  (s.bytes (slotBase k) (256 + min len 4194048)).map (·.toNat)

/-- The check of R361 on a slot's image. -/
def State.slotCheck (s : State) (k : Nat) : Nat := imageCheck s.ao.keyHash s.ao.revoked s.ao.svnMin (s.slotImage k)

/-! ### Staging (R362) -/

/-- Program an image into a slot: the port leaves continuous-read mode (R313), and the slot is erased first; where the flash fails
the bytes programmed are free.
(DESIGN CHOICE, log entry 28) -/
def State.programSlot (s : State) (k : Nat) (bs : List Byte) (fail : Bool) : State :=
  let b := slotBase k
  let s := s.xipExit
  let s : State := { s with
    mem := s.mem.filter fun x => !(decide (b ≤ x.1) && decide (x.1 < b + 0x400000)), flash := { s.flash with lines := [] } }
  if fail then
    let free := (List.range bs.length).map fun i => BitVec.ofNat 8 (Config.freeVal (s.freeCtr + i))
    { s.putBytes b free with freeCtr := s.freeCtr + bs.length }
  else s.putBytes b bs

/-- A staging or a switch is refused for a cause of R362: SYS_ERR latches causes 2 to 5 (R379). No access was refused, so the
offset it shows is free. (DESIGN CHOICE, log entry 70) -/
def State.fwCause (s : State) (cause : Nat) : State :=
  if 2 ≤ cause then (s.latch R.sysErr 12 (Config.freeVal s.freeCtr) (cause * 2 ^ 16)).fresh else s

/-- The poll after an image's program and erase has ended, or has timed out: the slot holds it, it is read back and checked, and
FW_STAGE completes (R362). -/
def State.stageEnd (s : State) (timeout : Bool) : State :=
  match s.ao.stage with
  | none => s
  | some (u, k, fail, bs) =>
    let s := (s.programSlot k bs (fail || timeout)).modAo fun a => { a with stage := none }
    let v := s.fld R.spiFlStat
    let s := s.setFld R.spiFlStat (v - nbits v 3 1 * 8)
    if fail || timeout then (s.fwCause 3).finish u 1 3 0 0
    else
      let bad := s.slotCheck k
      if bad != 0 then (s.fwCause 2).finish u 1 2 0 bad else (s.modAo fun a => { a with staged := some k }).finish u 0 0 k 0

end Sys2Proof.Machine
end

