-- ==== Sys2Proof/Machine/Tick.lean ====
section
/-!
DEFINITION. The tick generator: sources and edges (R21 to R25, R38, R403), commit points and overruns (R29, R31), the guard
(R32), early pulses (R28), powered time and its captures (R34 to R36).
-/
namespace Sys2Proof.Machine

/-- The source in force. -/
def State.tickSrc (s : State) : Nat := nbits s.tick.ctl 1 2
/-- The programmed period, 1/256 ns. -/
def State.periodReg (s : State) : Nat := s.fld R.tickPeriodNs * 256 + s.fld R.tickPeriodFrac
/-- Is a period inside R22 and more than twice a guard in us (R32)? -/
def periodOk (p guard : Nat) : Bool := 266666667 ≤ p && p ≤ 256000000000 && 2 * guard * unitsPerUs < p

/-- Give TICK_STATUS its bits RUNNING and FLYWHEEL; HOLDOVER stays (R43). -/
def State.tickStat (s : State) (run fly : Bool) : State :=
  s.setFld R.tickStatus ((if run then 1 else 0) + (if fly then 2 else 0) + nbits (s.fld R.tickStatus) 2 1 * 4)

/-- Does the tick follow head 0's frame start (R24)? -/
def State.head0Ticks (s : State) : Bool := s.hState 0 == 4 && (s.head 0).timing && s.divN 0 == 1

/-- The FSYNC_OUT pulse starts or ends: its level follows FSYNC_OUT_POL in force (R25). -/
def State.driveFsync (s : State) (on : Bool) : State :=
  { s with tick := { s.tick with fsyncOut := on, fsyncPin := on != (nbits s.tick.ctl 5 1 == 1) } }

/-- Settings written since the last edge come into force (R32, R42). A change of the source ends a run of missed pulses
(R23). -/
def State.latchTick (s : State) : State :=
  let ctl := (s.reg 0x10000).toNat
  let same := nbits ctl 1 2 == s.tickSrc
  let s : State :=
    { s with tick := { s.tick with ctl, period := s.periodReg, guard := s.fld R.tickGuardUs, tol := s.fld R.tickTolUs,
                                   width := s.fld R.tickOutWidth, missRun := if same then s.tick.missRun else 0,
                                   lostSent := same && s.tick.lostSent } }
  s.driveFsync s.tick.fsyncOut

/-- R98: the settings in force have changed: CORR_STATUS.SHORT_LEAD shows whether the condition holds, and a change of the
guard that makes it hold raises the event. -/
def State.guardChanged (s : State) (guard : Bool) : State :=
  (List.range 4).foldl (fun s h =>
    let was := s.flag (R.corrStatusShortLead h)
    let s := s.showShort h
    if guard && s.flag (R.corrStatusShortLead h) && !was then s.raise 0x0401 h else s) s

/-- The settings in force change where they stand: what the registers show of them follows (R98, R193, R213). -/
def State.takeSettings (s : State) : State :=
  let t := s.latchTick
  if t.tick.guard = s.tick.guard && t.tick.period = s.tick.period then t
  else (t.guardChanged (t.tick.guard != s.tick.guard)).showLoads

/-! ### The commit point -/

/-- The next edge of the generator as far as it is known: the internal timer's, or the expected pulse (R23). -/
def State.nextEdge (s : State) : Nat :=
  if s.tickSrc = 1 then s.tick.edge + s.tick.period else coreNear (s.tick.ideal + s.tick.period)

/-- The kinds of work that R31 defers while it is not ready. -/
def ReqKind.deferrable (k : ReqKind) : Bool := [.headStart, .headDetach, .activation, .reload, .inlineChange].contains k

/-- R30: of the requests bound to the edge to come, one for the same work on the same object as a later one is superseded: a
deferred request is bound anew with every commit point. -/
def State.supersede (s : State) : List Req → State
  | [] => s
  | q :: later =>
    let s := if q.kind.deferrable && later.any (fun r => sameWork q r) then (s.dropReq q).finishO q.cmd 2 0 0 0 else s
    s.supersede later

/-- The work of a commit point (R29, R31): unfinished work of the tick is overrun by kind, and the requests that wait are
bound to the edge that follows. While the functional blocks do not run none is bound but, in a thermal shutdown, the head-link
queues (R329). (DESIGN CHOICE, log entry 10) -/
def State.commitWork (s : State) : State :=
  let s : State := { s with tick := { s.tick with committed := true } }
  if !s.alive then
    let links : Bool := s.ao.up && !s.ao.frozen
    { s with reqs := s.reqs.map fun q => if links && q.kind == .hlQueue then { q with committed := true } else q }
  else
    let s : State := { s with ao := { s.ao with edgeWait := false } }
    let s := s.engStop
    let s := (List.range 4).foldl (fun s h => s.calAtCommit h) s.vidAtCommit
    let s := (s.reqs.filter fun q => q.committed && (q.kind == .headStart || q.kind == .headDetach)).foldl
      (fun (s : State) (q : Req) => s.overrun 6 q.obj) s
    let s : State := { s with reqs := s.reqs.map fun q => { q with committed := true } }
    (s.supersede s.reqs).vidBind

/-- The work that the commands of a commit point do between it and its edge, done in one with an edge that comes at the commit
point: detaches first, whose coincidences R65 decides. -/
def State.boundWork (s : State) : State :=
  if !s.alive then s
  else
    let s := (List.range 4).foldl (fun s h => detachCommit h s) s
    let s := (List.range 4).foldl (fun s h => calRequestCommit h (activationCommit h (activationCommit h (headStartCommit h s)))) s
    broadcastCommit (taskDeclareCommit ((List.range 8).foldl (fun s m => reloadCommit m s) s))

/-- R29: the commit point of the next tick is reached. -/
def commitPoint (s : State) : State :=
  if nbits (s.fld R.tickStatus) 0 1 = 1 && !s.tick.committed then
    (s.at (s.nextEdge - s.tick.guard * unitsPerUs)).commitWork
  else s

/-! ### The edge -/

/-- The divider of a head counts the tick; every N ticks a frame period ends and the next is due (R26), and ROWS_CUT shows
the rows cut from the one that ended (R51). -/
def State.divideAtEdge (s : State) (h : Nat) : State :=
  let x := s.head h
  if x.timing && !x.resume then
    if x.div + 1 < s.divN h then s.modHead h fun x => { x with div := x.div + 1 }
    else
      let s := s.modHead h fun x => { x with div := 0, due := true }
      s.setFld (R.headStatusRowsCut h) ((x.edges.head?.map (·.2)).getD 0)
  else s

/-- The crystal is taken back (R368). -/
def State.crystalBack (s : State) : State :=
  let s : State := { s with ao := { s.ao with xtalBack := false, xtal := true } }
  (s.setFld R.tickStatus (s.fld R.tickStatus % 4)).raise 0x0E03 0

/-- A tick edge (R25, R29, R38): the count advances, the settings and the committed work take effect, FSYNC_OUT starts its
pulse. `fly` marks a tick the generator made in place of a missed pulse. A commit point not yet reached comes with the edge
(R23). Under source 2 FLYWHEEL rises with the first edge that head 0 does not give (R24). (DESIGN CHOICE, log entry 87) -/
def State.tickEdge (s : State) (edge ideal : Nat) (fly : Bool) : State :=
  let s := s.at edge
  let s := if s.tick.committed then s else s.commitWork.boundWork
  let prev := s.fld R.tickCount
  let s := if s.tick.first then s else s.bump R.tickCount
  let s := s.takeSettings
  let s : State := { s with tick := { s.tick with first := false, armed := false, committed := false, edge, ideal } }
  let s := s.tickStat true (if s.tickSrc = 2 then !s.head0Ticks else fly)
  let s := s.driveFsync (s.flag R.tickCtlFsyncOutEn)
  -- the crystal is taken back (R368)
  let s := if s.ao.xtalBack then s.crystalBack else s
  -- TICK_SET completes at the next edge (R285)
  let s : State := { s with reqs := s.reqs.map fun q => if q.kind == .tickSet then { q with committed := true } else q }
  let s := s.finishKind .tickSet
  let s := (List.range 4).foldl (fun s h => ((s.biasApply h).rampAtEdge h).divideAtEdge h) s
  if !s.alive then (if s.ao.up && !s.ao.frozen then s.hlAtEdge else s)
  else
    let s := (List.range 4).foldl (fun s h => (s.activateAtEdge h).calAtEdge h) s
    let s := ((s.vidAtEdge).engAtEdge prev).hlAtEdge
    s.finishThaw

/-- R38, R23: TICK_CTL.EN goes from 0 to 1: the first edge at once, or the wait for the first pulse.
(DESIGN CHOICE, log entry 10) -/
def tickEnable (s : State) : State :=
  if nbits (s.fld R.tickStatus) 0 1 = 1 || s.tick.armed then s
  else
    let s := (s.setFld R.tickCtlEn 1).takeSettings
    let s : State := { s with tick := { s.tick with missRun := 0, lostSent := false } }
    if s.tickSrc = 1 then { s with tick := { s.tick with armed := true } }
    else s.tickEdge (coreCeil s.now) (coreCeil s.now) false

/-- EN is written 0: the generator stops, and what waited for an edge takes effect at once, the change back to the crystal too
(R368); bound work waits for a later edge (R42). -/
def State.tickStop (s : State) : State :=
  let s := (s.setFld R.tickCtlEn 0).tickStat false false
  let s := if s.ao.xtalBack then s.crystalBack else s
  ({ s with tick := { s.tick with armed := false, committed := false, missRun := 0, lostSent := false } } : State).takeSettings

/-- R403: the internal timer reaches its period. -/
def timerTick (s : State) : State :=
  if nbits (s.fld R.tickStatus) 0 1 = 1 && s.tickSrc != 1 then
    let i := s.tick.ideal + s.tick.period
    s.tickEdge (coreNear i) i false
  else s

/-- The row cut of an early edge (R28): for every head whose frame period ends at this edge. T_READ ends with the last row
kept (R41). -/
def State.cutAt (s : State) (edge : Nat) : State :=
  (List.range 4).foldl (fun s h =>
    let x := s.head h
    if x.timing && s.divN h ≤ x.div + 1 then
      match x.edges with
      | [] => s
      | e :: rest =>
        let n := s.rowsCut h e.1 edge
        let read := s.readRows h (s.nRows h - n)
        s.modHead h fun x =>
          { x with edges := (e.1, n) :: rest,
                   idleP := x.idleP.map fun g => { g with cut := n },
                   frames := x.frames.map fun g => if g.edge = e.1 && !g.truncated then { g with cut := n, tRead := read } else g }
    else s) s

/-- R23, R28: an FSYNC_IN edge of the selected polarity at instant t. -/
def fsyncInPulse (t : Nat) (s : State) : State :=
  if !(s.flag R.tickCtlEn && s.tickSrc == 1) then s.at t
  else
    let s := s.at t
    let e := coreCeil t
    let due := s.tick.edge + s.tick.period
    let tol := s.tick.tol * unitsPerUs
    if s.tick.armed then s.tickEdge e e false
    else if due ≤ t + tol && t ≤ due + tol then
      let s : State := { s with tick := { s.tick with missRun := 0, lostSent := false } }
      (s.cutAt e).tickEdge e e false
    else s.bump R.tickFsyncErr

/-- R23: the FSYNC_IN window ends without a pulse. (DESIGN CHOICE, log entry 10) -/
def fsyncWindowMiss (s : State) : State :=
  if nbits (s.fld R.tickStatus) 0 1 = 1 && s.tickSrc = 1 && !s.tick.armed then
    let t := s.tick.edge + s.tick.period + s.tick.tol * unitsPerUs
    let s := s.bump R.tickFsyncErr
    let s : State := { s with tick := { s.tick with missRun := s.tick.missRun + 1 } }
    s.tickEdge (coreNear t) t true
  else s

/-- R23: the 16th consecutive missed tick. -/
def tickSourceLost (s : State) : State :=
  if 16 ≤ s.tick.missRun && !s.tick.lostSent then
    ({ s with tick := { s.tick with lostSent := true } } : State).raise 0x0102 0
  else s

/-- R25: the FSYNC_OUT pulse ends. -/
def fsyncOutPulseEnd (s : State) : State :=
  if s.tick.fsyncOut then (s.driveFsync false).at (s.tick.edge + s.tick.width * 10 * unitsPerNs) else s

/-- R36: a TSYNC_IN edge of the selected polarity at instant t. (DESIGN CHOICE, log entry 10) -/
def tsyncInEdge (t : Nat) (s : State) : State :=
  let s := s.at t
  if nbits (s.fld R.tsyncCtl) 0 1 = 0 then s
  else
    let near := match s.tick.captT with
      | some c => decide (t < c + 10 * unitsPerUs)
      | none => false
    if near then s.bump R.tsyncMiss
    else
      let v := coreFloor t / unitsPerNs % 2 ^ 64
      let s : State := { s with tick := { s.tick with captT := some t } }
      (s.set64 R.tsyncCaptLo R.tsyncCaptHi v).raise 0x0103 0 v (v / 2 ^ 32)

/-- R35: a read of TICK_POWERED_NS_LO latches the upper half. -/
def poweredNsLoRead (s : State) : State :=
  { s.setFld R.tickPoweredNsHi (s.poweredNs / 2 ^ 32) with reply := [s.poweredNs % 2 ^ 32] }

/-! ### The commands -/

/-- TICK_ENABLE (R38). -/
def execTickEnable (s : State) := ok (whenUp tickEnable) s
/-- TIMER_TICK (R403). -/
def execTimerTick (s : State) := ok (whenUp timerTick) s
/-- FSYNC_IN_PULSE (R23). -/
def execFsyncInPulse (t : Nat) (s : State) := ok (whenUp (whenBalls (fsyncInPulse t))) s
/-- FSYNC_WINDOW_MISS (R23). -/
def execFsyncWindowMiss (s : State) := ok (whenUp fsyncWindowMiss) s
/-- TICK_SOURCE_LOST (R23). -/
def execTickSourceLost (s : State) := ok (whenUp tickSourceLost) s
/-- FSYNC_OUT_PULSE_END (R25). -/
def execFsyncOutPulseEnd (s : State) := ok (whenUp fsyncOutPulseEnd) s
/-- COMMIT_POINT (R29). -/
def execCommitPoint (s : State) := ok (whenUp commitPoint) s
/-- TSYNC_IN_EDGE (R36). -/
def execTsyncInEdge (t : Nat) (s : State) := ok (whenUp (whenBalls (tsyncInEdge t))) s
/-- TICK_POWERED_NS_LO_READ (R35). -/
def execTickPoweredNsLoRead (s : State) := ok (whenUp poweredNsLoRead) s

end Sys2Proof.Machine
end

