-- ==== Sys2Proof/Machine/Therm.lean ====
section
/-!
DEFINITION. Thermal management (R320 to R331), the compensation tables (R332 to R334), and the stop of the functional blocks
that a thermal shutdown and a freeze share (R328, R372).
-/
namespace Sys2Proof.Machine

/-! ### Stopping and resuming the functional blocks -/

/-- The pipelines finish the outputs of the samples already taken, and the frames in progress are marked truncated (R328,
R372). A row not wholly sampled counts as not sampled (R64). -/
def State.haltFrame (s : State) (h : Nat) : State :=
  match s.curFrame h with
  | none => s
  | some f =>
    let s := s.finishRows h
    let s := match (s.head h).frames.find? (·.no == f.no) with
      | some g => (List.range (s.nCols h)).foldl (fun s c => pixelCorrect h g.rows c s) s
      | none => s
    let read := ((s.head h).frames.find? (·.no == f.no)).map fun g => s.readSampled h g
    let cut (g : Frame) : Frame :=
      if s.nRows h ≤ g.rows + g.cut then g
      else { g with truncated := true, tRead := if g.no = f.no then read.getD 0 else 0 }
    s.modHead h fun x => { x with frames := x.frames.map cut }

/-- A row that was partly sampled when the blocks stopped keeps the outputs of its samples (R328, R330): its line status word
is written, and it is complete. (DEDUCED, log entry 38) -/
def State.closeRow (s : State) (h no : Nat) : State :=
  match s.curFrame h with
  | some f =>
    if f.no = no && (List.range (s.nCols h)).any fun c => (s.pix h f.rows c).have_ then
      (s.endLine h f f.rows (f.line ||| s.rowBits h f f.rows)).modFrame h no fun g => { g with rows := f.rows + 1, line := 0 }
    else s
  | none => s

/-- A truncated frame at restart or thaw: its rows that were never sampled are written as zero (R330, R376). T_READ is that of
the stop. (DEDUCED, log entry 38) -/
def State.fillFrame (s : State) (h : Nat) : State :=
  (s.head h).frames.foldl (fun (s : State) _ =>
    match s.curFrame h with
    | some f =>
      if f.truncated || s.nRows h ≤ f.rows + f.cut then
        let s := (s.closeRow h f.no).closeRow h f.no
        let s := if (s.curFrame h).any (·.no == f.no) then s.truncateCur h else s
        s.modFrame h f.no fun g => { g with truncated := f.truncated, tRead := if f.truncated then f.tRead else g.tRead }
      else s
    | none => s) s

/-- The blocks stop: bridges off and profiles abandoned (R157), shutter events abandoned with a result, frames truncated,
frame starts that were due dropped, both video paths stopped (R214). -/
def State.haltBlocks (s : State) (result : Nat) : State :=
  let s := s.coastAll
  ((List.range 4).foldl (fun s h =>
    ((s.calAbandon h result).haltFrame h).modHead h fun x => { x with due := false, edges := [] }) s).vidStop

/-! ### Sampling (R320 to R325) -/

/-- Set or clear a bit of THERM_STAT. -/
def State.thermBit (s : State) (k : Nat) (b : Bool) : State :=
  let v := s.fld R.thermStat
  s.setFld R.thermStat (v - nbits v k 1 * 2 ^ k + (if b then 2 ^ k else 0))
def State.thermFlag (s : State) (k : Nat) : Bool := nbits (s.fld R.thermStat) k 1 == 1

/-- The last raw reading of a sensor, if it has been sampled since the core came up. -/
def State.rawOf (s : State) (k : Nat) : Option Int := (s.therm.raw.find? (·.1 == k)).map (·.2)

/-- Is a sensor in THERM_MASK? -/
def State.masked (s : State) (k : Nat) : Bool := nbits (s.fld R.thermMask) k 1 == 1

def State.warnAt (s : State) : Int := sext 13 (s.fld R.thermWarn)
def State.throtAt (s : State) : Int := sext 13 (s.fld R.thermThrot)
def State.hyst (s : State) : Int := ((s.fld R.thermHyst : Nat) : Int)

/-- Is a masked sensor above the throttle limit? A failed one counts as above (R321). -/
def State.aboveThrot (s : State) (k : Nat) : Bool := s.masked k && (s.tsFailed k || decide (s.throtAt < s.ts k))

/-- 10,000 times the rise over 256 ms in 1/16 K, and 4096 times the limit in 0.1 K/s (R323). The reading 256 ms earlier is the
newest of that age, at most one sample period more; without one there is no rise. (DEDUCED, log entry 36) -/
def State.riseOf (s : State) (k : Nat) : Int :=
  match tget (fun _ => []) s.therm.hist k with
  | [] => 0
  | (t, v) :: l =>
    match l.find? fun e => e.1 + 256 * unitsPerMs ≤ t && t ≤ e.1 + 257 * unitsPerMs with
    | some e => 10000 * (v - e.2)
    | none => 0
def State.riseLimit (s : State) : Int := 4096 * ((s.fld R.thermRise : Nat) : Int)

/-- One cap step down: 500 mW, not below 500 mW (R324). At the instant of a host's lowering the lower of the two results
applies (R331). (DEDUCED, log entry 36) -/
def State.stepDown (s : State) : State :=
  let cap := s.fld R.thermCap
  let old := match s.therm.capWas with
    | some (t, c) => if t = s.now then c else cap
    | none => cap
  if old ≤ 500 then s
  else
    let new := min cap (max 500 (old - 500))
    ((s.setFld R.thermCap new).bump R.thermThrotCnt).raise 0x0C03 s.therm.who new

/-- Does the device throttle (R324)? -/
def State.throttles (s : State) : Bool := s.thermFlag 1 || s.thermFlag 2

/-- The limits after a sample of sensor k at the present instant (R322 to R325). (DEDUCED, log entry 36) -/
def State.thermLimits (s : State) (k : Nat) : State :=
  let was := s.throttles
  let near (x y : Int) : Bool := decide (x - y ≤ 160) && decide (y - x ≤ 160)
  let fast := s.therm.raw.any fun e => near e.2 s.warnAt || near e.2 s.throtAt || near e.2 2400
  let s := s.thermBit 3 fast
  -- warn
  let s :=
    if s.thermFlag 0 then
      if (List.range 16).all fun j => decide (s.ts j < s.warnAt - s.hyst) then (s.thermBit 0 false).raise 0x0C02 k else s
    else if s.warnAt < s.ts k then (s.thermBit 0 true).raise 0x0C01 k else s
  -- throttle and rise
  let s := if s.aboveThrot k then s.modTherm fun x => { x with who := k } else s
  let s := s.thermBit 1 ((List.range 16).any s.aboveThrot)
  let s :=
    if s.masked k && !s.tsFailed k && decide (s.riseLimit < s.riseOf k) then
      let s := s.modTherm fun x => { x with who := k, riseOk := none }
      if s.thermFlag 2 then s else (s.thermBit 2 true).raise 0x0C04 k
    else s
  let calm := (List.range 16).all fun j => !s.masked j || s.tsFailed j || decide (s.riseOf j < s.riseLimit)
  let s := s.modTherm fun x => { x with riseOk := if calm then some (x.riseOk.getD s.now) else none }
  -- the step at once
  let s :=
    if s.throttles then
      if was then s else (s.modTherm fun x => { x with stepT := some s.now }).stepDown
    else s.modTherm fun x => { x with stepT := none }
  -- recovery
  let cool := (List.range 16).all fun j => !s.masked j || (!s.tsFailed j && decide (s.ts j < s.throtAt - s.hyst))
  s.modTherm fun x => { x with belowT := if cool then some (x.belowT.getD s.now) else none }

/-- R320, R321: sensor k returns the reading v, in 1/16 degree C, at instant t. -/
def thermSample (k : Nat) (v : Int) (t : Nat) (s : State) : State :=
  let s := s.at t
  let now := s.now
  let implausible := decide (v < -960) || decide (3200 < v) ||
    (match s.rawOf k with
     | some p => decide (320 < v - p) || decide (320 < p - v)
     | none => false)
  let s := s.modTherm fun x => { x with raw := tput k v x.raw }
  let keep (l : List (Nat × Int)) : List (Nat × Int) :=
    (l.filter fun e => now < e.1 + 256 * unitsPerMs) ++ (l.filter fun e => e.1 + 256 * unitsPerMs ≤ now).take 1
  let s := if implausible then s else
    s.modTherm fun x => { x with hist := tput k ((now, v) :: keep (tget (fun _ => []) x.hist k)) x.hist }
  let s := s.modTherm fun x =>
    { x with coolT := if x.raw.all (fun e => decide (e.2 < 1920)) then some (x.coolT.getD now) else none }
  let s :=
    if implausible then
      let s := s.modTherm fun x => { x with okT := tdel k x.okT }
      if s.tsFailed k then s else (s.setFld R.thermFail (s.fld R.thermFail + 2 ^ k)).raise 0x0C07 k
    else if s.tsFailed k then
      s.modTherm fun x => { x with okT := if tget (fun _ => 0) x.okT k = 0 then tput k (now + 1) x.okT else x.okT }
    else
      let s := s.setFld (R.thermTs k) (unsx 13 v)
      let first := !s.therm.seen.contains k
      let s := if first || decide (sext 13 (s.fld (R.thermMax k)) < v) then s.setFld (R.thermMax k) (unsx 13 v) else s
      s.modTherm fun x => { x with seen := if first then k :: x.seen else x.seen }
  let s := if k = 12 || k = 13 then refresh s else s
  s.thermLimits k

/-- R321: a failed sensor has read plausibly for 1 s. -/
def sensorRecovered (k : Nat) (s : State) : State :=
  let t := tget (fun _ => 0) s.therm.okT k
  if s.tsFailed k && t != 0 then
    ((s.at (t - 1 + unitsPerS)).setFld R.thermFail (s.fld R.thermFail - 2 ^ k)).modTherm fun x =>
      { x with okT := tdel k x.okT }
  else s

/-- R324: STEP_MS after the last step, while throttling. -/
def throttleStep (s : State) : State :=
  match s.therm.stepT with
  | some t =>
    if s.throttles then
      let s := s.at (t + s.fld R.thermTimeStepMs * unitsPerMs)
      (s.modTherm fun x => { x with stepT := some s.now }).stepDown
    else s
  | none => s

/-- R325: RECOV_MS after the condition began to hold, or after the last step up. -/
def capRecoverStep (s : State) : State :=
  let cap := s.fld R.thermCap
  let top := s.fld R.thermCapHost
  match s.therm.belowT with
  | some t =>
    if cap < top && !s.thermFlag 1 && !s.thermFlag 2 then
      let s := s.at (t + s.fld R.thermTimeRecovMs * unitsPerMs)
      ((s.modTherm fun x => { x with belowT := some s.now }).setFld R.thermCap (min top (cap + 500))).raise 0x0C03
        s.therm.who (min top (cap + 500))
    else s
  | none => s

/-- R323: every masked sensor has stayed below the rise limit for 1 s. -/
def riseEpisodeEnd (s : State) : State :=
  match s.therm.riseOk with
  | some t =>
    if s.thermFlag 2 then
      let s := (s.at (t + unitsPerS)).thermBit 2 false
      if s.throttles then s else s.modTherm fun x => { x with stepT := none }
    else s
  | none => s

/-- R326: a write of the host's ceiling; refused (false) outside its values. -/
def State.capHostWrite (s : State) (v : Nat) : Bool × State :=
  if v % 500 != 0 || v < 500 || 8000 < v then (false, s.refuse 0x1F001C 1)
  else
    let s := s.setFld R.thermCapHost v
    let cap := s.fld R.thermCap
    (true, if v < cap then (s.modTherm fun x => { x with capWas := some (s.now, cap) }).setFld R.thermCap v else s)

/-! ### Shutdown and restart (R328 to R331) -/

/-- The engines are stopped; the tiles of the tick are stale (R328). -/
def State.engHalt (s : State) : State :=
  let live := (List.range 192).filter fun e => (s.eng e).cur.isSome || !(s.eng e).queue.isEmpty
  let tiles := (live.flatMap fun e => (s.eng e).cur.toList ++ (s.eng e).queue) ++
    s.arr.restarts.flatMap fun r => r.tile.toList ++ r.rest
  let s := s.arr.tasks.foldl (fun (s : State) (t : Task) =>
    if tiles.any (·.task == t.idx) then s.staleTask t.idx else s) s
  let s := live.foldl (fun (s : State) (e : Nat) => s.modEng e fun x =>
    { x with cur := none, queue := [], xfers := [], fault := none, busy := x.busy + (if x.cur.isSome then x.cyc else 0) }) s
  s.modArr fun a => { a with stopped := true, restarts := [] }

/-- R328: a raw reading of 150 degrees C or more stops the hot blocks; the lowest such sensor is the one named. -/
def hwShutdown (s : State) : State :=
  match s.therm.raw.find? fun e => decide (2400 ≤ e.2) with
  | none => s
  | some (k, v) =>
    if s.ao.shut then s
    else
      let s := (s.haltBlocks 1).engHalt
      let runs := (List.range 4).filter fun h => s.hState h == 4
      let s := runs.foldl (fun (s : State) (h : Nat) =>
        ((s.setHState h 3).modHead h fun x => { x with resume := false }).headStops h) s
      let s := s.modTherm fun x => { x with downHeads := (if x.startsDue then x.downHeads else []) ++ runs, startsDue := false }
      let s : State := { s with ao := { s.ao with shut := true } }
      let s := ((s.thermBit 4 true).bump R.thermShutdowns).peatUpd (.count 0x0C)
      (s.raise 0x0C05 k (unsx 32 v)).faultBit 0

/-- The spares of a group owe a full rotation before they count as free (R82, R330). -/
def State.spareRotation (s : State) (g : Nat) : State :=
  let s := (List.range 38).foldl (fun (s : State) (l : Nat) =>
    if s.fld (R.afeSliceCtlRole (38 * g + l)) = 1 then s.modSlice (38 * g + l) fun x => { x with rot := 3 } else s) s
  s.showAfeSpares g

/-- R376: the clocks restart; the heads that were running start their next frame at a suitable tick, the flash port polls
first, and THAW commands wait for that tick. -/
def State.thawApply (s : State) : State :=
  let s : State := { s with ao := { s.ao with frozen := false, edgeWait := true } }
  let s := (List.range 4).foldl (fun (s : State) (h : Nat) =>
    (s.fillFrame h).modHead h fun x => { x with due := false, resume := s.ao.frzHeads.contains h && s.hState h == 4 }) s
  let cmds := s.ao.thawCmds
  let s : State := { s with reqs := s.reqs ++ cmds.map fun u => { kind := .thaw, cmd := some u } }
  let s : State := { s with ao := { s.ao with thawCmds := [], frzHeads := [] } }
  let st := s.fld R.spiFlStat
  let s := s.setFld R.spiFlStat (st ||| 2)
  let s : State := { s with flash := { s.flash with polling := true, pollT := s.now, busyTo := min s.flash.busyTo s.now } }
  s.heldGoOn.startsGoOn.raise 0x0E09 0

/-- The freeze ends once no request for it is present, and not before a thermal restart (R331, R370). -/
def State.thawIfClear (s : State) : State :=
  if s.ao.frozen && !s.ao.pin && !s.ao.latch && !s.ao.shut then s.thawApply else s

/-- Firmware, at work, requests the start of every head that was running at the shutdown but those whose detach is asked for
(R330, R331). -/
def State.restartStarts (s : State) : State :=
  if !(s.therm.startsDue && s.fwRuns) then s
  else
    let detach (h : Nat) : Bool := (s.reqs.any fun q => q.kind == .headDetach && q.obj == h) ||
      s.cmds.any fun c => c.phase == 0 && c.opc == 0x13 && c.obj == h
    let hs := s.therm.downHeads.filter fun h => !detach h
    let s := s.modTherm fun x => { x with startsDue := false, downHeads := [], rsPend := x.rsPend ++ hs }
    let s := hs.foldl (fun (s : State) (h : Nat) => s.startReq h (s.head h).startCmd) s
    s.restartEvent

/-- R330: every sensor has read below 120 degrees C for 1 s. A start that an earlier restart asked for and that is not yet
decided belongs to this restart's event. (DESIGN CHOICE, log entry 86) -/
def shutdownRestart (s : State) : State :=
  match s.therm.coolT with
  | none => s
  | some t =>
    if !s.ao.shut then s
    else
      let s := s.at (t + unitsPerS)
      let s : State := { s with ao := { s.ao with shut := false, edgeWait := true } }
      let s := s.thermBit 4 false
      let s := (List.range 4).foldl (fun (s : State) (h : Nat) =>
        ((s.fillFrame h).spareRotation h).modHead h fun x => { x with due := false }) s
      let s := s.heldGoOn.startsGoOn
      let s := if s.flash.polling || s.ao.frozen then s else s.xipServe
      let s := (s.setFld R.thermCap 500).modTherm fun x => { x with stepT := if s.throttles then some s.now else none }
      ((s.modTherm fun x => { x with startsDue := true }).restartStarts).thawIfClear

/-! ### Compensation (R332 to R334) -/

/-- R333: a write of THERM_CMP_GO names tables, whose entries as they stand wait for the update; one with an entry out of range
is refused and stays as it was. -/
def thermCmpGo (w : Nat) (s : State) : State :=
  (List.range 6).foldl (fun (s : State) (t : Nat) =>
    if nbits w t 1 = 0 then s
    else if (s.cmpWritten t).all fun e => decide (-4096 ≤ e) && decide (e ≤ 4095) then
      s.modTherm fun x => { x with pend := tput t (s.cmpWritten t) x.pend }
    else s.refuse 0x1F0280 2) s

/-- R334: the oscillator's error e in ppm against the crystal, measured each second. A reading halfway between two entries
moves either; the moved entry is limited to the range of R333. (DESIGN CHOICE, log entry 37) -/
def oscLearn (e : Int) (s : State) : State :=
  if s.ao.xtal && s.flag R.thermCtlLearn then
    if e < -2000 || 2000 < e then s.raise 0x0C08 0
    else
      let u := (clampI (-960) 2880 (s.ts 10) + 960).toNat
      let tie := u % 480 = 240
      let i := if tie && Config.runChoice s.freeCtr % 2 = 0 then u / 480 else (u + 240) / 480
      let s := if tie then s.fresh else s
      let v := clampI (-4096) 4095 (s.cmpEntry 5 i + rdiv e 80)
      let s := s.modTherm fun x => { x with tab := tset (fun _ => 0) (16 * 5 + i) v x.tab }
      let s := s.setFld (R.thermCmpOsc i) (unsx 16 v)
      s.peatUpd (.put (0x1A0 + 2 * i) (leBytes 2 (unsx 16 v)))
  else s

/-! ### The commands -/

/-- THERM_SAMPLE (R320). -/
def execThermSample (k : Fin 16) (v : Int) (t : Nat) (s : State) := ok (whenUp (thermSample k v t)) s
/-- SENSOR_RECOVERED (R321). -/
def execSensorRecovered (k : Fin 16) (s : State) := ok (whenUp (sensorRecovered k)) s
/-- THROTTLE_STEP (R324). -/
def execThrottleStep (s : State) := ok (whenUp throttleStep) s
/-- CAP_RECOVER_STEP (R325). -/
def execCapRecoverStep (s : State) := ok (whenUp capRecoverStep) s
/-- RISE_EPISODE_END (R323). -/
def execRiseEpisodeEnd (s : State) := ok (whenUp riseEpisodeEnd) s
/-- THERM_CAP_HOST_WRITE (R326). -/
def execThermCapHostWrite (v : BitVec 14) (s : State) := ok (whenUp fun s => (s.capHostWrite v.toNat).2) s
/-- HW_SHUTDOWN (R328). -/
def execHwShutdown (s : State) := ok (whenUp hwShutdown) s
/-- SHUTDOWN_RESTART (R330). -/
def execShutdownRestart (s : State) := ok (whenUp shutdownRestart) s
/-- COMP_UPDATE (R332). -/
def execCompUpdate (osc : Bool) (s : State) := ok (whenUp fun s => s.compUpdate (if osc then 5 else 0)) s
/-- THERM_CMP_GO (R333). -/
def execThermCmpGo (w : BitVec 6) (s : State) := ok (whenUp (thermCmpGo w.toNat)) s
/-- OSC_LEARN (R334). -/
def execOscLearn (e : Int) (s : State) := ok (whenUp (oscLearn e)) s

end Sys2Proof.Machine
end

