-- ==== Sys2Proof/Machine/Serial.lean ====
section
/-!
DEFINITION. The serial masters: head-link queues (R302 to R307), direct flash frames and polls (R308 to R311), XIP reads and
the prefetch buffer (R312 to R314).
-/
namespace Sys2Proof.Machine

/-! ### Head links -/

/-- The fields of a queue entry are in their ranges and its zero fields are zero (R303, R306 cause 1). -/
def hlEntryOk (ws : List Nat) : Bool :=
  let w (k : Nat) : Nat := ws.getD k 0
  let len := nbits (w 0) 0 6
  4 ≤ len && len ≤ 32 && nbits (w 0) 10 2 != 3 && nbits (w 0) 12 4 == 0 && nbits (w 0) 16 16 != 0 &&
    w 2 % 4 == 0 && w 4 % 4 == 0 && w 6 == 0 && w 7 == 0

/-- The assertions of the select for the words of an entry (R304): one around each word, or with CONT one held from the first
word to the last; a first entry follows no release. The gaps are the least the rule allows, and GAP stands between the words of a
held select too (R303). The modes are those of SPI: bit 1 the level of the idle clock, bit 0 its phase.
(DEDUCED, log entry 57; PRESUMED, log entry 83) -/
def State.hlSelects (s : State) (n : Nat) (w0 gap : Nat) : List Select :=
  let line := nbits w0 6 1
  let cnt := nbits w0 16 16
  let idle := s.fld (R.spiHlCfgIdle n)
  let mode := s.fld (R.spiHlCfgMode n)
  let one (first : Bool) (words : Nat) : Select :=
    { idleHigh := 2 ≤ mode, trailing := mode % 2 == 1, line, high := nbits (s.fld (R.spiHlCfgSelPol n)) line 1 == 1,
      lead := s.fld (R.spiHlCfgLead n), words, inner := gap, lag := s.fld (R.spiHlCfgLag n), gap := if !first then idle + gap else if (s.hl n).idx = 0 then 0 else idle }
  if nbits w0 7 1 = 1 then [one true cnt] else (List.range cnt).map fun i => one (i == 0) 1

/-- The HSCK periods of a select's assertion with words of len bits, its gap before included. -/
def Select.periods (a : Select) (len : Nat) : Nat := a.gap + a.lead + a.words * len + (a.words - 1) * a.inner + a.lag

/-- The time the assertions of an entry take: HSCK runs at 400 MHz / (2 DIV) (R302). -/
def State.hlTime (s : State) (n len : Nat) (sels : List Select) : Nat :=
  (sels.map fun a => a.periods len).sum * s.fld (R.spiHlCfgDiv n) * 5 * unitsPerNs

/-- The assertions of which k words in all are sent. -/
def selsTake : Nat → List Select → List Select
  | _, [] => []
  | k, a :: rest => if k = 0 then [] else { a with words := min k a.words } :: selsTake (k - a.words) rest

/-- The level of a select between entries: inactive, and low while HPEN is low (R302, R304). -/
def State.hlSelRest (s : State) (n k : Nat) : Bool := (s.head n).hpen && nbits (s.fld (R.spiHlCfgSelPol n)) k 1 == 0

/-- The level of HSCK between entries: that of the mode, and low while HPEN is low (R302). (PRESUMED, log entry 83) -/
def State.hlSckRest (s : State) (n : Nat) : Bool := (s.head n).hpen && decide (2 ≤ s.fld (R.spiHlCfgMode n))

/-- R305: the queue entry in turn runs its words once its wait and the DELAY before it are over; `rx` holds the words HMISO
delivers, and a word it lacks is a free value. `stop`: the stop that comes next (R306) leaves it only so many words, and cuts the
word in progress if it is a freeze (R316). While HPEN is low the outputs are low, and no word counts as sent (R302). What lies in
DRAM waits while the memory system stands still (R329). (DEDUCED, log entry 57) -/
def hlEntry (n : Nat) (rx : List Nat) (stop : Option (Nat × Bool)) (s : State) : State :=
  let x := s.hl n
  if !(x.run && x.go && x.idx < x.cnt) || !s.memReady x.addr then s
  else
    let s := s.setFld (R.spiHlStatEntry n) x.idx
    match s.hostRead (x.addr + 32 * x.idx) 32 with
    | (none, s) => s.hlStop n 2 1
    | (some bs, s) =>
      let ws := wordsOf 8 bs
      let w (k : Nat) : Nat := ws.getD k 0
      let sync := nbits (w 0) 10 2
      if !hlEntryOk ws then s.hlStop n 1 1
      else if !s.hlHeadOk n then s.hlStop n 3 1
      else if !((nbits (w 0) 8 1 == 0 || s.memReady (w 2 + 2 ^ 32 * w 3)) && (nbits (w 0) 9 1 == 0 || s.memReady (w 4 + 2 ^ 32 * w 5)))
      then s
      else if (sync = 1 && !x.sawTick) || (sync = 2 && !x.sawFrame) then s.setFld (R.spiHlStatState n) 1
      else
        let s := (s.at x.freeAt).setFld (R.spiHlStatState n) 2
        let len := nbits (w 0) 0 6
        let all := nbits (w 0) 16 16
        let cnt := match stop with | some (k, _) => min k all | none => all
        let tx := w 2 + 2 ^ 32 * w 3
        let dst := w 4 + 2 ^ 32 * w 5
        let out := if nbits (w 0) 8 1 = 1 then s.hostRead tx (4 * cnt) else (some (List.replicate (4 * cnt) 0), s)
        match out with
        | (none, s) => s.hlStop n 2 1
        | (some bytes, s) =>
          let on := (s.head n).hpen
          let sent := (wordsOf cnt bytes).map fun v => if on then v % 2 ^ len else 0
          let got := (List.range cnt).map fun i => (rx.getD i (Config.freeVal (s.freeCtr + i))) % 2 ^ len
          let s : State := if nbits (w 0) 9 1 = 1 && rx.length < cnt then { s with freeCtr := s.freeCtr + cnt } else s
          let s := if on then s.bump (R.spiHlWords n) cnt else s
          let bad := nbits (w 0) 9 1 = 1 && !(if isHost dst then s.host.linkUp else inDram dst (4 * cnt))
          let s := if nbits (w 0) 9 1 = 1 then s.hostWrite dst (bytesOf got) else s
          let sels := s.hlSelects n (w 0) (w 1 % 2 ^ 16)
          let selEnd := s.now + s.hlTime n len (selsTake (if stop.any (·.2) then cnt - 1 else cnt) sels)
          let s := s.modHl n fun y =>
            { y with sent, sels := if on then selsTake cnt sels else [], cut := stop.any (·.2), selEnd,
                     freeAt := selEnd + w 1 / 2 ^ 16 * unitsPerUs }
          if bad then s.hlStop n 2 1
          else if stop.isSome then s
          else s.modHl n fun y => { y with idx := y.idx + 1, sawTick := false, sawFrame := false }

/-- R305: after the last entry's DELAY the queue completes; the attach goes on (R61, R307). -/
def hlQueueDone (n : Nat) (s : State) : State :=
  let x := s.hl n
  if x.run && x.go && x.cnt ≤ x.idx then
    let s := ((s.at x.freeAt).modHl n fun y => { y with run := false, cmd := none }).setFld (R.spiHlStatState n) 0
    let s := s.finishO x.cmd 0 0 x.cnt 0
    if x.attach then s.attachCheck n else s
  else s

/-- R305: a write of SPI_HLn_QGO. A link that is off starts no queue. -/
def spiHlQgo (n w : Nat) (s : State) : State :=
  if nbits w 0 1 = 0 then s
  else if !s.flag (R.spiHlCfgEn n) then s.refuse (0x1E011C + 0x40 * n)
  else s.hlStart n (s.base (R.spiHlQaddrLo n) (R.spiHlQaddrHi n)) (s.fld (R.spiHlQcnt n)) (nbits w 1 1 == 1) false none

/-! ### Flash (R308 to R314) -/

/-- R309: a format word that is not refused. -/
def flFmtOk (f : Nat) : Bool :=
  nbits f 7 2 != 3 && (nbits f 2 1 == 0 || nbits f 3 1 == 1) && (nbits f 17 1 == 0 || (nbits f 16 1 == 1 && nbits f 18 1 == 0)) &&
    f / 2 ^ 19 == 0

/-- The DUMMY clocks can hold the 8 mode bits, at the address lanes and rate (R313). -/
def flModeFits (f : Nat) : Bool := 8 ≤ nbits f 9 5 * 2 ^ nbits f 4 2 * (1 + nbits f 6 1)

/-- A poll begins, after the frame before it. -/
def State.pollStart (s : State) : State :=
  { s.setFld R.spiFlStat (s.fld R.spiFlStat ||| 2) with
    flash := { s.flash with polling := true, pollT := max s.now s.flash.busyTo } }

/-- A poll ends, and the XIP reads that waited are served, those of golden records among them (R314). -/
def State.pollEnd (s : State) : State :=
  let v := s.fld R.spiFlStat
  ({ s.setFld R.spiFlStat (v - nbits v 1 1 * 2) with flash := { s.flash with polling := false } } : State).buildsGoOn.xipServe

/-- A direct frame runs (R310): SPI_FL_STAT.BUSY. -/
def State.flBusy (s : State) : Bool := decide (s.now < s.flash.busyTo)

/-- R310: a write of SPI_FL_GO; `rx` holds the bytes the flash delivers in a read frame, and a byte it lacks is free. `cut`: the
freeze that comes next cuts the frame after so many data bytes, where it ends (R316). (DESIGN CHOICE, log entry 28) -/
def flashGo (w : Nat) (rx : List Nat) (cut : Option Nat) (s : State) : State :=
  if nbits w 0 1 = 0 then s
  else
    let f := s.fld R.spiFlFmt
    let len := s.fld R.spiFlLen
    let refused (c : Nat) : State := (s.setFld R.spiFlStatCause c).refuse 0x1E0820 c
    if !s.flag R.spiFlCfgEn then s.refuse 0x1E0820
    else if !flFmtOk f || (nbits w 1 1 = 1 && !flFmtOk (s.fld R.spiFlPollFmt)) then refused 1
    else if 256 < len then refused 2
    else if s.flash.polling || s.flBusy || nbits (s.fld R.spiFlStat) 3 1 = 1 then refused 3
    else
      let exit := if nbits (s.fld R.spiFlStat) 2 1 = 1 then s.xipExit.flash.frames else []
      let s := s.xipExit.setFld R.spiFlStatCause 0
      let wr := nbits f 18 1 = 1
      let bufByte (i : Nat) : Nat := nbits (s.fld (R.spiFlBuf (i / 4))) (8 * (i % 4)) 8
      let data := if wr then (List.range len).map bufByte else []
      let frame (n : Nat) : FlFrame := flFrame f (s.fld R.spiFlCmd) (s.fld R.spiFlAddr) false none (data.take n) (if wr then 0 else n)
      let s := s.modFlash fun y =>
        { y with frames := exit ++ [{ frame len with cut := cut.isSome }],
                 busyTo := s.now + (frame (min len (cut.getD len))).clocks * s.fld R.spiFlCfgDiv * 5 * unitsPerNs }
      let s := if wr then s
        else
          let len := match cut with | some k => min k len | none => len
          let s := (List.range len).foldl (fun (s : State) (i : Nat) =>
            s.setFld ⟨0x1E0900 + i / 4 * 4, 8 * (i % 4), 8⟩ (rx.getD i (Config.freeVal (s.freeCtr + i)) % 256)) s
          if rx.length < len then { s with freeCtr := s.freeCtr + len } else s
      let s : State := if wr || nbits w 1 1 = 1 then { s with flash := { s.flash with lines := [] } } else s
      if nbits w 1 1 = 1 then s.pollStart else s

/-- The frame of a poll (R311); the address of a format that has one is open. (DESIGN CHOICE, log entry 28) -/
def State.pollFrame (s : State) : State :=
  let x := flFrame (s.fld R.spiFlPollFmt) (s.fld R.spiFlPoll % 2 ^ 16) (Config.freeVal s.freeCtr) false none [] 1
  (s.modFlash fun y => { y with frames := [x] }).fresh

/-- R311: a poll frame reads the status byte; the poll ends once the bit differs from the busy level, and with it a firmware
image's program and erase (R362), which firmware must be at work to end (R367). -/
def flashPoll (status : Nat) (s : State) : State :=
  let p := s.fld R.spiFlPoll
  if !s.flash.polling || !(s.ao.stage.isNone || s.fwRuns) then s
  else if nbits status (nbits p 16 3) 1 != nbits p 19 1 then (s.pollFrame.stageEnd false).pollEnd
  else s.pollFrame

/-- R311: TO ms have passed. -/
def flashPollTimeout (s : State) : State :=
  if s.flash.polling && (s.ao.stage.isNone || s.fwRuns) then
    let s := s.at (s.flash.pollT + nbits (s.fld R.spiFlPoll) 20 12 * unitsPerMs)
    (((s.stageEnd true).pollEnd).setFld R.spiFlStatCause 4).raise 0x0F03 0
  else s

/-- R312, R314: an XIP read; it goes after a direct frame, and waits while a poll runs or the port is frozen (R371). -/
def xipReadStep (ctrl : Bool) (a n : Nat) (s : State) : State :=
  if s.flash.polling || s.ao.frozen then s.modFlash fun x => { x with waits := x.waits ++ [(ctrl, a, n)] }
  else
    let r := (s.at s.flash.busyTo).xipRead ctrl a n
    { r.2 with reply := (r.1.getD []).map (·.toNat) }

/-! ### The commands -/

/-- SPI_HL_QGO (R305). -/
def execSpiHlQgo (n : Fin 4) (w : BitVec 2) (s : State) := ok (whenReg (R.spiHlQgo n).off (spiHlQgo n w.toNat)) s
/-- HL_ENTRY (R305). -/
def execHlEntry (n : Fin 4) (rx : List (BitVec 32) × Option (Nat × Bool)) (s : State) :=
  ok (whenThawed (hlEntry n (rx.1.map (·.toNat)) rx.2)) s
/-- HL_QUEUE_DONE (R305). -/
def execHlQueueDone (n : Fin 4) (s : State) := ok (whenThawed (hlQueueDone n)) s
/-- FLASH_GO (R310). -/
def execFlashGo (w : BitVec 2) (rx : List (BitVec 8) × Nat × Option Nat) (s : State) :=
  ok (whenReg R.spiFlGo.off fun s => flashGo w.toNat (rx.1.map (·.toNat)) rx.2.2 (s.at rx.2.1)) s
/-- FLASH_POLL (R311). -/
def execFlashPoll (status : BitVec 8) (s : State) := ok (whenThawed (flashPoll status.toNat)) s
/-- FLASH_POLL_TIMEOUT (R311). -/
def execFlashPollTimeout (s : State) := ok (whenThawed flashPollTimeout) s
/-- XIP_READ (R312). -/
def execXipRead (ctrl : Bool) (a n : Nat) (s : State) := ok (whenUp (xipReadStep ctrl a n)) s

end Sys2Proof.Machine
end

