-- ==== Sys2Proof/Machine/Power.lean ====
section
/-!
DEFINITION. The always-on domain: power-up attempts (R353 to R356), resets (R358, R359), boot (R315, R361), the switch
of firmware (R363), single faults of the control pair and the crystal (R366 to R368), FAULT_N (R369), freeze and thaw (R370 to
R377) and the JTAG port (R373 to R375).
-/
namespace Sys2Proof.Machine

/-- The code on STAT[2:0] (R356). Of several states that hold at once the failed control pair is shown first, then the
shutdown, then the freeze. (DEDUCED, log entry 39) -/
def State.statCode (s : State) : Nat :=
  if s.ao.step = .running then
    (if s.ao.failed then 7 else if s.ao.shut then 5 else if s.ao.frozen then 6 else 0)
  else s.ao.stat

/-- Does the device drive FAULT_N low (R355, R367, R369)? -/
def State.drivesFault (s : State) : Bool :=
  !s.ao.ran || [2, 3, 4, 7].contains s.statCode || (s.fld R.faultStat &&& s.fld R.faultMask) != 0

/-! ### Resets (R358) -/

/-- What no reset touches: the flash, host memory, the shadow copies, what is programmed once, and the levels on the pins. -/
def State.remains (s : State) : State :=
  { now := s.now
    mem := s.mem.filter fun b => isHost b.1 || (xipBase ≤ b.1 && b.1 < xipBase + 2 ^ 29)
    ecc := s.ecc.filter fun g => isHost (8 * g.1)
    heads := s.heads.filterMap fun h => if h.2.hdet then none else some (h.1, { hdet := false, hdetT := h.2.hdetT })
    peat := { copyA := s.peat.copyA, copyB := s.peat.copyB, otp := s.peat.otp, otpEcc := s.peat.otpEcc,
              pwsNv := s.peat.pwsNv, pwsEcc := s.peat.pwsEcc, pws := s.peat.pwsNv, store := s.peat.store,
              storing := s.peat.storing, vhold := s.peat.vhold, pfailLow := s.peat.pfailLow, pfailT := s.peat.pfailT }
    ao := { keyHash := s.ao.keyHash, revoked := s.ao.revoked, svnMin := s.ao.svnMin, pin := s.ao.pin,
            rstLow := s.ao.rstLow }
    freeCtr := s.freeCtr, nextUid := s.nextUid, reply := s.reply, pending := s.pending }

/-- Does a register keep its value through RESET_N and an AO_CMD restart? THERM_MAXk, THERM_SHUTDOWNS, and what the peat
store shows of itself in PEAT_STAT (R351, R358). -/
def keptReg (o : Nat) : Bool :=
  (0x1F0080 ≤ o && o < 0x1F00C0) || o = 0x1F00C4 || o = 0x200010

/-- TICK_STATUS.HOLDOVER: POWERED_NS counts on an internal oscillator, as it does before the crystal is confirmed (R34). -/
def State.holdoverBit (s : State) (b : Bool := true) : State :=
  s.setFld R.tickStatus (s.fld R.tickStatus % 4 + (if b then 4 else 0))

/-- The levels on PEN0 to PEN3: rails that were dropped go low from PEN3 to PEN0, 1 ms apart (R353, R355).
(DEDUCED, log entry 39) -/
def State.pens (s : State) : Nat :=
  (List.range 4).foldl (fun m g =>
    m + 2 ^ g * (if s.now < s.ao.penT + (3 - g) * unitsPerMs && nbits s.ao.penOld g 1 = 1 then 1
      else if s.ao.t0 ≤ s.now then nbits s.ao.pen g 1 else 0)) 0

/-- The rails have all dropped from then on. -/
def State.railsOff (s : State) : Nat := if s.ao.penOld = 0 then 0 else s.ao.penT + 3 * unitsPerMs

/-- The core domain goes down with its rails; what R358 names is kept, and the settings of the always-on domain. -/
def State.coreReset (s : State) : State :=
  let r := s.remains
  let a := s.ao
  State.holdoverBit { r with
    regs := s.regs.filter fun e => keptReg e.1
    mgmt := s.mgmt
    peat := { s.peat with waits := s.peat.waits.map fun w => match w with
                | .write off bs _ => .write off bs none
                | .clearLog => .clearLog }
    therm := { seen := s.therm.seen }
    ao := { r.ao with
            tries := a.tries, holdGroup := a.holdGroup, holdBoot := a.holdBoot, pgTo := a.pgTo, settleMs := a.settleMs,
            xtalTo := a.xtalTo, seqIn := a.seqIn, rstCause := a.rstCause, nsHi := a.nsHi, snapAddr := a.snapAddr, ran := a.ran,
            recalled := a.recalled, pinLvl := a.pinLvl, pinWas := a.pinWas, pinRun := a.pinRun, ir := a.ir, debug := a.debug,
            chain := a.chain, penOld := s.pens, penT := s.now, stat := 1, step := .reset, t0 := s.now } }

/-- RESET_N and AO_CMD restart: the always-on words go back to their reset values too, but for those R358 keeps. -/
def State.aoReset (s : State) (cause : Nat) : State :=
  s.coreReset.modAo fun a =>
    { a with tries := 0, rstCause := cause, holdGroup := 0, holdBoot := 0, pgTo := 0x0A, settleMs := 0x01, xtalTo := 0x14,
             nsHi := 0, snapAddr := 0 }

/-- A power-up attempt begins: PEN0 goes high (R354), once the rails of the attempt before have dropped. -/
def State.startAttempt (s : State) : State :=
  s.holdoverBit.modAo fun a =>
    { a with step := .waitPg 0, t0 := max s.now s.railsOff, stat := 1, pen := 1, pgood := 0, xtal := false, xtalOk := 0,
             seqIn := (a.pgTo, a.settleMs, a.xtalTo) }

/-- An attempt fails (R355): the rails drop, and the domain backs off, or holds after attempt 4. -/
def State.failAttempt (s : State) (code : Nat) : State :=
  let tries := s.ao.tries
  let s := s.coreReset
  s.modAo fun a =>
    { a with stat := code, step := if tries = 3 then .held else .backoff, tries := min 3 (tries + 1), t0 := s.now }

/-! ### Rail sequencing (R354, R355) -/

/-- VIO33 rises above 2.9 V: the always-on domain leaves reset and POWERED_NS starts. While RESET_N is low no attempt begins,
and a PFAIL_N that is low starts locked (R343). -/
def vio33Rise (s : State) : State :=
  if s.ao.step != .off then s
  else
    let s := s.remains
    let s : State := { s with now := 0 }
    let s := ((s.peatStatBit 6 (!s.peat.pfailLow)).peatStatBit 2 s.peat.pfailLow).modPeat fun p => { p with pfailT := 0 }
    if s.ao.rstLow then s.holdoverBit.modAo fun a => { a with step := .reset, stat := 1 } else s.startAttempt

/-- VIO33 falls below 2.7 V. -/
def vio33Por (s : State) : State := s.remains

/-- PGOODg rises at instant t: its level is shown, also while the device runs (R357); an attempt that waits for it goes on. -/
def pgoodRise (g t : Nat) (s : State) : State :=
  let s := (s.at t).modAo fun a => { a with pgood := a.pgood ||| 2 ^ g }
  if s.ao.step = .waitPg g then s.modAo fun a => { a with step := .settle g, t0 := s.now, pgT := s.now } else s

/-- SETTLE expires: the next group, or the crystal count. -/
def penSettleElapsed (s : State) : State :=
  match s.ao.step with
  | .settle g =>
    let s := s.at (s.ao.t0 + s.ao.seqIn.2.1 * unitsPerMs)
    s.modAo fun a =>
      if g < 3 then { a with step := .waitPg (g + 1), t0 := s.now, pen := a.pen ||| 2 ^ (g + 1) }
      else { a with step := .crystal, t0 := s.now, xtalOk := 0 }
  | _ => s

/-- PGOODg does not rise within PG_TO. -/
def pgoodTimeout (s : State) : State :=
  match s.ao.step with
  | .waitPg g =>
    let s := s.at (s.ao.t0 + s.ao.seqIn.1 * unitsPerMs)
    (s.modAo fun a => { a with holdGroup := 2 ^ g }).failAttempt 2
  | _ => s

/-- The back-off of 100 ms, 400 ms or 1.6 s after the last rail has dropped ends. (DEDUCED, log entry 39) -/
def backoffElapsed (s : State) : State :=
  if s.ao.step = .backoff then
    let w := match s.ao.tries with | 1 => 100 | 2 => 400 | _ => 1600
    (s.at (s.ao.t0 + (3 + w) * unitsPerMs)).startAttempt
  else s

/-- A 1 ms window counts n crystal edges; the second good one in a row confirms the crystal, and the peat store is recalled
once after power-up (R338, R354). -/
def crystalWindow (n : Nat) (s : State) : State :=
  if s.ao.step = .crystal then
    let s := s.at (s.now + unitsPerMs)
    let k := if 22500 ≤ n && n ≤ 27500 then s.ao.xtalOk + 1 else 0
    if k < 2 then s.modAo fun a => { a with xtalOk := k }
    else
      let s := (s.holdoverBit false).modAo fun a => { a with xtalOk := 0, xtal := true, step := .boot, t0 := s.now }
      if s.ao.recalled then s else (s.modAo fun a => { a with recalled := true }).recall
  else s

/-- The crystal is not confirmed within XTAL_TO of PGOOD3. -/
def xtalTimeout (s : State) : State :=
  if s.ao.step = .crystal then (s.at (s.ao.pgT + s.ao.seqIn.2.2 * unitsPerMs)).failAttempt 3 else s

/-! ### RESET_N and AO_CMD restart (R355, R358, R359) -/

/-- An accepted low of RESET_N at instant t. -/
def resetNLow (t : Nat) (s : State) : State :=
  if s.ao.step = .off then s.modAo fun a => { a with rstLow := true }
  else
    let s := s.at t
    let cause := if s.ao.failed then 3 else 1
    (s.aoReset cause).modAo fun a => { a with rstLow := true }

/-- RESET_N is released: a new attempt 1. -/
def resetNRelease (t : Nat) (s : State) : State :=
  let s := (s.at t).modAo fun a => { a with rstLow := false }
  if s.ao.step = .reset then s.startAttempt else s

/-- AO_CMD 1: a new attempt 1. -/
def aoRestart (s : State) : State :=
  if s.ao.rstLow then s
  else
    let cause := if s.ao.failed then 3 else 2
    (s.aoReset cause).startAttempt

/-- A PGOODg has been low for 100 us while the device runs (R357). -/
def pgoodLost (mask : Nat) (s : State) : State :=
  let s := s.modAo fun a => { a with pgood := a.pgood - (a.pgood &&& mask) }
  ((s.setFld R.sysPgoodLost (s.fld R.sysPgoodLost ||| mask)).raise 0x0E01 0 mask).faultBit 7

/-! ### Freeze and thaw (R370 to R372, R376) -/

/-- The freeze takes effect: the blocks stop, the head links stop with cause 4. (DEDUCED, log entry 40) -/
def State.freezeApply (s : State) : State :=
  if !s.ao.up || s.ao.frozen then s
  else
    let runs := (List.range 4).filter fun h => s.hState h == 4
    let s := ((s.haltBlocks 11).engHalt).modAo fun a => { a with frzHeads := runs }
    let s := (List.range 4).foldl (fun (s : State) (n : Nat) => s.hlStop n 4 1) s
    (s.modAo fun a => { a with frozen := true }).raise 0x0E08 0

/-- FREEZE_N has been low for 100 ns. -/
def freezeNLow (s : State) : State := (s.modAo fun a => { a with pin := true }).freezeApply
/-- FREEZE_N rises. -/
def freezeNHigh (s : State) : State := (s.modAo fun a => { a with pin := false }).thawIfClear
/-- The freeze latch is set. -/
def State.freezeLatch (s : State) : State := (s.modAo fun a => { a with latch := true }).freezeApply
/-- The freeze latch is cleared. -/
def State.thawLatch (s : State) : State := (s.modAo fun a => { a with latch := false }).thawIfClear

/-! ### SFDP (R315), as JESD216 lays its tables out -/

/-- DWORD k, from 1, of the parameter table with an ID. (PRESUMED, log entry 29) -/
def sfdpTable (t : List Nat) (id : Nat) : Option (List Nat) :=
  let b (i : Nat) : Nat := t.getD i 0
  let heads := (List.range (b 6 + 1)).map fun i => 8 + 8 * i
  (heads.find? fun h => b h + 256 * b (h + 7) == id).map fun h =>
    let p := b (h + 4) + 256 * b (h + 5) + 65536 * b (h + 6)
    (List.range (b (h + 3))).map fun k => beNat ((List.range 4).map fun j => b (p + 4 * k + 3 - j))

/-- The fastest read mode of the tables: format and command. (PRESUMED, log entry 29) -/
def sfdpMode (bfpt xspi a4 : List Nat) : Option (Nat × Nat) :=
  let w (k : Nat) : Nat := bfpt.getD (k - 1) 0
  let four := nbits (w 1) 17 2 = 2
  let use4 (bit : Nat) : Bool := nbits (a4.getD 0 0) bit 1 == 1
  let fmt (al dl dummy : Nat) (b4 : Bool) : Nat :=
    al * 2 ^ 4 + (if b4 then 2 else 1) * 2 ^ 7 + dummy * 2 ^ 9 + dl * 2 ^ 14
  let mode (al dl bit op4 lo : Nat) (src : Nat) : Nat × Nat :=
    let dummy := nbits src lo 5 + nbits src (lo + 5) 3
    if use4 bit then (fmt al dl dummy true, op4) else (fmt al dl dummy four, nbits src (lo + 8) 8)
  if !xspi.isEmpty then
    let cmd := nbits (xspi.getD 0 0) 8 8
    let ext := if nbits (w 18) 29 2 = 1 then 255 - cmd else cmd
    some (3 + 4 + 8 + 3 * 2 ^ 4 + 2 ^ 6 + 2 * 2 ^ 7 + nbits (xspi.getD 3 0) 7 5 * 2 ^ 9 + 3 * 2 ^ 14 + 2 ^ 16 + 2 ^ 17,
      256 * cmd + ext)
  else if nbits (w 17) 8 8 != 0 then some (mode 3 3 21 0xCC 0 (w 17))
  else if nbits (w 17) 24 8 != 0 then some (mode 0 3 20 0x7C 16 (w 17))
  else if nbits (w 1) 21 1 = 1 then some (mode 2 2 5 0xEC 0 (w 3))
  else if nbits (w 1) 22 1 = 1 then some (mode 0 2 4 0x6C 16 (w 3))
  else none

/-- At boot the port is enabled, FRST_N rises (R308), and the SFDP header and tables are read with command 0x5A, 1-1-1, a
three-byte address and 8 dummy clocks, at the reset clock of 12.5 MHz; XIP is set to the fastest mode. The model shows one frame
for all that is read. (DESIGN CHOICE, log entry 28) -/
def State.sfdpRead (s : State) (t : List Nat) : State :=
  let s := s.modFlash fun x => { x with frst := false, frames := [flFrame (2 ^ 7 + 8 * 2 ^ 9) 0x5A 0 false none [] t.length] }
  if (List.range 4).map (fun i => t.getD i 0) != [0x53, 0x46, 0x44, 0x50] then s
  else
    let s := (s.setFld R.spiFlStatSfdp 1).setFld R.spiFlStatSfdpMinor (t.getD 4 0)
    match sfdpTable t 0xFF00 with
    | none => s
    | some bfpt =>
      let d := bfpt.getD 1 0
      let size := if d / 2 ^ 31 = 1 then d % 2 ^ 31 - 3 else Nat.log2 (d + 1) - 3
      let s := s.setFld R.spiFlCfgSize (min 29 (max 16 size))
      match sfdpMode bfpt ((sfdpTable t 0xFF05).getD []) ((sfdpTable t 0xFF84).getD []) with
      | none => s
      | some (f, c) =>
        let s := (s.setFld R.spiFlXipFmt f).setFld R.spiFlXipCmd c
        if nbits f 16 1 = 1 then s.setFld R.spiFlCfgDiv 1 else s

/-! ### Boot -/

/-- The tables of the identity partition come into force (R333, R346). -/
def State.cmpBoot (s : State) : State :=
  (List.range 6).foldl (fun (s : State) (t : Nat) =>
    let o := if t = 0 then 0x100 else if t = 5 then 0x1A0 else 0x120 + 0x20 * (t - 1)
    let s := (List.range 9).foldl (fun (s : State) (i : Nat) =>
      let w := peatWord s.peat ((o + 2 * i) / 4 * 4)
      s.setFld (cmpReg t i) (nbits w (16 * (i % 2)) 16)) s
    (s.cmpLoad t).peatReads ((List.range 5).map fun k => o + 4 * k)) s

/-- The image in a slot runs (R356, R361). -/
def State.runImage (s : State) (k : Nat) (fallback : Bool) : State :=
  let s := s.modAo fun a => { a with up := true, step := .running, stat := 0, ran := true, slot := k, staged := none }
  let s := (s.setFld R.sysIdRev (leNat ((s.peat.otpRead.drop 2).take 2))).setFld R.sysFwVer (s.rd (slotBase k + 4) 4)
  let s := ((s.setFld R.sysBootSlot k).setFlag R.sysBootFallback fallback).setFld R.sysSvnMin s.ao.svnMin
  let s := (s.cmpBoot.setFlag R.spiMgmtStatSellow s.mgmt.deaf).modHost fun h => { h with linkUp := true }
  let s := s.raise 0x0101 0
  if s.ao.pin || s.ao.latch then s.freezeApply else s

/-- R361: boot, with `errD`, `errA`, `errB` read errors of the directory and of the slots, and `sfdp` the SFDP bytes the flash
returns. -/
def boot (errD errA errB : Bool) (sfdp : List Nat) (s : State) : State :=
  if s.ao.step != .boot then s
  else
    let s := s.sfdpRead sfdp
    let fail (s : State) (c : Nat) : State := (s.modAo fun a => { a with holdBoot := c }).failAttempt 4
    if errD then fail s 7
    else
      match s.dirInUse with
      | none => fail s 1
      | some c =>
        let pref := nbits (s.dirWord c 1) 0 1
        let trial := nbits (s.dirWord c 1) 1 1 = 1
        let s := if trial then (s.dirWrite pref false).raise 0x0E0C 0 else s
        let first := if trial then 1 - pref else pref
        let check (k : Nat) : Nat := if (k = 0 && errA) || (k = 1 && errB) then 7 else s.slotCheck k
        if check first = 0 then s.runImage first (first != pref)
        else if check (1 - first) = 0 then s.runImage (1 - first) (1 - first != pref)
        else fail s (check (1 - first))

/-! ### The control pair (R363, R366, R367) -/

/-- The control pair works again: what firmware owes the host and the heads follows. -/
def State.fwBack (s : State) : State := s.fwResumes.attachesGoOn.restartStarts

/-- The new image reports ready: it runs, and the switch completes. -/
def fwSwitchReady (s : State) : State :=
  match s.ao.sw, s.ao.staged with
  | some cmd, some k =>
    let s := (s.dirWrite k false).setFld R.sysStatTrial 0
    let svn := s.rd (slotBase k + 8) 2
    let s := (s.modAo fun a => { a with sw := none, staged := none, slot := k, svnMin := max a.svnMin svn }).fwBack
    let s := ((s.setFld R.sysFwVer (s.rd (slotBase k + 4) 4)).setFld R.sysBootSlot k).setFld R.sysSvnMin s.ao.svnMin
    (s.raise 0x0E0A 0).finishO cmd 0 0 k 0
  | _, _ => s

/-- Without ready in 800 us the pair returns to the old image, and PREF to what it was. -/
def fwSwitchTimeout (s : State) : State :=
  match s.ao.sw with
  | some cmd =>
    let s := (s.dirWrite s.ao.prefWas false).setFld R.sysStatTrial 0
    ((((s.modAo fun a => { a with sw := none }).fwBack).raise 0x0E0B 0).fwCause 2).finishO cmd 1 2 0 0
  | none => s

/-- Did a third mismatch before this one fall within 60 s (R367)? -/
def lsFourth (now : Nat) (old : List Nat) : Bool :=
  match old[2]? with
  | some u => decide (now ≤ u + 60 * unitsPerS)
  | none => false

/-- A compare mismatch at instant t: both cores stop; the fourth within 60 s of the first of four is not absorbed.
(DEDUCED, log entry 27) -/
def lockstepMismatch (t : Nat) (s : State) : State :=
  let s := s.at t
  if s.ao.failed || s.ao.lsStop.isSome then s
  else
    let old := s.ao.lsT.take 3
    let fourth := lsFourth s.now old
    let s := s.modAo fun a => { a with lsStop := some s.now, lsT := (s.now :: old).take 3 }
    if fourth then (s.modAo fun a => { a with failed := true }).raise 0x0E05 0 else (s.faultFound 6 0).faultBit 1

/-- The restarted pair resumes at instant t, when its turn comes (R364). (DEDUCED, log entry 27) -/
def lockstepRestartDone (t : Nat) (s : State) : State :=
  match s.ao.lsStop with
  | some u =>
    if s.ao.failed || !s.faultTurn 6 0 then s
    else
      let s := s.at t
      let us := (s.now - u) / unitsPerUs
      let s := ((s.bump R.faultLsCnt).modAo fun a => { a with lsStop := none }).fwBack
      (s.raise 0x0E04 0 (s.fld R.faultLsCnt) us).handled 6 us
  | none => s

/-! ### The crystal (R368) -/

/-- No crystal edge for 200 ns, from its confirmation on: holdover; the frames that run carry HOLDOVER (R41). -/
def crystalLoss (s : State) : State :=
  if !s.ao.xtal then s.modAo fun a => { a with xtalBack := false }
  else
    let s := s.modAo fun a => { a with xtal := false, xtalBack := false }
    let s := s.holdoverBit
    let s := (List.range 4).foldl (fun (s : State) (h : Nat) => s.modHead h fun x =>
      { x with frames := x.frames.map fun f => if f.rows < s.nRows h then { f with holdover := true } else f }) s
    ((s.raise 0x0E02 0).faultBit 6).handled 7

/-- The crystal has been good for 100 ms: taken back at the next tick edge, or at once while no tick runs. -/
def crystalReturn (s : State) : State :=
  if s.ao.xtal || !(s.ao.up || s.ao.step == .boot) then s
  else if nbits (s.fld R.tickStatus) 0 1 = 1 then s.modAo fun a => { a with xtalBack := true }
  else s.crystalBack

/-! ### FAULT_N (R369) -/

/-- A 10 us sample of the pin; ten alike in a row, with the device driving it or not throughout, pass the 100 us filter.
(DEDUCED, log entry 43) -/
def faultPinSample (high : Bool) (s : State) : State :=
  let now := (high, s.drivesFault)
  let n := if s.ao.pinWas = now then min 10 (s.ao.pinRun + 1) else 1
  let pass := n = 10 && !(s.ao.pinWas == now && s.ao.pinRun == 10)
  let s := s.modAo fun a => { a with pinWas := now, pinRun := n, pinLvl := if n = 10 then high else a.pinLvl }
  if pass && !high && !now.2 then (s.setFld R.faultPinExt 1).raise 0x0E06 0
  else if pass && high && now.2 then (s.setFld R.faultPinStuck 1).raise 0x0E07 0
  else s

/-! ### Always-on words (R378) -/

/-- The record that a prefetch buffer holds at byte offset `o` of its 168 KiB: eight row slots of 21,504 B (R98), 16 bytes a
record; `none` where no record has arrived. -/
def State.heldRec (s : State) (h : Fin 4) (o : Nat) : Option (Nat × Bool) :=
  (tget (fun _ => ({} : Slot)) (s.pipe h).slots (o / 21504)).recs[o % 21504 / 16]?

/-- The register images of the snapshot, in order: BAR0 offset and length, of each block of the freeze domain from its first
register to its last (R371, R383). (DESIGN CHOICE, log entry 41) -/
def snapImages : List (Nat × Nat) :=
  ((List.range 4).map fun h => (0x40000 + 0x10000 * h, 0x160)) ++ [(0x80000, 0x9800), (0xA0000, 0x804)] ++
    ((List.range 4).map fun h => (0xC0000 + 0x10000 * h, 0x100)) ++ [(0x100000, 0x400), (0x110000, 0x900)] ++
    ((List.range 8).map fun m => (0x120000 + 0x10000 * m, 0x100)) ++
    [(0x128000, 0x100), (0x1A0000, 0xA0C), (0x1A4000, 0x2000), (0x1B0000, 0x1000), (0x1C0000, 0x900), (0x1E0100, 0x100),
     (0x1E0800, 0x800)]

/-- Where the images begin: after the directory. -/
def snapFirst : Nat := 0x17A8400

/-- Where the image of entry k begins, or, after the last, the internal state. -/
def snapAt (k : Nat) : Nat := snapFirst + ((snapImages.take k).map (·.2)).sum

/-- Word w of directory entry k (R373): the register images, then the internal state up to the end; unused entries are zero. -/
def snapDir (k w : Nat) : Nat :=
  match snapImages[k]? with
  | some x => [snapAt k, 0, x.1, x.2].getD w 0
  | none => if k = snapImages.length then [snapAt k, 0, 0xFFFFFFFF, 0x1800000 - snapAt k + 2 ^ 24].getD w 0 else 0

/-- The BAR0 offset of a byte that lies so far into the images; none past the last. -/
def snapReg : Nat → List (Nat × Nat) → Option Nat
  | _, [] => none
  | o, x :: rest => if o < x.2 then some (x.1 + o) else snapReg (o - x.2) rest

/-- A byte of the snapshot (R373): the engines' memories, the prefetch buffers, the directory, the register images and the internal
state, which is free, as are the bytes of a buffer that hold no record. Outside a freeze the snapshot reads zero.
(DESIGN CHOICE, log entry 41) -/
def State.snapByte (s : State) (o : Nat) : Nat :=
  if !s.ao.frozen then 0
  else if o < 0xC00000 then (s.byte (localDev (o / 0x10000) (o % 0x10000))).toNat
  else if o < 0xF00000 then
    let e := (o - 0xC00000) / 0x4000
    (s.byte (progDev e 0 + o % 0x4000)).toNat
  else if o < 0x1700000 then
    let m := (o - 0xF00000) / 0x100000
    (s.byte (sharedDev m (o % 0x100000))).toNat
  else if o < 0x17A8000 then
    let b := (o - 0x1700000) % 0x2A000
    match s.heldRec (Fin.ofNat 4 ((o - 0x1700000) / 0x2A000)) b with
    | some x => x.1 / 256 ^ (b % 16) % 256
    | none => Config.freeVal o % 256
  else if o < snapFirst then
    let b := o - 0x17A8000
    snapDir (b / 16) (b / 4 % 4) / 256 ^ (b % 4) % 256
  else
    match snapReg (o - snapFirst) snapImages with
    | some a => (s.reg (a / 4 * 4)).toNat / 256 ^ (a % 4) % 256
    | none => Config.freeVal o % 256

/-- Bytes of the snapshot. -/
def State.snapBytes (s : State) (a n : Nat) : List Nat := (List.range n).map fun i => s.snapByte (a + i)

/-- An always-on word as it reads. -/
def State.aoWord (s : State) (w : Nat) : Nat :=
  let a := s.ao
  match w with
  | 0 => s.statCode + a.tries * 8 + a.pgood * 32 + (if a.xtal then 512 else 0) + (if a.frozen then 1024 else 0) +
      (if a.pinLvl then 2048 else 0)
  | 1 => a.holdGroup + a.holdBoot * 256
  | 3 => a.pgTo + a.settleMs * 256 + a.xtalTo * 65536
  | 4 => a.rstCause
  | 5 => s.poweredNs % 2 ^ 32
  | 6 => a.nsHi
  | 7 => a.snapAddr
  | 8 => 0x1800000
  | _ => if 16 ≤ w && w < 32 then beNat (s.snapBytes (a.snapAddr + 4 * (w - 16)) 4).reverse else 0

/-- A read of AO_POWERED_NS_LO latches the upper half. -/
def aoPoweredNsLoRead (s : State) : State :=
  { s.modAo fun a => { a with nsHi := s.poweredNs / 2 ^ 32 } with reply := [s.poweredNs % 2 ^ 32] }

/-- Word 31 of AO_SNAP_DATA has been sent: the address rises by 64 and wraps at the end. -/
def aoSnapDataRead (s : State) : State :=
  s.modAo fun a => { a with snapAddr := if a.snapAddr + 64 < 0x1800000 then a.snapAddr + 64 else 0 }

/-- A write of an always-on word; false where it is refused. -/
def State.aoWrite (s : State) (w v : Nat) : Bool × State :=
  match w with
  | 2 =>
    match v % 4 with
    | 1 => (true, aoRestart s)
    | 2 => (true, s.freezeLatch)
    | 3 => (true, s.thawLatch)
    | _ => (false, s)
  | 3 =>
    let pg := v % 256
    let st := v / 256 % 256
    let xt := v / 65536 % 256
    if pg = 0 || xt < 5 then (false, s)
    else (true, s.modAo fun a => { a with pgTo := pg, settleMs := st, xtalTo := xt })
  | 7 =>
    let x := v % 2 ^ 25
    if x % 64 != 0 || 0x1800000 ≤ x then (false, s) else (true, s.modAo fun a => { a with snapAddr := x })
  | _ => (false, s)

/-! ### JTAG (R375) -/

/-- An instruction is loaded. (DESIGN CHOICE, log entry 42) -/
def State.jtag (s : State) (ir : Nat) : State := s.modAo fun a => { a with ir }

/-! ### The commands -/

/-- VIO33_RISE (R354). -/
def execVio33Rise (s : State) := ok vio33Rise s
/-- VIO33_POR (R354). -/
def execVio33Por (s : State) := ok vio33Por s
/-- PGOOD_RISE (R354). -/
def execPgoodRise (g : Fin 4) (t : Nat) (s : State) := ok (whenPowered (pgoodRise g t)) s
/-- PEN_SETTLE_ELAPSED (R354). -/
def execPenSettleElapsed (s : State) := ok (whenPowered penSettleElapsed) s
/-- PGOOD_TIMEOUT (R354). -/
def execPgoodTimeout (s : State) := ok (whenPowered pgoodTimeout) s
/-- BACKOFF_ELAPSED (R355). -/
def execBackoffElapsed (s : State) := ok (whenPowered backoffElapsed) s
/-- CRYSTAL_WINDOW (R354). -/
def execCrystalWindow (n : Nat) (s : State) := ok (whenPowered (crystalWindow n)) s
/-- XTAL_TIMEOUT (R354). -/
def execXtalTimeout (s : State) := ok (whenPowered xtalTimeout) s
/-- BOOT (R361). -/
def execBoot (errD errA errB : Bool) (sfdp : List (BitVec 8)) (s : State) :=
  ok (whenPowered (boot errD errA errB (sfdp.map (·.toNat)))) s
/-- RESET_N_LOW (R359). -/
def execResetNLow (t : Nat) (s : State) := ok (resetNLow t) s
/-- RESET_N_RELEASE (R358). -/
def execResetNRelease (t : Nat) (s : State) := ok (resetNRelease t) s
/-- AO_CMD_RESTART (R358). -/
def execAoCmdRestart (s : State) := ok (whenPowered aoRestart) s
/-- AO_CMD_FREEZE (R370). -/
def execAoCmdFreeze (s : State) := ok (whenPowered (·.freezeLatch)) s
/-- AO_CMD_THAW (R370). -/
def execAoCmdThaw (s : State) := ok (whenPowered (·.thawLatch)) s
/-- PGOOD_LOST (R357). -/
def execPgoodLost (mask : BitVec 4) (s : State) := ok (whenUp (pgoodLost mask.toNat)) s
/-- FW_SWITCH_READY (R363). -/
def execFwSwitchReady (s : State) := ok (whenUp fwSwitchReady) s
/-- FW_SWITCH_TIMEOUT (R363). -/
def execFwSwitchTimeout (s : State) := ok (whenUp fwSwitchTimeout) s
/-- LOCKSTEP_MISMATCH (R366). -/
def execLockstepMismatch (t : Nat) (s : State) := ok (whenUp (lockstepMismatch t)) s
/-- LOCKSTEP_RESTART_DONE (R366). -/
def execLockstepRestartDone (t : Nat) (s : State) := ok (whenUp (lockstepRestartDone t)) s
/-- CRYSTAL_LOSS (R368). -/
def execCrystalLoss (s : State) := ok (whenPowered crystalLoss) s
/-- CRYSTAL_RETURN (R368). -/
def execCrystalReturn (s : State) := ok (whenPowered crystalReturn) s
/-- FAULT_PIN_SAMPLE (R369). -/
def execFaultPinSample (high : Bool) (s : State) := ok (whenPowered (whenBalls (faultPinSample high))) s
/-- FREEZE_N_LOW (R370). -/
def execFreezeNLow (s : State) := ok (whenBalls freezeNLow) s
/-- FREEZE_N_HIGH (R370). -/
def execFreezeNHigh (s : State) := ok (whenBalls freezeNHigh) s
/-- SYS_FREEZE_REQ (R370). -/
def execSysFreezeReq (s : State) := ok (whenUp (·.freezeLatch)) s
/-- SYS_FREEZE_THAW (R370). -/
def execSysFreezeThaw (s : State) := ok (whenUp (·.thawLatch)) s
/-- EXTEST (R375): the balls are taken from the device's functions at once. -/
def execExtest (s : State) := ok (whenPowered (·.jtag 0)) s
/-- SAMPLE_PRELOAD (R375). -/
def execSamplePreload (bits : Nat) (s : State) :=
  ok (whenPowered fun s => { (s.jtag 1).modAo fun a => { a with chain := bits } with reply := [bits] }) s
/-- IDCODE (R375). -/
def execIdcode (s : State) := ok (whenPowered fun s => { s.jtag 2 with reply := [0x1514494B] }) s
/-- SNAPSHOT (R374). -/
def execSnapshot (n : Nat) (s : State) :=
  ok (whenPowered fun s => { s.jtag 0x20 with reply := s.snapBytes s.ao.snapAddr n }) s
/-- BYPASS (R375). -/
def execBypass (s : State) := ok (whenPowered (·.jtag 0xFF)) s
/-- TEST_LOGIC_RESET (R375). -/
def execTestLogicReset (s : State) := ok (whenPowered (·.jtag 2)) s
/-- AO_SNAP_DATA_READ (R378). -/
def execAoSnapDataRead (s : State) := ok (whenPowered aoSnapDataRead) s
/-- AO_POWERED_NS_LO_READ (R378). -/
def execAoPoweredNsLoRead (s : State) := ok (whenPowered aoPoweredNsLoRead) s

end Sys2Proof.Machine
end

