-- ==== Sys2Proof/Machine/RegWrite.lean ====
section
/-!
DEFINITION. Reads and writes of the BAR0 registers by any path (R381): the access codes (R2, R3), refusals (R4 to R6, R371,
R384), 64-bit bases (R404), and what each write sets off.
-/
namespace Sys2Proof.Machine

/-! ### Reads -/

/-- The word a register shows, before its write-only fields are masked: most are held, some are made of other state. -/
def State.regShown (s : State) (o : Nat) : Nat :=
  let v := (s.reg o).toNat
  if o = 0x4 then s.statCode + (if s.ao.frozen then 8 else 0) + s.fld R.sysStatTrial * 16
  else if o = 0x14 then (if s.ao.latch then 1 else 0)
  else if o = 0x18 then s.ao.pgood % 16 + s.fld R.sysPgoodLost * 16
  else if o = 0x20008 then
    (if s.drivesFault then 1 else 0) + (if s.ao.pinLvl then 2 else 0) + s.fld R.faultPinExt * 4 + s.fld R.faultPinStuck * 8
  else if o = 0x10020 then s.poweredNs % 2 ^ 32
  else if o = 0x1D0854 then s.mbxStat
  else if o = 0x1E082C then v - v % 2 + (if s.flBusy then 1 else 0)
  else if 0x1D0858 ≤ o && o ≤ 0x1D0864 then s.mbxEvt ((o - 0x1D0858) / 4)
  else v

/-- The bits of a register that read zero: those of its write-only fields (R2). -/
def woMask (rows : List RegRow) : Nat := (rows.filter (·.acc == .wo)).foldl (fun m r => m ||| (2 ^ r.len - 1) * 2 ^ r.lo) 0

/-- Is a read of this offset refused under R6: not aligned, or outside every block? -/
def badRead (o : Nat) : Bool := o % 4 != 0 || ((locate o).isNone && !(0x100400 ≤ o && o < 0x110000))

/-- A read of a register: its value, whether it is refused (R6, R384), and the state after what the read sets off (R35, R289,
R352). An unassigned offset of a block reads zero. -/
def State.readReg (s : State) (o : Nat) : Nat × Bool × State :=
  if o % 4 != 0 then (0, true, s.refuse o)
  else
    match locate o with
    | none => if badRead o then (0, true, s.refuse o) else (0, false, s)
    | some l =>
      let m := woMask (rowsAt (blkRows l.blk) (o - l.base))
      let v := s.regShown o
      let v := v - (v &&& m)
      if o = 0x10020 then (v, false, { poweredNsLoRead s with reply := s.reply })
      else if o = 0x1D0850 then (v, false, { hostMbxCpl3Read s with reply := s.reply })
      else if o = 0x1D0864 then (v, false, { hostMbxEvt3Read s with reply := s.reply })
      else if o = 0x20002C then
        let t := peatDataAccess false 0 s
        (t.reply.headD 0, s.peatClosed false, { t with reply := s.reply })
      else (v, false, s)

/-! ### Writes of fields -/

/-- Does a block stand still while the device is frozen (R371)? -/
def Blk.freezes : Blk → Bool
  | .sys | .tick | .fault | .host | .mgmt | .therm | .peat => false
  | _ => true

/-- The enable of R5 for a register (R383). (DEDUCED, log entry 44) -/
def State.enabled (s : State) (l : Loc) (rel : Nat) : Bool :=
  match l.blk with
  | .tick => (List.range 4).any fun h => s.flag (R.headCtlClk h)
  | .head | .group => s.flag (R.headCtlClk l.inst)
  | .slice => s.flag (R.headCtlClk (l.inst / 38))
  | .corr => s.hState l.inst == 4 || s.hState l.inst == 5
  | .cal => s.calRuns l.inst || s.flag (R.calStatusLock l.inst)
  | .actCh => s.flag (R.actChCtlEn l.inst)
  | .mire => s.flag (R.engMireCtlEn l.inst)
  | .eng => s.flag R.engCtlEn
  | .vidHead => s.flag (R.vidHeadCtlEn l.inst)
  | .vid => s.flag R.vidCtlEn
  -- firmware sets the RW fields in boot (R241)
  | .mem => s.ao.step != .boot
  | .dmaCh => s.flag (R.dmaChCfgEn l.inst)
  | .dma => s.flag R.dmaCtlEn
  | .host => if rel < 0x400 then s.ringEn (rel / 0x20) else s.flag R.hostCtlEn
  | .hl => s.flag (R.spiHlCfgEn l.inst)
  | .fl => s.flag R.spiFlCfgEn
  | _ => false

/-- The fields that enable a function, which R5 exempts. VID_CTL.EN enables the receiver and the transmitter also: their own EN
are RW fields like others. -/
def exempt (b : Blk) (rel lo : Nat) : Bool :=
  lo == 0 && match b with
  | .tick | .head | .actCh | .mire | .eng | .vidHead | .dmaCh | .hl => rel == 0
  | .vid => rel == 0x800
  | .dma | .fl => rel == 0x800
  | .host => rel == 0x400 || (rel < 0x400 && rel % 0x20 == 8)
  | _ => false

/-- R4 and R5 for one field: a changed RW field of an enabled function, or a value out of its range.
(DEDUCED, log entry 44) -/
def State.rowRefused (s : State) (l : Loc) (rel w : Nat) (r : RegRow) : Bool :=
  let v := nbits w r.lo r.len
  let out := v < r.min || r.max < v
  match r.acc with
  | .rw => v != s.fld ⟨l.base + rel, r.lo, r.len⟩ && ((s.enabled l rel && !exempt l.blk rel r.lo) || out)
  | .rwl | .wo => out
  | _ => false

/-- Is a register word refused under R4 or R5? -/
def State.wordRefused (s : State) (l : Loc) (rel w : Nat) : Bool :=
  (rowsAt (blkRows l.blk) rel).any fun r => s.rowRefused l rel w r

/-- Set one field as its access code says (R2). -/
def State.setRow (s : State) (o w : Nat) (r : RegRow) : State :=
  let f : Fld := ⟨o, r.lo, r.len⟩
  let v := nbits w r.lo r.len
  match r.acc with
  | .rw | .rwl => s.setFld f v
  | .w1c => s.setFld f (s.fld f - (s.fld f &&& v))
  | .w1s => s.setFld f (s.fld f ||| v)
  | _ => s

/-- Set every field of a register word. -/
def State.setRows (s : State) (l : Loc) (rel w : Nat) : State :=
  (rowsAt (blkRows l.blk) rel).foldl (fun (s : State) (r : RegRow) => s.setRow (l.base + rel) w r) s

/-- An ordinary register write: refused under R4, R5 or a check on the registers as they would stand, else the fields are
set and the write's own effect follows (given the state before). -/
def State.fieldWrite (s : State) (l : Loc) (rel w : Nat) (good : State → Bool := fun _ => true)
    (act : State → State → State := fun _ t => t) : State :=
  if s.wordRefused l rel w then s.refuse (l.base + rel)
  else
    let t := s.setRows l rel w
    if good t then act s t else s.refuse (l.base + rel)

/-! ### 64-bit bases (R404) -/

/-- The offsets, in a block instance, of the LO halves of its 64-bit bases. -/
def baseLoAt (b : Blk) (rel : Nat) : Bool :=
  match b with
  | .corr => (0x10 ≤ rel && rel < 0x40 && rel % 8 == 0) || [0x40, 0x48, 0x60, 0x68].contains rel
  | .cal => [0x30, 0x38, 0x40].contains rel
  | .mire => rel == 4
  | .eng => rel == 4 || rel == 0x24
  | .vidHead => [0x1C, 0x28, 0x30, 0x38].contains rel
  | .vid => rel == 0x944
  | .dmaCh => rel == 4
  | .host => rel < 0x400 && rel % 0x20 == 0
  | .hl => rel == 4 || rel == 0x10
  | _ => false

/-- The LO half a HI half belongs to. -/
def baseHiAt (b : Blk) (rel : Nat) : Bool := 4 ≤ rel && baseLoAt b (rel - 4)

/-- Is a base allowed (R94, R95, R111, R128, R133, R172, R208, R209, R211, R214, R270, R303)? (DEDUCED, log entry 44) -/
def State.baseOk (s : State) (l : Loc) (lo v : Nat) : Bool :=
  let h := l.inst
  match l.blk with
  | .corr =>
    if lo < 0x38 then v % 4096 == 0 && inDram v (s.fld (R.corrFmtNbuf h) * s.fmtSize h ((lo - 0x10) / 8))
    else if lo = 0x38 then v % 4096 == 0 && inDram v (s.fld (R.corrFmtNbuf h) * 4096)
    else if (s.pipe h).active == some ((lo - 0x40) / 0x20) then false
    else if lo % 0x20 = 0 then v % 256 == 0 && inDram v (16 * s.nCols h * s.nRows h)
    else v % 4096 == 0 && inDram v 0x8800
  | .cal =>
    if lo = 0x30 then v % 4096 == 0 && inDram v (s.nCols h * s.nRows h * 4)
    else if lo = 0x38 then v % 4096 == 0 && inDram v 16384
    else true
  | .eng => lo != 4 || v % 64 == 0
  | .vidHead =>
    if lo = 0x28 then v % 8 == 0 && inDram v (8 * s.fld (R.vidL4Cnt h))
    else if lo = 0x30 then v % 4096 == 0 && inDram v (2 * (ceilDiv (s.actW h * s.actH h * 4) 4096 * 4096))
    else v % 4096 == 0 && inDram v (s.fld (R.corrFmtNbuf h) * (ceilDiv (s.actW h * s.actH h * 2) 4096 * 4096))
  | .vid =>
    let k := s.fld R.vidRxFusHead
    v % 4096 == 0 && inDram v (3 * (s.actW k * s.actH k))
  | .host => s.ringOk (lo / 0x20) v
  | .hl => v % 32 == 0
  | _ => true

/-- A write of the HI half of a base: it completes the new base, which takes effect or is refused; then both halves return to
the base in effect. A HI half that stays as it is while the function is enabled still commits the LO half written before.
(DESIGN CHOICE, log entry 70) -/
def State.hiWrite (s : State) (l : Loc) (rel w : Nat) (fw : Bool) : State :=
  let lo : Fld := ⟨l.base + rel - 4, 0, 32⟩
  let hi : Fld := ⟨l.base + rel, 0, 32⟩
  match l.blk with
  | .dmaCh => dmaHeadWrite l.inst w fw s
  | _ =>
    if l.blk = .vidHead && rel = 0x20 then l3HiWrite l.inst w s
    else if s.wordRefused l rel w || !s.baseOk l (rel - 4) (s.fld lo + 2 ^ 32 * w) then
      (s.setBase lo hi (s.base lo hi)).refuse (l.base + rel) (if l.blk = .host && !s.wordRefused l rel w then 3 else 0)
    else s.setBase lo hi (s.fld lo + 2 ^ 32 * w)

/-- A write of the LO half: the register alone; the base in effect stays. -/
def State.loWrite (s : State) (l : Loc) (rel w : Nat) (fw : Bool) : State :=
  let ok : Bool :=
    match l.blk with
    | .corr => rel < 0x40 || (s.pipe l.inst).active != some ((rel - 0x40) / 0x20)
    | .dmaCh => (fw || !s.chOwned l.inst) && (s.chState l.inst == 0 || s.chState l.inst == 3)
    | _ => true
  s.fieldWrite l rel w fun _ => ok

/-! ### Registers with checks or effects of their own, block by block -/

/-- SYS: the freeze latch (R370). -/
def State.sysWrite (s : State) (l : Loc) (rel w : Nat) : State :=
  if rel = 0x14 then
    let s := if nbits w 0 1 = 1 then s.freezeLatch else s
    if nbits w 1 1 = 1 then s.thawLatch else s
  else s.fieldWrite l rel w

/-- TICK: the enable (R42, R38), the period with the guard in force (R22, R32), the guard, the window (R28); a word that
changes nothing is no write (R5). While the generator is off a change takes effect at once. -/
def State.tickWrite (s : State) (l : Loc) (rel w : Nat) : State :=
  let any := (List.range 4).any fun h => s.hState h == 4
  let good (t : State) : Bool :=
    if rel = 0 then !(any && s.flag R.tickCtlEn && !t.flag R.tickCtlEn)
    else if t.reg (l.base + rel) = s.reg (l.base + rel) then true
    else if rel = 4 || rel = 8 then periodOk t.periodReg s.tick.guard
    else if rel = 0xC then periodOk s.periodReg (t.fld R.tickGuardUs)
    else true
  let act (s t : State) : State :=
    if rel = 0 && s.flag R.tickCtlEn != t.flag R.tickCtlEn then
      (if t.flag R.tickCtlEn then tickEnable (t.setFld R.tickCtlEn 0) else t.tickStop)
    else if nbits (s.fld R.tickStatus) 0 1 = 0 && !s.tick.armed && !t.flag R.tickCtlEn then t.takeSettings
    else t
  s.fieldWrite l rel w good act

/-- HEAD: CLK (R55, R406), RUN (R62, R63), PWR (R61), the phase below the divider, the bias codes (R47). A word that leaves
RUN as it is requests nothing. PWR written 0 acts on a powering head alone, at once and without a ramp; an attach in progress
stays open. (DESIGN CHOICE, log entry 79) -/
def State.headWrite (s : State) (l : Loc) (rel w : Nat) : State :=
  let h := l.inst
  if 0x100 ≤ rel && rel < 0x120 then headBiasWrite h ((rel - 0x100) / 4) (w % 2 ^ 16) s
  else
    let good (t : State) : Bool :=
      if rel = 0 then s.flag (R.headCtlClk h) || !t.flag (R.headCtlClk h) || (s.head h).hpen
      else rel != 0x10 || t.fld (R.headCadPhase h) < t.fld (R.headCadDiv h)
    let act (s t : State) : State :=
      if rel = 0 then
        let clk := t.flag (R.headCtlClk h)
        let run := t.flag (R.headCtlRun h)
        let t := if s.flag (R.headCtlPwr h) = t.flag (R.headCtlPwr h) then t
          else if t.flag (R.headCtlPwr h) then (if s.hState h = 1 then (t.attachGold h).powerUp h else t)
          else if s.hState h = 2 then (t.dropPower h).setHState h 1 else t
        let t := if s.flag (R.headCtlRun h) = run then t
          else if run then t.startReq h none else t.detachReq h none
        if s.flag (R.headCtlClk h) = clk then t
        else if clk then headClkStart h (t.setFld (R.headCtlClk h) 0)
        else headClkStop h (t.setFld (R.headCtlClk h) 1)
      else if rel = 0x140 then
        -- a new HEAD_BIAS_SLEW acts on what is left of the ramps under way (R47)
        if s.fld (R.headBiasSlew h) = t.fld (R.headBiasSlew h) then t
        else t.setHead h { t.head h with biases := ((s.rebase h).head h).biases }
      else (t.showShort h).showLoads
    s.fieldWrite l rel w good act

/-- AFE slices: the input (R72), the phase while no training runs, the trims while BGCAL_EN is 0 (R90). -/
def State.sliceWrite (s : State) (l : Loc) (rel w : Nat) : State :=
  let i := l.inst
  let g := i / 38
  let good (t : State) : Bool :=
    if rel = 0 then
      let inp := t.fld (R.afeSliceCtlInput i)
      let kept := inp == s.fld (R.afeSliceCtlInput i)
      let taken := (List.range 38).any fun k => 38 * g + k != i && s.fld (R.afeSliceCtlInput (38 * g + k)) == inp
      (inp < 36 || inp == 63) && (kept || inp == 63 || !taken)
    else if rel = 4 then !(s.slice i).train
    else if rel = 8 || rel = 0xC then !s.flag (R.afeSliceCtlBgcalEn i)
    else true
  s.fieldWrite l rel w good fun s t =>
    if rel = 0 then (if t.fld (R.afeSliceCtlRole i) = 2 then t.dropHolds i else t).showAfeSpares g
    -- a gain trim that changes during a weight accumulation restarts it (R77)
    else if rel = 8 && s.fld (R.afeSliceTrimGtrim i) != t.fld (R.afeSliceTrimGtrim i) then
      t.modSlice i fun x => if x.meas = 2 then x.restart else x
    else t

/-- AFE groups: the gain codes (R69) and the commands (R92). -/
def State.groupWrite (s : State) (l : Loc) (rel w : Nat) : State :=
  let g := l.inst
  if rel = 0x20 then
    let k := nbits w 8 6
    match w % 4 with
    | 1 => s.afeTrain g none
    | 2 => s.afeSwap g k none
    | 3 => s.afeRequalify g k none
    | _ => s.refuse (l.base + rel)
  else s.fieldWrite l rel w fun t => decide (t.fld (R.afeGrpCtlGain g) ≤ 4)

/-- CORR: INV_EPS (R112), the pair (R113), the registers of the active bank (R94), GEN (R120). -/
def State.corrWrite (s : State) (l : Loc) (rel w : Nat) : State :=
  let h := l.inst
  if rel = 0x88 then corrLoffWrite h w s
  else if rel = 0x50 || rel = 0x70 then corrBankGenWrite h ((rel - 0x50) / 0x20) (w % 2 ^ 16) s
  else s.fieldWrite l rel w fun t =>
    if rel = 0x8C then 0x10000 ≤ t.fld (R.corrInvEps h) && t.fld (R.corrInvEps h) ≤ 0x640000
    else if rel = 0x54 || rel = 0x74 then (s.pipe h).active != some ((rel - 0x54) / 0x20)
    else true

/-- CAL: the commands (R139). -/
def State.calWrite (s : State) (l : Loc) (rel w : Nat) : State :=
  let h := l.inst
  if rel = 0x50 then
    let b := nbits w 8 1
    match w % 8 with
    | 1 => s.calRequest h 3 none
    | 2 => (s.calAbort h).1
    | 3 => s.loadOpen h b
    | 4 => s.loadClose h b
    | 5 => s.requestActivation h b (nbits w 16 16) none
    | _ => s.refuse (l.base + rel)
  else s.fieldWrite l rel w

/-- EN of an actuator channel changes: written 0 while a profile runs or waits, it stops it. -/
def State.actEnable (s : State) (c : Nat) (on : Bool) : State :=
  if on then (if s.actState c = 0 then s.setActState c 1 else s)
  else
    let s := if 2 ≤ s.actState c && s.actState c ≤ 4 then (s.actStop c).1 else s
    if s.actState c = 1 then s.setActState c 0 else s

/-- ACT channels: slot lengths, phase words (R143), commands (R147, R154, R157), EN, POS_EN (R155). -/
def State.actChWrite (s : State) (l : Loc) (rel w : Nat) : State :=
  let c := l.inst
  if 0x80 ≤ rel then actPhaseWrite c ((rel - 0x80) / 0x20) (rel % 0x20 / 4) (w % 2 ^ 30) s
  else if rel = 0x34 then
    match w % 4 with
    | 1 => s.actHostStart c (nbits w 4 2) (nbits w 8 1 == 1) none
    | 2 => (s.actStop c).1
    | 3 => (s.actClear c).1
    | _ => s.refuse (l.base + rel)
  else
    let good (t : State) : Bool := rel != 0x14 || (List.range 4).all fun k => t.slotLen c k ≤ 8
    let act (s t : State) : State :=
      if rel = 0 then
        -- the filter starts anew with POS_EN; POS follows POS_EN and POS_POL (R155)
        let t := if t.flag (R.actChCtlPosEn c) then t
          else t.modAct c fun x => { x with posRun := 0, posLvl := false, posHigh := false }
        let t := t.showPos c
        if s.flag (R.actChCtlEn c) = t.flag (R.actChCtlEn c) then t else t.actEnable c (t.flag (R.actChCtlEn c))
      else t
    s.fieldWrite l rel w good act

/-- ENG mires: EN, with which capacity returns (R182, R190), SPARES, the commands (R183, R184). -/
def State.mireWrite (s : State) (l : Loc) (rel w : Nat) : State :=
  let m := l.inst
  if rel = 0x14 then
    match w % 4 with
    | 1 => s.reloadReq m (s.base (R.engMireImgLo m) (R.engMireImgHi m)) none
    | 2 => s.engRequalify m (nbits w 8 5) none
    | _ => s.refuse (l.base + rel)
  else s.fieldWrite l rel w (act := fun s t =>
    if rel = 0 then
      let t := if s.fld (R.engMireCtlSpares m) = t.fld (R.engMireCtlSpares m) then t
        else t.modMire m fun x => { x with newSpares := true }
      if s.flag (R.engMireCtlEn m) == t.flag (R.engMireCtlEn m) then t
      else
        let t := t.setFld (R.engMireStatState m) (t.mireState m)
        if t.flag (R.engMireCtlEn m) then t.modArr fun a => { a with regain := true } else t
    else t)

/-- ENG array: declaration (R173), broadcast (R186). -/
def State.engWriteReg (s : State) (l : Loc) (rel w : Nat) : State :=
  if rel = 0xC then s.taskDeclare (w % 128)
  else if rel = 0x34 then
    s.bcastReq (s.base R.engBcastSrcLo R.engBcastSrcHi) (s.fld R.engBcastOff) (s.fld R.engBcastLen) (w % 256) none
  else s.fieldWrite l rel w (fun t => rel != 0x2C || t.fld R.engBcastOff % 16 == 0) fun s t =>
    -- capacity returns with the array's enable (R182)
    if rel = 0 && !s.flag R.engCtlEn && t.flag R.engCtlEn then t.modArr fun a => { a with regain := true } else t

/-- VID heads: the control word (R193, R198, R213), tone (R199, R200). -/
def State.vidHeadWrite (s : State) (l : Loc) (rel w : Nat) : State :=
  let h := l.inst
  if rel = 0 then vidHeadCtlWrite h (w % 64) s
  else s.fieldWrite l rel w fun t =>
    if rel = 4 then t.fld (R.vidToneMode h) == 0 || (t.fld (R.vidToneMode h) != 3 && t.fld (R.vidHeadCtlInput h) == 0)
    else if rel = 8 then t.fld (R.vidToneWin h) % 65536 < t.fld (R.vidToneWin h) / 65536
    else if rel = 0xC then t.fld (R.vidTonePct h) % 1024 < t.fld (R.vidTonePct h) / 65536
    else if rel = 0x10 then 1 ≤ t.fld (R.vidToneLim h) / 65536
    else true

/-- The size of visible frames (R202). -/
def rxSizeOk (v : Nat) : Bool :=
  let w := v % 8192
  let h := nbits v 16 13
  64 ≤ w && w ≤ 4096 && w % 2 == 0 && 64 ≤ h && h ≤ 3072 && h % 2 == 0

/-- VID_RX_CTL: patterns 0 to 4 and the phases they have (R204). -/
def rxCtlOk (pattern ph : Nat) : Bool := pattern ≤ 4 && (pattern == 4 || ph ≤ 3)

/-- VID global: the in-line head (R196), the receiver (R202, R204), the transmitter (R213). -/
def State.vidWrite (s : State) (l : Loc) (rel w : Nat) : State :=
  let good (t : State) : Bool :=
    if rel = 0x900 then rxCtlOk (t.fld R.vidRxCtlPattern) (t.fld R.vidRxCtlPh)
    else if rel = 0x904 then rxSizeOk (t.fld R.vidRxSize)
    -- an unchanged word is no write (R5), and a transmitter switched off carries no load (R213)
    else if rel = 0xA00 || rel = 0xA04 then
      t.txLoadOk || t.reg (l.base + rel) == s.reg (l.base + rel) || (rel = 0xA00 && s.flag R.vidTxCtlEn && !t.flag R.vidTxCtlEn)
    else true
  let act (s t : State) : State :=
    if rel = 0x800 then
      let h := t.fld R.vidCtlInline
      let en := t.flag R.vidCtlInlineEn
      let asks := s.inlineAsks h en
      let t := if s.flag R.vidCtlEn && !t.flag R.vidCtlEn then t.vidStop else t
      if asks then t.inlineReq h en none else t
    else if rel = 0xA00 || rel = 0xA04 then t.showTxLoad
    else t
  s.fieldWrite l rel w good act

/-- MEM: tickets (R232), inheritance (R234), requester resets (R235), regions (R239, R242). -/
def State.memWrite (s : State) (l : Loc) (rel w : Nat) : State :=
  if rel = 8 then etktWrite (w % 16) s
  else if rel = 4 && s.ao.step == .boot then seedWrite w s
  else if rel = 0xC then requesterReset (w % 65536) s
  else if 0x200 ≤ rel && rel < 0x400 && rel % 16 = 0xC then memRgnKindWrite ((rel - 0x200) / 16) (w % 4) s
  else s.fieldWrite l rel w (act := fun s t =>
    if rel = 0 then (if s.flag R.memCtlInherit = t.flag R.memCtlInherit then t else inheritWrite (t.flag R.memCtlInherit) t)
    else if 0x10 ≤ rel && rel < 0x50 then ticketWrite ((rel - 0x10) / 4) (w % 256) t
    else t)

/-- DMA channels: a channel owned by firmware refuses the host (R263). -/
def State.dmaChWrite (s : State) (l : Loc) (rel w : Nat) (fw : Bool) : State :=
  let c := l.inst
  if !fw && s.chOwned c then s.refuse (l.base + rel)
  else if rel = 0xC then dmaDoorbell c fw s
  else if rel = 0x10 then (if w % 4 = 1 then (s.dmaAbort c fw).2 else s.refuse (l.base + rel))
  else s.fieldWrite l rel w

/-- DMA global: the owners of channels that are not idle stay (R264). -/
def State.dmaWrite (s : State) (l : Loc) (rel w : Nat) : State :=
  if rel = 0x80C then (if w % 2 = 1 then dmaHaltClr s else s)
  else s.fieldWrite l rel w fun t =>
    rel != 0x808 || (List.range 16).all fun c => s.chOwned c == t.chOwned c || s.chState c == 0

/-- HOST: ring enables (R270), the mailbox (R289). -/
def State.hostWriteReg (s : State) (l : Loc) (rel w : Nat) : State :=
  if rel = 0x840 then (if w % 2 = 1 then hostMbxGo s else s)
  else if rel < 0x400 && rel % 0x20 = 8 then
    let k := rel / 0x20
    if s.wordRefused l rel w then s.refuse (l.base + rel)
    else
      let t := s.setRows l rel w
      if t.ringEn k && !s.ringEn k && !t.ringOk k (t.ringBase k) then s.refuse (l.base + rel) 3
      else if t.ringEn k = s.ringEn k then t
      else if t.ringEn k then ringEnable k (t.setFld ⟨ringOff k 8, 0, 1⟩ 0) else t.ringDisable k
  else s.fieldWrite l rel w

/-- SPI head links: a queue is started (R305). -/
def State.hlWrite (s : State) (l : Loc) (rel w : Nat) : State :=
  if rel = 0x1C then spiHlQgo l.inst (w % 4) s else s.fieldWrite l rel w

/-- SPI flash: formats (R309, R313), direct frames (R310), the poll time (R319); a change of the XIP registers leaves
continuous-read mode (R313). -/
def State.flWrite (s : State) (l : Loc) (rel w : Nat) : State :=
  if rel = 0x820 then flashGo (w % 4) [] none s
  else if s.wordRefused l rel w then s.refuse (l.base + rel)
  else
    let t := s.setRows l rel w
    let fmt := t.fld R.spiFlXipFmt
    if (rel = 0x804 && !flFmtOk fmt) ||
        ((rel = 0x804 || rel = 0x80C) && nbits (t.fld R.spiFlXipMode) 16 1 = 1 && !flModeFits fmt) then
      s.refuse (l.base + rel) 1
    else if rel = 0x828 && w / 2 ^ 20 = 0 then s.refuse (l.base + rel)
    else if (rel = 0x804 || rel = 0x808 || rel = 0x80C) && s.reg (l.base + rel) != t.reg (l.base + rel) then
      s.xipExit.setRows l rel w
    else if rel = 0x800 && s.flag R.spiFlCfgXipEn && !t.flag R.spiFlCfgXipEn then s.xipExit.setRows l rel w
    else t

/-- A limit of R335: -55 to 145 degrees C, in 1/16. -/
def thermLimOk (v : Nat) : Bool := -880 ≤ sext 13 v && sext 13 v ≤ 2320

/-- THERM: limits, the host's cap (R326), the GO of the compensation tables (R333). -/
def State.thermWrite (s : State) (l : Loc) (rel w : Nat) : State :=
  if rel = 0x1C then (s.capHostWrite (w % 2 ^ 14)).2
  else if rel = 0x280 then thermCmpGo (w % 64) s
  else s.fieldWrite l rel w fun t =>
    if rel = 4 then thermLimOk (t.fld R.thermWarn) else if rel = 8 then thermLimOk (t.fld R.thermThrot) else true

/-- PEAT: the autostore, the address, the data window (R352), the keys and the commands (R344, R345). -/
def State.peatWrite (s : State) (l : Loc) (rel w : Nat) (fw : Bool) : State :=
  if rel = 0x2C then { peatDataAccess true (BitVec.ofNat 32 w) s fw with reply := s.reply }
  else if 0x18 ≤ rel && rel < 0x28 then s.setReg (l.base + rel) (BitVec.ofNat 32 w)
  else if rel = 0x14 then
    let p := nbits w 3 2
    let k := nbits w 5 1
    match w % 8 with
    | 1 => peatCmdStore s
    | 2 => peatCmdSetPassword p k s
    | 3 => peatCmdClearLog s
    | 4 => peatCmdUnlock p k s
    | 5 => peatCmdLock p k s
    | _ => s.refuse (l.base + rel) 7
  else s.fieldWrite l rel w fun t =>
    if rel = 8 then t.fld R.peatAuto == 0 || 10 ≤ t.fld R.peatAuto else rel != 0x28 || t.fld R.peatAddr % 4 == 0

/-- The action of a write of an assigned register. -/
def State.regAct (s : State) (l : Loc) (rel w : Nat) (fw : Bool) : State :=
  if baseHiAt l.blk rel then s.hiWrite l rel w fw
  else if baseLoAt l.blk rel then s.loWrite l rel w fw
  else
    match l.blk with
    | .sys => s.sysWrite l rel w
    | .tick => s.tickWrite l rel w
    | .fault | .afeGlob | .act | .mgmt => s.fieldWrite l rel w
    | .head => s.headWrite l rel w
    | .slice => s.sliceWrite l rel w
    | .group => s.groupWrite l rel w
    | .corr => s.corrWrite l rel w
    | .cal => s.calWrite l rel w
    | .actCh => s.actChWrite l rel w
    | .mire => s.mireWrite l rel w
    | .eng => s.engWriteReg l rel w
    | .vidHead => s.vidHeadWrite l rel w
    | .vid => s.vidWrite l rel w
    | .palette => paletteWrite l.inst (rel / 4) w s
    | .mem => s.memWrite l rel w
    | .dmaCh => s.dmaChWrite l rel w fw
    | .dma => s.dmaWrite l rel w
    | .host => s.hostWriteReg l rel w
    | .hl => s.hlWrite l rel w
    | .fl => s.flWrite l rel w
    | .therm => s.thermWrite l rel w
    | .peat => s.peatWrite l rel w fw

/-- The error register that serves an offset, and where its CAUSE lies (R384). -/
def errOf (o : Nat) : Fld × Nat × Nat :=
  match locate o with
  | none => (R.sysErr, 16, 8)
  | some l =>
    match l.blk with
    | .sys => (R.sysErr, 16, 8)
    | .tick => (R.tickErr, 0, 0)
    | .fault => (R.faultErr, 0, 0)
    | .head => (R.headErr l.inst, 16, 8)
    | .slice | .group | .afeGlob => (R.afeErr, 20, 8)
    | .corr => (R.corrErr l.inst, 0, 0)
    | .cal => (R.calErr l.inst, 16, 8)
    | .actCh | .act => (R.actErr, 20, 4)
    | .mire => (R.engMireErr l.inst, 0, 0)
    | .eng => (R.engErr, 16, 8)
    | .vidHead | .vid | .palette => (R.vidErr, 0, 0)
    | .mem => (R.memErr, 16, 8)
    | .dmaCh | .dma => (R.dmaErr, 0, 0)
    | .host => (R.hostErr, 16, 8)
    | .mgmt | .hl | .fl => (R.spiErr, 20, 4)
    | .therm => (R.thermErr, 16, 8)
    | .peat => (R.peatErr, 16, 8)

/-- Is an access to this offset refused under R6 whatever its value: not aligned, outside every block, or a write of an
unassigned offset? -/
def badAccess (o : Nat) : Bool :=
  o % 4 != 0 || match locate o with
  | none => true
  | some l => (rowsAt (blkRows l.blk) (o - l.base)).isEmpty

/-- A write of a register word: the cause when it is refused, none when it is accepted. `fw`: by Wisoa firmware. A HI write that
a frozen block refuses leaves its LO half as written; an error register is cleared whole by bit 31, and a 1 in its other bits
does nothing (R2). (DESIGN CHOICE, log entries 70, 87) -/
def State.writeReg (s : State) (o w : Nat) (fw : Bool := false) : Option Nat × State :=
  match locate o with
  | none => (some 0, s.refuse o)
  | some l =>
    if badAccess o then (some 0, s.refuse o)
    else if s.ao.frozen && l.blk.freezes then (some 1, s.latch R.sysErr 12 o (2 ^ 16))
    else
      let rel := o - l.base
      if (rowsAt (blkRows l.blk) rel).any (·.acc == .err) then (none, if nbits w 31 1 = 1 then s.setReg o 0 else s)
      else
        let e := errOf o
        let t := (s.setReg e.1.off 0).regAct l rel w fw
        let v := (t.reg e.1.off).toNat
        if nbits v 31 1 = 1 then (some (nbits v e.2.1 e.2.2), t) else (none, t.setReg e.1.off (s.reg e.1.off))

/-- A register write that is not an aligned word is refused under R6. -/
def registerWrite (o w : Nat) (word fw : Bool) (s : State) : State :=
  if word then (s.writeReg o w fw).2 else s.refuse o

/-- A write of the HI half of a 64-bit base; an offset that is none is no such write. -/
def baseHiWrite (o w : Nat) (fw : Bool) (s : State) : State :=
  match locate o with
  | none => s
  | some l => if baseHiAt l.blk (o - l.base) then (s.writeReg o w fw).2 else s

/-- A write while the core is up, or by firmware in boot to a MEM register, whose function runs from boot onward (R241). -/
def whenWritable (o : Nat) (fw : Bool) (f : State → State) (s : State) : State :=
  if s.ao.up || (fw && s.ao.step == .boot && (locate o).any (·.blk == .mem)) then f s else s

/-- REGISTER_WRITE (R5). -/
def execRegisterWrite (o : BitVec 24) (w : BitVec 32) (word fw : Bool) (s : State) :=
  ok (whenWritable o.toNat fw (registerWrite o.toNat w.toNat word fw)) s
/-- R266, R381: an access of the host to BAR0 offset o. A read of an aligned word answers the register; another access, refused
under R6, is latched and reads zero. -/
def bar0Access (wr : Bool) (o n : Nat) (data : List Byte) (s : State) : State :=
  if wr then registerWrite o (leNat data) (n == 4) false s
  else if n = 4 then
    let r := s.readReg o
    { r.2.2 with reply := (leBytes 4 r.1).map (·.toNat) }
  else { s.refuse o with reply := List.replicate n 0 }

/-- An access of the host: 0 BAR4, 1 BAR2, 2 configuration space, 3 BAR0. An access longer than Max_Payload_Size, and one of a BAR
in D3hot, reaches nothing. (PRESUMED, log entry 83) -/
def hostAccess (wr : Bool) (x : Fin 4 × BitVec 28) (n : Nat) (data : List Byte) (s : State) : State :=
  if 128 * 2 ^ s.host.mps < n then s.aerBit 18
  else if x.1 = 2 then configAccess wr x.2.toNat data s
  else whenD0 (fun s =>
    if x.1 = 0 then bar4Arrive wr x.2.toNat n data s
    else if x.1 = 1 then bar2Access wr (x.2.toNat % 0x10000) n data s
    else bar0Access wr (x.2.toNat % 0x1000000) n data s) s

/-- BAR4_ACCESS (R267); of BAR0 (R266, R381), BAR2 (R268) and of configuration space (R265) too. -/
def execBar4Access (wr : Bool) (x : Fin 4 × BitVec 28) (n : Nat) (data : List (BitVec 8)) (s : State) :=
  ok (whenUp (hostAccess wr x n data)) s
/-- BASE_HI_WRITE (R404). -/
def execBaseHiWrite (o : BitVec 24) (w : BitVec 32) (fw : Bool) (s : State) := ok (whenUp (baseHiWrite o.toNat w.toNat fw)) s

end Sys2Proof.Machine
end

