-- ==== Sys2Proof/Machine/Dma.lean ====
section
/-!
DEFINITION. Sluice's own work: the choice of a channel (R252), the checks of a descriptor (R250), the chunks of its stream
(R244 to R249, R257 to R260) and its completion (R253 to R255).
-/
namespace Sys2Proof.Machine

/-- A notification of a host channel waits for room in its completion ring, so its next descriptor does not start (R276); one
that waits only for command processing to resume holds nothing back (R262). -/
def State.noteWaits (s : State) (c : Nat) : Bool :=
  !s.chOwned c && s.dma.notes.any fun n => n.chan == c && s.ringEn (8 + n.cq) && !s.ringRoom (8 + n.cq)

/-- R252: the free engine takes the armed channel of lowest PRIO, round robin among equals. -/
def channelSelect (s : State) : State :=
  if s.dma.run.isSome || s.flag R.dmaStatHalt || !s.flag R.dmaCtlEn then s
  else
    let armed := (List.range 16).filter fun c => s.chState c == 1
    match (List.range 4).find? fun p => armed.any fun c => s.fld (R.dmaChCfgPrio c) == p with
    | none => s
    | some p =>
      let cand := armed.filter fun c => s.fld (R.dmaChCfgPrio c) == p
      let last := tget (fun _ => 15) s.dma.last p
      match (cand.find? fun c => last < c).or cand.head? with
      | none => s
      | some c =>
        let s := ((s.setChState c 2).setFld R.dmaStatBusy 1).setFld R.dmaStatRunning c
        s.modDma fun d => { d with run := some c, last := tset (fun _ => 15) p c d.last }

/-! ### Descriptors -/

/-- One side of a descriptor (R243, R244): base, line length, stride, line count, access width, exact flag. -/
structure Side where
  base : Nat
  len : Nat
  stride : Int
  lines : Nat
  width : Nat
  exact : Bool
  deriving DecidableEq, Repr

def dw (ws : List Nat) (k : Nat) : Nat := ws.getD k 0
def dOp (ws : List Nat) : Nat := dw ws 0 % 4
def dDown (ws : List Nat) : Bool := nbits (dw ws 0) 2 1 == 1
def srcSide (ws : List Nat) : Side :=
  { base := dw ws 2 + 2 ^ 32 * dw ws 3, len := dw ws 6 % 2 ^ 24, stride := sext 32 (dw ws 7), lines := dw ws 8 % 2 ^ 16,
    width := 2 ^ nbits (dw ws 0) 8 3, exact := nbits (dw ws 0) 6 1 == 1 }
def dstSide (ws : List Nat) : Side :=
  { base := dw ws 4 + 2 ^ 32 * dw ws 5, len := dw ws 9 % 2 ^ 24, stride := sext 32 (dw ws 10), lines := dw ws 8 / 2 ^ 16,
    width := 2 ^ nbits (dw ws 0) 12 3, exact := nbits (dw ws 0) 7 1 == 1 }

/-- The address of a stream position (R244). -/
def Side.addr (d : Side) (n : Nat) : Nat :=
  unsx 64 ((d.base : Int) + (n / d.len : Nat) * d.stride + (n % d.len : Nat))

/-- The extent of a side: its lowest and highest address. -/
def Side.extent (d : Side) : Int × Int :=
  let e := ((d.lines : Int) - 1) * d.stride
  ((d.base : Int) + min 0 e, (d.base : Int) + max 0 e + d.len - 1)

/-- The regions Sluice reaches (R250). -/
inductive Region where
  | dram | mire | regs | xip | host
  deriving DecidableEq, Repr

/-- The region that holds a whole extent, flash XIP space having a size; none where it leaves one, spans two, or reaches the
device's own BARs. -/
def State.regionOf (s : State) (e : Int × Int) (xip : Nat) : Option Region :=
  if e.1 < 0 || (2 ^ 64 : Int) ≤ e.2 then none
  else
    let lo := e.1.toNat
    let hi := e.2.toNat
    if isHost lo then
      let bar (b : Nat × Nat) : Bool := decide (lo - 2 ^ 63 < b.1 + b.2) && decide (b.1 ≤ hi - 2 ^ 63)
      if s.host.bars.any bar then none else some .host
    else if hi < 0x70000000 then some .dram
    else if 0x1000000000 ≤ lo && hi < 0x1008000000 && lo / 0x1000000 == hi / 0x1000000 then
      let a := lo % 0x1000000
      let b := hi % 0x1000000
      if b < 0x280000 || (0x800000 ≤ a && b < 0x860000) then some .mire else none
    else if 0x2000000000 ≤ lo && hi < 0x2001000000 then some .regs
    else if xipBase ≤ lo && hi < xipBase + xip then some .xip
    else none

/-- Does an exact side keep R247? -/
def Side.exactOk (d : Side) : Bool :=
  !d.exact || (d.base % d.width == 0 && d.len % d.width == 0 && d.stride % (d.width : Int) == 0)

/-- R250: the first cause that refuses a descriptor. (DESIGN CHOICE, log entry 34) -/
def State.descCause (s : State) (ws : List Nat) : Option Nat :=
  let fill := dOp ws == 1
  let sd := srcSide ws
  let dd := dstSide ws
  let n := dd.len * dd.lines
  let zero := nbits (dw ws 0) 15 17 == 0 && nbits (dw ws 0) 11 1 == 0 && dw ws 1 / 2 ^ 16 == 0 && dw ws 9 / 2 ^ 24 == 0 &&
    (fill || dw ws 6 / 2 ^ 24 == 0)
  if dOp ws = 3 || 4 < nbits (dw ws 0) 8 3 || 4 < nbits (dw ws 0) 12 3 || !zero then some 1
  else if (fill && (dw ws 6 != 0 || dw ws 7 != 0 || sd.lines != 0 || sd.width != 1 || sd.exact)) ||
      (!fill && (sd.len == 0 || sd.lines == 0)) || dd.len = 0 || dd.lines = 0 then some 2
  else if (!fill && sd.len * sd.lines != n) || 2 ^ 32 ≤ n then some 3
  else
    let sides := if fill then [dd] else [sd, dd]
    let rg := sides.map fun d => s.regionOf d.extent s.xipSize
    if rg.any (·.isNone) then some 4
    else if (sides.zip rg).any (fun p => !p.1.exactOk || (p.2 == some .regs && !(p.1.width == 4 && p.1.exact))) then some 5
    else if s.regionOf dd.extent s.xipSize = some .xip then some 6
    else if nbits (dw ws 12) 1 5 != 0 then some 7
    else none

/-- The channel's chain ends: a DMA_COPY completes with the last code and the descriptors completed (R285). -/
def State.chainEnd (s : State) (c code : Nat) : State :=
  let x := s.chan c
  (s.modChan c fun y => { y with cmd := none }).finishO x.cmd 0 0 code x.done

/-- R250: the running channel's next descriptor is read and checked. -/
def descriptorCheck (s : State) : State :=
  match s.dma.run with
  | none => s
  | some c =>
    if (s.chan c).desc.isSome || s.noteWaits c then s
    else
      let a := (s.chan c).next
      let s := s.set64 (R.dmaChCurLo c) (R.dmaChCurHi c) a
      match s.descRead a 64 with
      | (none, s) => s.dmaHalt 3 a
      | (some bs, s) =>
        let ws := wordsOf 16 bs
        let n := descN ws % 2 ^ 32
        let s := s.setFld (R.dmaChResid c) n
        match s.descCause ws with
        | none => s.modChan c fun x => { x with desc := some { addr := a, ws, xip := s.xipSize } }
        | some k =>
          let s := ((s.setFld (R.dmaChStatCode c) 4).setFld (R.dmaChStatCause c) k).writeBack a 4 k n
          let s := s.raise 0x0A01 c (a % 2 ^ 32 / 64 * 64 + k) (a / 2 ^ 32)
          ((s.freeEngine).setChState c 0).chainEnd c 4

/-! ### Chunks -/

/-- The next chunk of a descriptor (R245, R246): its first stream position and its length. -/
def nextChunk (ws : List Nat) (pos : Nat) : Nat × Nat :=
  let n := descN ws
  let sides := if dOp ws = 1 then [dstSide ws] else [srcSide ws, dstSide ws]
  if dDown ws then
    let p := n - 1 - pos
    let k := sides.foldl (fun (k : Nat) (d : Side) => min k (min (p % d.len + 1) (d.addr p % 256 + 1))) (p + 1)
    (p + 1 - k, k)
  else
    (pos, sides.foldl (fun (k : Nat) (d : Side) => min k (min (d.len - pos % d.len) (256 - d.addr pos % 256))) (n - pos))

/-- Bytes lo to lo + k - 1 of a register side: each word is read once, in ascending order, and kept for the rest of its
bytes (R249); the address of a read refused under R6 instead. -/
def State.regSideRead (s : State) (d : Side) (lo : Nat) :
    Nat → Option (Nat × Nat) → (List DByte × Option (Nat × Nat) × Option Nat × State)
  | 0, last => ([], last, none, s)
  | k + 1, last =>
    let (bs, last, err, s) := s.regSideRead d lo k last
    if err.isSome then (bs, last, err, s)
    else
      let n := lo + k
      let a := d.addr (n / 4 * 4)
      match last with
      | some (i, v) =>
        if i = n / 4 then (bs ++ [(BitVec.ofNat 8 (v / 256 ^ (n % 4)), false)], last, none, s)
        else
          let (v, _, s) := s.readReg (a % 2 ^ 24)
          if badRead (a % 2 ^ 24) then (bs, last, some a, s)
          else (bs ++ [(BitVec.ofNat 8 (v / 256 ^ (n % 4)), false)], some (n / 4, v), none, s)
      | none =>
        let (v, _, s) := s.readReg (a % 2 ^ 24)
        if badRead (a % 2 ^ 24) then (bs, last, some a, s)
        else (bs ++ [(BitVec.ofNat 8 (v / 256 ^ (n % 4)), false)], some (n / 4, v), none, s)

/-- The size of an access at address a with r bytes to go on a side of width w (R247). -/
def accSize (w a r : Nat) : Nat :=
  (List.range 5).foldl (fun b i => if 2 ^ i ≤ w && 2 ^ i ≤ r && a % 2 ^ i == 0 then 2 ^ i else b) 1

/-- The accesses of r bytes from address a: addresses and sizes, ascending (R247). -/
def accesses (w : Nat) : Nat → Nat → Nat → List (Nat × Nat)
  | 0, _, _ => []
  | n + 1, a, r => if r = 0 then [] else (a, accSize w a r) :: accesses w n (a + accSize w a r) (r - accSize w a r)

/-- The requests to DRAM of a chunk on one side: one merged burst, or each access for itself on an exact side (R247); where a
chunk cuts an access, its parts. (DESIGN CHOICE, log entry 34) -/
def Side.bursts (d : Side) (a k : Nat) : List (Nat × Nat) := if d.exact then accesses d.width k a k else [(a, k)]

/-- Reads of flash XIP space, one for each access, until one gets an error response (R247, R312). -/
def State.xipReads (s : State) (size : Nat) : List (Nat × Nat) → List Byte × Option Nat × State
  | [] => ([], none, s)
  | r :: rest =>
    match s.xipRead false (r.1 - xipBase) r.2 size with
    | (none, s) => ([], some r.1, s)
    | (some bs, s) =>
      let t := State.xipReads s size rest
      (bs ++ t.1, t.2)

/-- The reads of a chunk on one side: the bytes, the register word read last, the address of a bus error. An uncorrectable group
of an engine memory arrives poisoned. (DEDUCED, log entry 84) -/
def State.sideRead (s : State) (d : Side) (xip lo k : Nat) (last : Option (Nat × Nat)) :
    List DByte × Option (Nat × Nat) × Option Nat × State :=
  let a := d.addr lo
  match s.regionOf d.extent xip with
  | some .dram =>
    let p := s.withPoison a (s.bytes a k)
    (p, last, none, (d.bursts a k).foldl (fun s r => (s.dramRead 6 r.1 r.2).2.2) s)
  | some .host =>
    if s.host.linkUp then (s.withPoison a (s.bytes a k), last, none, s.hostArrives a k) else ([], last, some a, s)
  | some .mire =>
    ((s.bytes a k).zipIdx.map fun (b, i) => (b, !(s.engMet 2 (a + i) 1).isEmpty), last, none, s.engCorrect a k)
  | some .xip =>
    let r := s.xipReads xip (accesses d.width k a k)
    (r.1.map fun b => (b, false), last, r.2.1, r.2.2)
  | some .regs => s.regSideRead d lo k last
  | none => ([], last, some a, s)

/-- The bytes of an engine memory, poisoned ones left as they are (R258). -/
def State.mireWrite' (s : State) (a : Nat) (bs : List DByte) : State :=
  let put (x : Nat) : Bool := decide (a ≤ x) && (bs[x - a]?).any (!·.2)
  (bs.zipIdx.foldl (fun (s : State) (b : DByte × Nat) => if b.1.2 then s else s.setByte (a + b.2) b.1.1) s).modArr fun x =>
    { x with ecc := x.ecc.filter fun g => !((List.range 4).all fun i => put (4 * g.1 + i)) }

/-- The bytes of a register side gather in words; a complete word is written, and one with a poisoned byte is dropped. The
first refused word (R6) gives a bus error, and a word that halts the engine itself is the last. (DESIGN CHOICE, log entry 34) -/
def State.regSideWrite (s : State) (d : Side) :
    List (Nat × Option Byte) → List (Nat × Option Byte) → List (Nat × Option Byte) × Option Nat × State
  | held, [] => (held, none, s)
  | held, b :: rest =>
    let held := held ++ [b]
    let n := b.1 / 4 * 4
    let word := (List.range 4).map fun i => held.find? fun x => x.1 == n + i
    if word.all (·.isSome) then
      let held := held.filter fun x => x.1 / 4 * 4 != n
      let bytes := word.filterMap fun x => (x.map (·.2)).join
      let a := d.addr n
      if s.dma.run.isNone then (held, none, s)
      else if bytes.length < 4 then s.regSideWrite d held rest
      else if badAccess (a % 2 ^ 24) then (held, some a, s.refuse (a % 2 ^ 24))
      else (s.writeReg (a % 2 ^ 24) (leNat bytes)).2.regSideWrite d held rest
    else s.regSideWrite d held rest

/-- The writes of a chunk: the bytes of unfinished register words, the address of a bus error. -/
def State.sideWrite (s : State) (d : Side) (xip lo : Nat) (bs : List DByte) (held : List (Nat × Option Byte)) :
    List (Nat × Option Byte) × Option Nat × State :=
  let a := d.addr lo
  match s.regionOf d.extent xip with
  | some .dram =>
    (held, none, (d.bursts a bs.length).foldl (fun (s : State) r =>
      let part := (bs.drop (r.1 - a)).take r.2
      (s.dramWrite 6 r.1 (part.map (·.1))).markPoison r.1 part) s)
  | some .host => (held, none, if s.host.linkUp then (s.putBytes a (bs.map (·.1))).markPoison a bs else s)
  | some .mire =>
    if 0x800000 ≤ a % 0x1000000 && s.flag (R.engMireCtlEn (a / 0x1000000 % 16)) then (held, some a, s)
    else (held, none, s.mireWrite' a bs)
  | some .regs => s.regSideWrite d held (bs.zipIdx.map fun (b, i) => (lo + i, if b.2 then none else some b.1))
  | _ => (held, some a, s)

/-- Post a notification (R253, R275). -/
def State.postNote (s : State) (c : Nat) (ws : List Nat) (full : Bool) (code w2 w3 : Nat) : State :=
  let n : Note := { chan := c, tag := dw ws 1 % 2 ^ 16, code, full, w2 := w2 % 2 ^ 32, w3 := w3 % 2 ^ 32, cq := s.fld (R.dmaChCfgCq c) }
  s.modDma fun d => { d with notes := d.notes ++ [n] }

/-- A chunk is done: the residue, and the half notification once the first ⌈N / 2⌉ positions are visible; then an abort that
came in it (R256, R262). A halt in it has discarded both. -/
def State.chunkDone (s : State) (c : Nat) (d : Desc) (k : Nat) : State :=
  if s.dma.run != some c then s
  else
  let n := descN d.ws
  let pos := d.pos + k
  let s := s.setFld (R.dmaChResid c) (n - pos)
  let half := nbits (dw d.ws 0) 3 1 = 1 && !d.half && (n + 1) / 2 ≤ pos
  let s := if half then s.postNote c d.ws false 0 0 0 else s
  let asked := (s.chan c).mid == some true
  let s := s.modChan c fun x => { x with desc := some { d with pos, half := d.half || half }, mid := none }
  if asked then (s.dmaAbort c true).2 else s

/-- The first poisoned byte of a descriptor's source raises the poisoned-data event (R258). (DESIGN CHOICE, log entry 34) -/
def State.tellPoison (s : State) (c : Nat) (d : Desc) (a : Nat) (bs : List DByte) : State :=
  match bs.findIdx? (·.2) with
  | some i => if d.told then s else s.raise 0x0A04 c (a + i) ((a + i) / 2 ^ 32)
  | none => s

/-- R246: one chunk: its reads, then its writes, or its comparison (R259). (DESIGN CHOICE, log entry 34) -/
def State.chunk (s : State) (c : Nat) (d : Desc) : State :=
  let s := s.modChan c fun x => { x with mid := some false }
  let lk := nextChunk d.ws d.pos
  let lo := lk.1
  let k := lk.2
  let dd := dstSide d.ws
  if dOp d.ws = 1 then
    let fill := dw d.ws 2 + 2 ^ 32 * dw d.ws 3
    let bs : List DByte := (List.range k).map fun i => (BitVec.ofNat 8 (fill / 256 ^ ((lo + i) % 8)), false)
    match s.sideWrite dd d.xip lo bs d.wrw with
    | (_, some a, s) => s.dmaHalt 2 a
    | (held, none, s) => s.chunkDone c { d with wrw := held } k
  else
    let sd := srcSide d.ws
    match s.sideRead sd d.xip lo k d.rdw with
    | (_, _, some a, s) => s.dmaHalt 1 a
    | (bs, rdw, none, s) =>
      let s := s.tellPoison c d (sd.addr lo) bs
      let d := { d with rdw, poison := d.poison || bs.any (·.2), told := d.told || bs.any (·.2) }
      if dOp d.ws = 0 then
        match s.sideWrite dd d.xip lo bs d.wrw with
        | (_, some a, s) => s.dmaHalt 2 a
        | (held, none, s) => s.chunkDone c { d with wrw := held } k
      else
        match s.sideRead dd d.xip lo k d.rdd with
        | (_, _, some a, s) => s.dmaHalt 1 a
        | (cs, rdd, none, s) =>
          let diff := (List.range k).filter fun i =>
            let b := bs.getD i (0, false)
            let e := cs.getD i (0, false)
            b.2 || e.2 || b.1 != e.1
          let at1 := if dDown d.ws then diff.getLast? else diff.head?
          let first := d.first.or (at1.map fun i => dd.addr (lo + i))
          s.chunkDone c { d with rdd, first, cmp := d.cmp + diff.length, poison := d.poison || cs.any (·.2) } k

/-- The engine's next chunk; an XIP read waits while the flash port polls, and goes after a direct frame (R314). -/
def dmaChunk (s : State) : State :=
  match s.dma.run with
  | none => s
  | some c =>
    match (s.chan c).desc with
    | none => s
    | some d =>
      let xip : Bool := dOp d.ws != 1 && s.regionOf (srcSide d.ws).extent d.xip = some .xip
      if descN d.ws ≤ d.pos || (xip && s.flash.polling) then s
      else (if xip then s.at s.flash.busyTo else s).chunk c d

/-! ### Completion -/

/-- The chain goes on at a descriptor: with YIELD the channel is armed there and gives up the engine (R252). -/
def State.goOn (s : State) (c : Nat) (yld : Bool) (next : Nat) : State :=
  let s := s.modChan c fun x => { x with desc := none, next }
  if yld then (s.freeEngine).setChState c 1 else s

/-- The channel reaches at end; a pending doorbell makes one further re-read (R255). -/
def State.atEnd (s : State) (c code : Nat) : State :=
  let s := ((s.freeEngine).setChState c 3).modChan c fun x => { x with desc := none }
  if s.fld (R.dmaChStatDbpend c) = 1 then
    match (s.setFld (R.dmaChStatDbpend c) 0).reread c with
    | (some (some n), s) => (s.setChState c 1).modChan c fun x => { x with next := n }
    | (some none, s) => s.chainEnd c code
    | (none, s) => s
  else s.chainEnd c code

/-- R253, R255: every position is done: the write-backs, the full notification, and what comes next. -/
def descriptorComplete (s : State) : State :=
  match s.dma.run with
  | none => s
  | some c =>
    match (s.chan c).desc with
    | none => s
    | some d =>
      if d.pos < descN d.ws then s
      else
        let cmp := dOp d.ws == 2
        let code := if d.poison then 2 else if cmp && d.cmp != 0 then 3 else 0
        let s := if cmp then s.descWrite (d.addr + 44) (min d.cmp (2 ^ 32 - 1)) else s
        let s := s.writeBack d.addr code 0 0
        let s := match d.first with
          | some a => s.set64 (R.dmaChCmpLo c) (R.dmaChCmpHi c) a
          | none => s
        let s := ((s.setFld (R.dmaChStatCode c) code).bump (R.dmaChDescCnt c)).modChan c
          fun x => { x with done := x.done + 1 }
        let f := d.first.getD 0
        let s := if nbits (dw d.ws 0) 4 1 = 1 then
            s.postNote c d.ws true code (if cmp then f else 0) (if cmp then f / 2 ^ 32 else 0) else s
        let yld := nbits (dw d.ws 0) 5 1 == 1
        if dw d.ws 12 % 2 = 0 then s.goOn c yld ((dw d.ws 12 + 2 ^ 32 * dw d.ws 13) / 64 * 64)
        else
          match s.reread c with
          | (some (some n), s) => s.goOn c yld n
          | (some none, s) => s.atEnd c code
          | (none, s) => s

/-- CHANNEL_SELECT (R252). -/
def execChannelSelect (s : State) := ok (whenAlive channelSelect) s
/-- DESCRIPTOR_CHECK (R250). -/
def execDescriptorCheck (s : State) := ok (whenAlive descriptorCheck) s
/-- DMA_CHUNK (R246). -/
def execDmaChunk (s : State) := ok (whenAlive dmaChunk) s
/-- DESCRIPTOR_COMPLETE (R253). -/
def execDescriptorComplete (s : State) := ok (whenAlive descriptorComplete) s

end Sys2Proof.Machine
end

