-- ==== Sys2Proof/Machine/Cmds.lean ====
section
/-!
DEFINITION. The command set of the rings and the mailbox (R285): how a fetched command starts (R272), and what each one does.
Wisoa firmware is the initiator of the register writes a command makes (R15).
-/
namespace Sys2Proof.Machine

/-! ### Starting and ending a command -/

/-- FENCE holds a command back while an earlier one of its ring is not complete (R271, R272). -/
def State.fenced (s : State) (c : Cmd) : Bool :=
  c.fence && s.cmds.any fun d => d.home == c.home && decide (d.uid < c.uid) && decide (d.phase < 2)

/-- The oldest command of a source that has not started and need not wait for its FENCE: a source's commands start in order. -/
def State.front (s : State) (src : Nat) : Option Cmd :=
  (s.cmds.find? fun c => c.src == src && c.phase == 0).filter fun c => !s.fenced c

/-- That command, if its opcode is this one. -/
def State.toStart (s : State) (src opc : Nat) : Option Cmd := (s.front src).filter fun c => c.opc == opc

/-- Commands are processed: firmware works, and command processing is on (R291). -/
def State.cmdsOn (s : State) : Bool := s.fwRuns && s.flag R.hostCtlEn

/-- A command is in progress. -/
def State.started (s : State) (uid : Nat) : State :=
  { s with cmds := s.cmds.map fun c => if c.uid = uid && c.phase = 0 then { c with phase := 1 } else c }

/-- Start the command of an opcode that is next at a source, while commands are processed and it need not wait. An interrupted
burst resumes before it (R223). -/
def startWhen (ready : Cmd → State → Bool) (opc : Nat) (f : Cmd → State → State) (src : Nat) (s : State) : State :=
  if !s.cmdsOn then s
  else
    match s.toStart src opc with
    | none => s
    | some c => if ready c s then f c (s.runsEnded.started c.uid) else s

def startCmd : Nat → (Cmd → State → State) → Nat → State → State := startWhen fun _ _ => true
/-- A command that needs a functional block waits while the blocks stand still (R371). (DEDUCED, log entry 40) -/
def startLive : Nat → (Cmd → State → State) → Nat → State → State := startWhen fun _ s => s.alive

def Cmd.p (c : Cmd) (k : Nat) : Nat := c.ps.getD k 0
/-- The address in two parameters. -/
def Cmd.addr (c : Cmd) (k : Nat) : Nat := c.p k + 2 ^ 32 * c.p (k + 1)

def State.done (s : State) (c : Cmd) (r0 : Nat := 0) (r1 : Nat := 0) : State := s.finish c.uid 0 0 r0 r1
def State.refused (s : State) (c : Cmd) (cause : Nat := 0) (r1 : Nat := 0) : State := s.finish c.uid 1 cause 0 r1
/-- STATUS 0x07: data the command names cannot be reached (R274, R289). -/
def State.paramError (s : State) (c : Cmd) : State := s.finish c.uid 7 0 0 0

/-- Is an address in host space without a link? (DESIGN CHOICE, log entry 35) -/
def State.hostGone (s : State) (a : Nat) : Bool := isHost a && !s.host.linkUp
/-- Can a command write here? -/
def State.canWrite (s : State) (a n : Nat) : Bool := if isHost a then s.host.linkUp else inDram a n

/-- Write a register word as a command asks; none where R4 or R5 refuses it. -/
def State.tryWord (s : State) (o w : Nat) : Option State :=
  match locate o with
  | none => none
  | some l => if s.wordRefused l (o - l.base) w then none else some (s.setRows l (o - l.base) w)

/-- Write several words, all or none: the offset of the first that is refused, or the state with all. -/
def State.tryWords (s : State) : List (Nat × Nat) → Except Nat State
  | [] => .ok s
  | (o, w) :: t =>
    match s.tryWord o w with
    | none => .error o
    | some s' => s'.tryWords t

/-- Are the fields of a word in range (R4)? -/
def rangeOk (o w : Nat) : Bool :=
  match locate o with
  | none => false
  | some l => (rowsAt (blkRows l.blk) (o - l.base)).all fun r => r.min ≤ nbits w r.lo r.len && nbits w r.lo r.len ≤ r.max

/-! ### System (R285) -/

/-- R285: an unlisted opcode. -/
def unknownOpcode (src : Nat) (s : State) : State :=
  if !s.cmdsOn then s
  else
    match s.front src with
    | some c => if (opShape c.opc).isNone then s.finish c.uid 5 0 0 0 else s
    | none => s

def cmdNop (c : Cmd) (s : State) : State := s.done c

/-- The words of the identity record as they read (R346). -/
def State.peatWords (s : State) (o n : Nat) : List Nat × State :=
  (List.range n).foldl (fun (a : List Nat × State) (i : Nat) =>
    let r := a.2.peatRd (o + 4 * i)
    (a.1 ++ [r.1], r.2)) ([], s)

/-- IDENTIFY. -/
def cmdIdentify (c : Cmd) (s : State) : State :=
  if !s.canWrite (c.addr 0) 256 then s.paramError c
  else
    let r := s.peatWords 0 64
    (r.2.hostWrite (c.addr 0) (bytesOf r.1)).done c (s.fld R.sysFwVer) s.ao.slot

/-- REG_READ. -/
def cmdRegRead (c : Cmd) (s : State) : State :=
  match s.readReg (c.p 0) with
  | (_, true, s) => s.refused c (if c.p 0 = R.peatData.off then 6 else 0)
  | (v, false, s) => s.done c v

/-- The word a masked write makes: bits outside the mask keep what RW, RWL fields hold, and write 0 elsewhere (R2).
(DEDUCED, log entry 45) -/
def State.maskedWord (s : State) (o v mask : Nat) : Nat :=
  let keep := match locate o with
    | none => 0
    | some l => ((rowsAt (blkRows l.blk) (o - l.base)).filter fun r => r.acc == .rw || r.acc == .rwl).foldl
        (fun m r => m ||| (2 ^ r.len - 1) * 2 ^ r.lo) 0
  let held := (s.reg o).toNat &&& keep
  (held - (held &&& mask)) ||| (v &&& mask)

/-- REG_WRITE. PEAT_DATA asks for the host's password (R344). (DEDUCED, log entry 45) -/
def cmdRegWrite (c : Cmd) (s : State) : State :=
  match s.writeReg (c.p 0) (s.maskedWord (c.p 0) (c.p 1) (c.p 2)) (c.p 0 != R.peatData.off) with
  | (some cause, s) => s.refused c cause
  | (none, s) =>
    let r := s.readReg (c.p 0)
    r.2.2.done c r.1

/-- TICK_SET: source, period, guard and enable checked together (R32, R42); it completes at the next edge, or at once if the
generator was off. (DEDUCED, log entry 46) -/
def cmdTickSet (c : Cmd) (s : State) : State :=
  let src := nbits (c.p 0) 0 2
  let en := nbits (c.p 0) 3 1
  let w0 := (s.reg 0x10000).toNat / 16 * 16 + en + src * 2 + nbits (c.p 0) 2 1 * 8
  if 2 ^ 30 ≤ c.p 1 then (s.refuse 0x10004).refused c
  else if 256 ≤ c.p 2 then (s.refuse 0x10008).refused c
  else if 2 ^ 14 ≤ c.p 3 then (s.refuse 0x1000C).refused c
  else
    match s.tryWords [(0x10000, w0), (0x10004, c.p 1), (0x10008, c.p 2), (0x1000C, c.p 3)] with
    | .error o => (s.refuse o).refused c
    | .ok t =>
      if ((List.range 4).any fun h => s.hState h == 4) && s.flag R.tickCtlEn && en = 0 then (s.refuse 0x10000).refused c
      else if !periodOk t.periodReg (c.p 3) then (s.refuse 0x10004).refused c
      else if nbits (s.fld R.tickStatus) 0 1 = 1 then
        if en = 1 then t.request { kind := .tickSet, cmd := some c.uid } else t.tickStop.done c (s.fld R.tickCount)
      else
        let t := t.tickStop
        if en = 0 then t.done c (t.fld R.tickCount)
        else
          let t := tickEnable t
          if src = 1 then t.request { kind := .tickSet, cmd := some c.uid } else t.done c (t.fld R.tickCount)

/-! ### Heads -/

/-- The register words of a HEAD_CONFIG; `l` are the words of HEAD_REF_Lk. -/
def State.configWords (s : State) (c : Cmd) (l : List Nat) : List (Nat × Nat) :=
  let b := 0x40000 + 0x10000 * c.obj
  let g := 0xA0000 + 0x100 * c.obj
  [(b + 4, c.p 0), (b + 8, c.p 1), (b + 0xC, c.p 2 % 8), (b + 0x10, nbits (c.p 2) 8 7 + nbits (c.p 2) 16 6 * 256),
    (b + 0x28, c.p 4), (b + 0x24, c.p 9), (g, (s.reg g).toNat / 8 * 8 + c.p 3 % 8)] ++
    (l.zipIdx.map fun (x, k) => (b + 0x30 + 4 * k, x))

/-- Bias code k of a HEAD_CONFIG. -/
def configBias (c : Cmd) (k : Nat) : Nat := nbits (c.p (5 + k / 2)) (16 * (k % 2)) 16

/-- Show HEAD_NEED (R66). -/
def State.showNeed (s : State) (h : Nat) : State := s.setFld (R.headNeed h) (min 0xFFFF (s.need h))

/-- HEAD_CONFIG: refused whole under R4, R5 and R47, or with the cause of R62 that R49 gives; then the attach of a present
head begins. (DEDUCED, log entry 47) -/
def cmdHeadConfig (c : Cmd) (s : State) : State :=
  let h := c.obj
  let b := 0x40000 + 0x10000 * h
  match s.hostRead (c.addr 10) 68 with
  | (none, s) => s.paramError c
  | (some bs, s) =>
    if (s.hl h).run then (s.refuse (b + 4)).refused c
    else
      match s.tryWords (s.configWords c (wordsOf 17 bs)) with
      | .error o => (s.refuse o).refused c
      | .ok t =>
        match (List.range 8).find? fun k => s.fld (R.headBiasMax h k) < configBias c k with
        | some k => (s.refuse (b + 0x100 + 4 * k)).refused c
        | none =>
          if t.fld (R.headCadDiv h) ≤ t.fld (R.headCadPhase h) then (s.refuse (b + 0x10)).refused c
          else if 4 < t.fld (R.afeGrpCtlGain h) then (s.refuse (0xA0000 + 0x100 * h)).refused c
          else if !t.geomOk h then (s.refuse (b + 4) 2).refused c 2
          else if !t.rateOk h then (s.refuse (b + 4) 3).refused c 3
          else
            let t := (List.range 8).foldl (fun (t : State) (k : Nat) => headBiasWrite h k (configBias c k) t) t
            let t := (((t.modHead h fun x => { x with configured := true }).showNeed h).showShort h).showLoads
            let t := if t.hState h = 1 && t.flag (R.headCtlAuto h) && (t.head h).attach = 0 then t.attachBegin h none else t
            t.done c (t.fld (R.headNeed h))

/-- HEAD_ATTACH (R61): the attach begins, goes on from the step its head has reached, or is joined.
(DEDUCED, log entry 48) -/
def cmdHeadAttach (c : Cmd) (s : State) : State :=
  let h := c.obj
  let x := s.head h
  let st := s.hState h
  let go (s : State) (k : Nat) : State := s.modHead h fun x => { x with attach := k, attachCmd := some c.uid }
  if x.attachCmd.isSome then s.finish c.uid 0x0A 0 0 0
  else if st = 0 || st = 5 then s.refused c 1
  else if st = 4 then s.done c x.startTick
  else if x.attach != 0 then go s x.attach
  else if st = 1 then s.attachBegin h (some c.uid)
  else if st = 2 then
    if x.ramped then (go s 4).setFld (R.headCtlClk h) 1 else go s (if x.settled then 3 else 2)
  else (go s 5).attachCheck h

/-- DESIGN CHOICE, log entry 49. -/
def cmdHeadStart (c : Cmd) (s : State) : State := s.startReq c.obj (some c.uid)
def cmdHeadDetach (c : Cmd) (s : State) : State := s.detachReq c.obj (some c.uid)

/-- HEAD_LINK (R305). (DEDUCED, log entry 57) -/
def cmdHeadLink (c : Cmd) (s : State) : State :=
  let n := c.obj
  let o := 0x1E0100 + 0x40 * n
  if s.hostGone (c.addr 0) then s.paramError c
  else if !s.flag (R.spiHlCfgEn n) then (s.refuse (o + 0x1C)).refused c
  else if c.addr 0 % 32 != 0 then (s.refuse (o + 0x14)).refused c
  else if c.p 2 = 0 || 0xFFFF < c.p 2 then (s.refuse (o + 0x18)).refused c
  else
    let s := (s.setBase (R.spiHlQaddrLo n) (R.spiHlQaddrHi n) (c.addr 0)).setFld (R.spiHlQcnt n) (c.p 2)
    s.hlStart n (c.addr 0) (c.p 2) (nbits (c.p 3) 0 1 == 1) false (some c.uid)

/-! ### Analogue front end -/

def cmdAfeTrain (c : Cmd) (s : State) : State := s.afeTrain c.obj (some c.uid)
def cmdAfeSwap (c : Cmd) (s : State) : State := s.afeSwap c.obj (c.p 0) (some c.uid)
def cmdAfeRequalify (c : Cmd) (s : State) : State := s.afeRequalify c.obj (c.p 0) (some c.uid)

/-! ### Tables and shutter -/

/-- TABLE_OPEN (R119): the inactive bank and its record base. -/
def cmdTableOpen (c : Cmd) (s : State) : State :=
  let h := c.obj
  let b := s.inactive h
  if s.openRefused h b then (s.calRefuse h 9).refused c 9 else (s.loadOpen h b).done c b (s.recBase h b)

/-- TABLE_CLOSE (R119, R120, R140): a refused GEN leaves the load open. -/
def cmdTableClose (c : Cmd) (s : State) : State :=
  let h := c.obj
  let b := (s.cal h).lockBank
  let gen := c.p 0 % 65536
  if !s.flag (R.calStatusLock h) then (s.calRefuse h 9).refused c 9
  else if s.genRefused h gen then ((corrBankGenWrite h b gen s).calRefuse h 9).refused c 9
  else (((s.setFld (R.corrBankGen h b) gen).setFld (R.corrBankTcal h b) (c.p 1)).loadClose h b).done c b gen

/-- TABLE_ACTIVATE (R121). -/
def cmdTableActivate (c : Cmd) (s : State) : State := s.requestActivation c.obj (c.p 0 % 2) (c.p 1 % 65536) (some c.uid)

/-- SHUTTER (R123, R124). -/
def cmdShutter (c : Cmd) (s : State) : State := s.calRequest c.obj 3 (some c.uid)

/-- SHUTTER_ABORT (R135). -/
def cmdShutterAbort (c : Cmd) (s : State) : State :=
  match s.calAbort c.obj with
  | (s, true) => s.done c
  | (s, false) => s.refused c 8

/-! ### Outputs and radiometry -/

/-- Do the buffer rings that CORR_FMT enables lie as R111 asks? (DEDUCED, log entry 50) -/
def State.ringsOk (s : State) (h : Nat) : Bool :=
  let n := s.fld (R.corrFmtNbuf h)
  let good (a len : Nat) : Bool := a % 4096 == 0 && inDram a len
  ((List.range 5).all fun f => !s.fmtOn h f || good (s.base (R.corrOutLo h f) (R.corrOutHi h f)) (n * s.fmtSize h f)) &&
    good (s.base (R.corrLstatLo h) (R.corrLstatHi h)) (n * 4096)

/-- OUTPUT_SET (R5, R111). -/
def cmdOutputSet (c : Cmd) (s : State) : State :=
  let h := c.obj
  let b := 0xC0000 + 0x10000 * h
  match s.tryWords [(b + 4, c.p 0 % 2 ^ 13), (b, c.p 1 % 8)] with
  | .error o => (s.refuse o).refused c
  | .ok t =>
    if !t.ringsOk h then (s.refuse (b + 4)).refused c
    else let t := t.showNeed h; t.done c (t.fld (R.headNeed h))

/-- EMISSIVITY (R112, R113): it completes with the first frame that uses the pair. (DEDUCED, log entry 50) -/
def cmdEmissivity (c : Cmd) (s : State) : State :=
  let h := c.obj
  let e := c.p 0
  if e < 656 || 65536 < e then s.refused c 1
  else
    match (s.pipe h).active with
    | none => s.refused c 3
    | some b =>
      match radianceFor ((s.pipe h).lut b) (c.p 1) with
      | none => s.refused c 2
      | some l =>
        let s := (s.setFld (R.corrInvEps h) (rdiv (2 ^ 32) e).toNat).setFld (R.corrRadCtlEmap h) (c.p 2)
        (corrLoffWrite h (rdiv ((65536 - e) * l) 65536).toNat s).modPipe h
          fun p => { p with emisCmds := p.emisCmds ++ [c.uid] }

/-! ### Actuators -/

/-- The phase words of the basic profile (R143): ramp, slow decay, slow decay at the hold current, fast decay to 0.
(DEDUCED, log entry 51) -/
def basicProfile (sign i t ih : Int) : List Nat :=
  [phaseWord (sign * i) 100 4, phaseWord (sign * i) t.toNat 1, phaseWord (sign * ih) 700 1, phaseWord 0 100 2]

/-- ACT_SETUP (R143, R158). (DEDUCED, log entry 51) -/
def cmdActSetup (c : Cmd) (s : State) : State :=
  let k := c.obj
  let o := 0x110000 + 0x100 * k
  let lim := s.fld (R.actChIlim k)
  if lim < c.p 0 || c.p 1 = 0 || 65535 < c.p 1 || lim < c.p 2 || s.slotHeld k 0 then (s.refuse (o + 0x80)).refused c
  else if s.slotHeld k 1 then (s.refuse (o + 0xA0)).refused c
  else if 60000 < c.p 3 then (s.refuse (o + 8)).refused c
  else if c.p 4 = 0 || 8000000 < c.p 4 then (s.refuse (o + 0xC)).refused c
  else
    let put (s : State) (slot : Nat) (ws : List Nat) : State :=
      ws.zipIdx.foldl (fun (s : State) (w : Nat × Nat) => s.setFld (R.actChPhase k slot w.2) w.1) s
    let s := put s 0 (basicProfile 1 (c.p 0) (c.p 1) (c.p 2))
    let s := put s 1 (basicProfile (-1) (c.p 0) (c.p 1) (c.p 2))
    let len := s.fld (R.actChSlotlen k)
    let s := s.setFld (R.actChSlotlen k) (len / 256 * 256 + 0x44)
    let s := (s.setFld (R.actChMinoff k) (c.p 3)).setFld (R.actChBudget k) (c.p 4)
    let s := if s.flag (R.actChCtlEn k) then s else (s.setFld (R.actChCtlEn k) 1).actEnable k true
    s.done c (s.planned k 0) (s.planned k 1)

def cmdActStart (c : Cmd) (s : State) : State := s.actHostStart c.obj (c.p 0 % 4) (nbits (c.p 0) 8 1 == 1) (some c.uid)

/-- ACT_STOP (R157). -/
def cmdActStop (c : Cmd) (s : State) : State :=
  match s.actStop c.obj with
  | (s, true) => s.done c
  | (s, false) => s.refused c 4

/-- ACT_CLEAR (R154). -/
def cmdActClear (c : Cmd) (s : State) : State :=
  match s.actClear c.obj with
  | (s, true) => s.done c
  | (s, false) => s.refused c 4

/-! ### Engine array -/

/-- ENG_RELOAD (R184). -/
def cmdEngReload (c : Cmd) (s : State) : State :=
  (s.setBase (R.engMireImgLo c.obj) (R.engMireImgHi c.obj) (c.addr 0)).reloadReq c.obj (c.addr 0) (some c.uid)

/-- ENG_DECLARE (R173); a table in host memory needs the link (R289). -/
def cmdEngDeclare (c : Cmd) (s : State) : State :=
  if c.addr 0 % 64 != 0 then (s.refuse 0x128008).refused c
  else if 64 < c.p 2 then (s.refuse 0x12800C).refused c
  else if s.hostGone (c.addr 0) then s.paramError c
  else
    ((s.setBase R.engTaskBaseLo R.engTaskBaseHi (c.addr 0)).setFld R.engTaskCnt (c.p 2)).request
      { kind := .taskDeclare, p0 := c.p 2, p1 := c.addr 0, cmd := some c.uid }

def cmdEngRequalify (c : Cmd) (s : State) : State := s.engRequalify c.obj (c.p 0) (some c.uid)

/-- ENG_BROADCAST (R186). -/
def cmdEngBroadcast (c : Cmd) (s : State) : State :=
  if 2 ^ 20 ≤ c.p 2 || c.p 2 % 16 != 0 then (s.refuse 0x12802C).refused c
  else if 2 ^ 21 ≤ c.p 3 || !rangeOk 0x128030 (c.p 3) then (s.refuse 0x128030).refused c
  else
    let s := s.setBase R.engBcastSrcLo R.engBcastSrcHi (c.addr 0)
    let s := (s.setFld R.engBcastOff (c.p 2)).setFld R.engBcastLen (c.p 3)
    s.bcastReq (c.addr 0) (c.p 2) (c.p 3) (c.p 4 % 256) (some c.uid)

/-- TASK_WISOA (R189): a declaration of the table in force with the chosen tasks added; a parameter block in host memory needs
the link (R289). (DESIGN CHOICE, log entry 26) -/
def cmdTaskWisoa (c : Cmd) (s : State) : State :=
  if 128 ≤ c.p 0 then s.refused c 1
  else if s.hostGone (c.addr 1) then s.paramError c
  else s.request { kind := .taskDeclare, p0 := c.obj, p1 := c.p 0, p2 := c.addr 1 + 1, cmd := some c.uid }

/-! ### Video -/

/-- VID_INLINE (R196). -/
def cmdVidInline (c : Cmd) (s : State) : State :=
  let en := nbits (c.p 0) 0 1 == 1
  ((s.setFld R.vidCtlInline c.obj).setFlag R.vidCtlInlineEn en).inlineReq c.obj en (some c.uid)

/-- VID_TONE (R199, R201). -/
def cmdVidTone (c : Cmd) (s : State) : State :=
  let h := c.obj
  let o := 0x1A0000 + 0x100 * h
  match s.tryWords [(o + 4, c.p 0), (o + 8, c.p 1)] with
  | .error e => (s.refuse e).refused c
  | .ok t =>
    let m := t.fld (R.vidToneMode h)
    if m = 3 || (m != 0 && t.fld (R.vidHeadCtlInput h) != 0) then (s.refuse (o + 4)).refused c
    else if c.p 1 / 65536 ≤ c.p 1 % 65536 then (s.refuse (o + 8)).refused c
    else t.request { kind := .tone, obj := h, cmd := some c.uid }

/-- VID_LAYERS (R206). -/
def cmdVidLayers (c : Cmd) (s : State) : State :=
  let o := 0x1A0014 + 0x100 * c.obj
  match s.tryWords [(o, c.p 0)] with
  | .error e => (s.refuse e).refused c
  | .ok t => t.request { kind := .layers, obj := c.obj, cmd := some c.uid }

/-- VID_L3 (R209). -/
def cmdVidL3 (c : Cmd) (s : State) : State :=
  let h := c.obj
  let a := c.addr 0
  if s.hostGone a then s.paramError c
  else if !isHost a && !inDram a (s.actW h * s.actH h * 4) then (s.refuse (0x1A0020 + 0x100 * h)).refused c
  else (s.setBase (R.vidL3Lo h) (R.vidL3Hi h) a).l3Commit h a (some c.uid)

/-- Does a VID_HEAD_CTL word leave the register as it is, or clear EN alone (R5)? (DEDUCED, log entry 52) -/
def State.vidCtlFree (s : State) (h w : Nat) : Bool :=
  let old := (s.reg (0x1A0000 + 0x100 * h)).toNat
  old == w || (old % 2 == 1 && old == w + 1)

/-- VID_OUT (R193, R213). (DEDUCED, log entry 52) -/
def cmdVidOut (c : Cmd) (s : State) : State :=
  let h := c.obj
  let o := 0x1A0000 + 0x100 * h
  if !rangeOk o (c.p 0 % 64) then (s.refuse o).refused c
  else if 2 ^ 12 ≤ c.p 1 || !rangeOk 0x1A0A04 (c.p 1) then (s.refuse 0x1A0A04).refused c
  else
    let t := (s.setReg o (BitVec.ofNat 32 (c.p 0 % 64))).setFld R.vidTxRate (c.p 1)
    let free := s.fld R.vidTxRate == c.p 1 && s.vidCtlFree h (c.p 0 % 64)
    if !free && !t.vidHeadCtlOk h then (s.refuse o).refused c
    else let t := t.showLoads; t.done c (t.fld R.vidLoad) (t.fld R.vidTxLoad)

/-- VID_RX (R202, R204). (DEDUCED, log entry 52) -/
def cmdVidRx (c : Cmd) (s : State) : State :=
  let o := 0x1A0900
  if !rangeOk o (c.p 0) || !rxCtlOk (nbits (c.p 0) 10 3) (nbits (c.p 0) 13 4) then (s.refuse o).refused c
  else if !rxSizeOk (c.p 1) then (s.refuse (o + 4)).refused c
  else if 2 ^ 12 ≤ c.p 2 || !rangeOk (o + 8) (c.p 2) then (s.refuse (o + 8)).refused c
  else
    let s := (s.setReg o (BitVec.ofNat 32 (c.p 0 % 2 ^ 17))).setFld R.vidRxSize (nbits (c.p 1) 0 13 + nbits (c.p 1) 16 13 * 65536)
    ((s.setFld R.vidRxRate (c.p 2)).setFld R.vidRxFusHead (c.p 3)).done c

/-! ### Memory and Sluice -/

/-- MEM_TICKETS (R232): all sixteen tickets, then one repeated test. -/
def cmdMemTickets (c : Cmd) (s : State) : State :=
  let s := (List.range 16).foldl (fun (s : State) (i : Nat) =>
    s.setFld (R.memArbTickets i) (nbits (c.p (i / 4)) (8 * (i % 4)) 8)) s
  let s := s.retest
  s.done c (s.fld R.memArbDeficit)

/-- DMA_COPY: the channel is enabled and its chain started; it completes at the end mark (R285). (DEDUCED, log entry 53) -/
def cmdDmaCopy (c : Cmd) (s : State) : State :=
  let k := c.obj
  if s.chOwned k then s.finish c.uid 9 0 0 0
  else if s.hostGone (c.addr 0) then s.paramError c
  else if s.chState k != 0 || c.addr 0 % 64 != 0 then s.refused c 1
  else
    let s := (s.setFld (R.dmaChCfgEn k) 1).setBase (R.dmaChHeadLo k) (R.dmaChHeadHi k) (c.addr 0)
    (dmaDoorbell k true s).modChan k fun x => { x with cmd := some c.uid }

/-- DMA_ABORT (R256). (DEDUCED, log entry 53) -/
def cmdDmaAbort (c : Cmd) (s : State) : State :=
  if s.chOwned c.obj then s.finish c.uid 9 0 0 0
  else
    match s.dmaAbort c.obj false with
    | (some r, s) => s.done c r
    | (none, s) => s.refused c

/-! ### Streams -/

/-- STREAM_BIND (R282): bound to a tick; kinds 8 to 15 are refused. (DEDUCED, log entry 54) -/
def cmdStreamBind (c : Cmd) (s : State) : State :=
  let kind := nbits (c.p 0) 0 4
  let task := if kind = 7 then nbits (c.p 0) 8 6 else 0
  if 8 ≤ kind then s.refused c 1
  else
    s.request { kind := .bind, obj := c.obj, p0 := kind + task * 256, p1 := nbits (c.p 1) 0 3 + nbits (c.p 1) 8 3 * 256,
                cmd := some c.uid }

/-- STREAM_UNBIND: the stream takes no further frame and leaves after its last header; a second one meanwhile is busy (R274).
(DEDUCED, log entry 54) -/
def cmdStreamUnbind (c : Cmd) (s : State) : State :=
  let kind := nbits (c.p 0) 0 4
  let task := if kind = 7 then nbits (c.p 0) 8 6 else 0
  let mine (t : Stream) : Bool := t.head == c.obj && t.kind == kind && t.task == task && !t.ending
  if s.streams.any mine then
    ({ s with streams := s.streams.map fun t => if mine t then { t with ending := true, endCmd := some c.uid } else t }
      : State).endStreams
  else if s.streams.any fun t => t.head == c.obj && t.kind == kind && t.task == task then s.finish c.uid 0x0A 0 0 0
  else s.refused c 4

/-! ### Thermal management and the peat store -/

/-- THERM_CAP (R326). -/
def cmdThermCap (c : Cmd) (s : State) : State :=
  match s.capHostWrite (c.p 0) with
  | (true, s) => s.done c
  | (false, s) => s.refused c 1

/-- A peat command's own checks, before data moves: the state once it is refused or cannot reach its data, else what goes on.
(DEDUCED, log entry 58) -/
def peatCmd (c : Cmd) (wr : Bool) (s : State) (go : State → State) : State :=
  if s.hostGone (c.addr 3) then s.paramError c
  else
    match s.peatRingCause (c.p 0) (c.p 1) (c.p 2) (c.addr 5) wr with
    | (some k, s) => (s.peatRefuse 0x14 k).refused c k
    | (none, s) => go s

/-- PEAT_READ (R344). -/
def cmdPeatRead (c : Cmd) (s : State) : State :=
  peatCmd c false s fun s =>
    if !s.canWrite (c.addr 3) (c.p 2) then s.paramError c
    else
      let r := s.peatWords (partOff (c.p 0) + c.p 1) (c.p 2 / 4)
      (r.2.hostWrite (c.addr 3) (bytesOf r.1)).done c

/-- PEAT_WRITE (R339, R344): the data, then a store, with which it completes. -/
def cmdPeatWrite (c : Cmd) (s : State) : State :=
  peatCmd c true s fun s =>
    match s.hostRead (c.addr 3) (c.p 2) with
    | (none, s) => s.paramError c
    | (some bs, s) => s.sramWrite (partOff (c.p 0) + c.p 1) bs (some c.uid)

/-! ### Firmware and freeze -/

/-- FW_STAGE (R362); `fail`: a flash program or erase fails. The slot is erased, and the image programmed and checked once the poll
that follows has ended (R311); a second one meanwhile is refused. It waits while the port polls for the host.
(DEDUCED, log entry 58) -/
def cmdFwStage (fail : Bool) (c : Cmd) (s : State) : State :=
  let k := 1 - s.ao.slot
  if s.ao.stage.isSome then (s.fwCause 4).refused c 4
  else
    match s.hostRead (c.addr 0) 256 with
    | (none, s) => s.paramError c
    | (some head, s) =>
      if c.p 2 != 256 + leNat ((head.drop 12).take 4) || 0x400000 < c.p 2 then s.refused c 1
      else
        match s.hostRead (c.addr 0) (c.p 2) with
        | (none, s) => s.paramError c
        | (some bs, s) =>
          let s := (s.programSlot k [] false).modAo fun a => { a with staged := none, stage := some (c.uid, k, fail, bs) }
          (s.setFld R.spiFlStat (s.fld R.spiFlStat ||| 8)).pollStart

/-- FW_SWITCH (R363 steps 1 and 2): it completes when the new image reports ready, or is refused when it does not. -/
def cmdFwSwitch (c : Cmd) (s : State) : State :=
  if s.ao.stage.isSome then (s.fwCause 4).refused c 4
  else match s.ao.staged with
  | none => (s.fwCause 5).refused c 5
  | some k =>
    let pref := (s.dirInUse.map fun d => nbits (s.dirWord d 1) 0 1).getD s.ao.slot
    ((s.dirWrite k true).setFld R.sysStatTrial 1).modAo fun a => { a with sw := some (some c.uid), prefWas := pref }

/-- FREEZE (R370). -/
def cmdFreeze (c : Cmd) (s : State) : State := s.freezeLatch.done c

/-- THAW (R370, R376): it completes at the first tick after the thaw, or at once while nothing is frozen.
(DEDUCED, log entry 40) -/
def cmdThaw (c : Cmd) (s : State) : State :=
  if s.ao.frozen then (s.modAo fun a => { a with thawCmds := a.thawCmds ++ [c.uid] }).thawLatch
  else s.thawLatch.done c

/-! ### The commands -/

/-- UNKNOWN_OPCODE (R285). -/
def execUnknownOpcode (src : Fin 10) (s : State) := ok (whenUp (unknownOpcode src)) s
/-- NOP (R285). -/
def execCmdNop (src : Fin 10) (s : State) := ok (whenUp (startCmd 0x00 cmdNop src)) s
/-- IDENTIFY (R285). -/
def execIdentify (src : Fin 10) (s : State) :=
  ok (whenUp (startWhen (fun c s => s.memReady (c.addr 0)) 0x01 cmdIdentify src)) s
/-- REG_READ (R285). -/
def execRegRead (src : Fin 10) (s : State) := ok (whenUp (startCmd 0x02 cmdRegRead src)) s
/-- REG_WRITE (R285). -/
def execRegWrite (src : Fin 10) (s : State) := ok (whenUp (startCmd 0x03 cmdRegWrite src)) s
/-- TICK_SET (R285). -/
def execTickSet (src : Fin 10) (s : State) := ok (whenUp (startCmd 0x04 cmdTickSet src)) s
/-- HEAD_CONFIG (R285). -/
def execHeadConfig (src : Fin 10) (s : State) := ok (whenUp (startLive 0x10 cmdHeadConfig src)) s
/-- HEAD_ATTACH (R61). -/
def execHeadAttach (src : Fin 10) (s : State) := ok (whenUp (startLive 0x11 cmdHeadAttach src)) s
/-- HEAD_START (R62). -/
def execHeadStart (src : Fin 10) (s : State) := ok (whenUp (startLive 0x12 cmdHeadStart src)) s
/-- HEAD_DETACH (R63), which a thermal shutdown does not hold (R331). -/
def execHeadDetach (src : Fin 10) (s : State) := ok (whenUp (startWhen (fun _ s => !s.ao.frozen) 0x13 cmdHeadDetach src)) s
/-- HEAD_LINK (R305). -/
def execHeadLink (src : Fin 10) (s : State) := ok (whenUp (startWhen (fun _ s => !s.ao.frozen) 0x14 cmdHeadLink src)) s
/-- AFE_TRAIN (R92). -/
def execAfeTrain (src : Fin 10) (s : State) := ok (whenUp (startLive 0x18 cmdAfeTrain src)) s
/-- AFE_SWAP (R92). -/
def execAfeSwap (src : Fin 10) (s : State) := ok (whenUp (startLive 0x19 cmdAfeSwap src)) s
/-- AFE_REQUALIFY (R92). -/
def execAfeRequalify (src : Fin 10) (s : State) := ok (whenUp (startLive 0x1A cmdAfeRequalify src)) s
/-- TABLE_OPEN (R119). -/
def execTableOpen (src : Fin 10) (s : State) := ok (whenUp (startLive 0x20 cmdTableOpen src)) s
/-- TABLE_CLOSE (R119). -/
def execTableClose (src : Fin 10) (s : State) := ok (whenUp (startLive 0x21 cmdTableClose src)) s
/-- TABLE_ACTIVATE (R121). -/
def execTableActivate (src : Fin 10) (s : State) := ok (whenUp (startLive 0x22 cmdTableActivate src)) s
/-- SHUTTER (R124). -/
def execShutter (src : Fin 10) (s : State) := ok (whenUp (startLive 0x23 cmdShutter src)) s
/-- SHUTTER_ABORT (R135). -/
def execShutterAbort (src : Fin 10) (s : State) := ok (whenUp (startLive 0x24 cmdShutterAbort src)) s
/-- OUTPUT_SET (R285). -/
def execOutputSet (src : Fin 10) (s : State) := ok (whenUp (startLive 0x28 cmdOutputSet src)) s
/-- EMISSIVITY (R112). -/
def execEmissivity (src : Fin 10) (s : State) := ok (whenUp (startLive 0x29 cmdEmissivity src)) s
/-- ACT_SETUP (R285). -/
def execActSetup (src : Fin 10) (s : State) := ok (whenUp (startLive 0x30 cmdActSetup src)) s
/-- ACT_START (R147). -/
def execActStart (src : Fin 10) (s : State) := ok (whenUp (startLive 0x31 cmdActStart src)) s
/-- ACT_STOP (R157). -/
def execActStop (src : Fin 10) (s : State) := ok (whenUp (startLive 0x32 cmdActStop src)) s
/-- ACT_CLEAR (R154). -/
def execActClear (src : Fin 10) (s : State) := ok (whenUp (startLive 0x33 cmdActClear src)) s
/-- ENG_RELOAD (R184). -/
def execEngReload (src : Fin 10) (s : State) := ok (whenUp (startLive 0x38 cmdEngReload src)) s
/-- ENG_DECLARE (R173). -/
def execEngDeclare (src : Fin 10) (s : State) := ok (whenUp (startLive 0x39 cmdEngDeclare src)) s
/-- ENG_REQUALIFY (R183). -/
def execEngRequalify (src : Fin 10) (s : State) := ok (whenUp (startLive 0x3A cmdEngRequalify src)) s
/-- ENG_BROADCAST (R186). -/
def execEngBroadcast (src : Fin 10) (s : State) := ok (whenUp (startLive 0x3B cmdEngBroadcast src)) s
/-- TASK_WISOA (R189). -/
def execTaskWisoa (src : Fin 10) (s : State) := ok (whenUp (startLive 0x3C cmdTaskWisoa src)) s
/-- VID_INLINE (R196). -/
def execVidInline (src : Fin 10) (s : State) := ok (whenUp (startLive 0x40 cmdVidInline src)) s
/-- VID_TONE (R199). -/
def execVidTone (src : Fin 10) (s : State) := ok (whenUp (startLive 0x41 cmdVidTone src)) s
/-- VID_LAYERS (R206). -/
def execVidLayers (src : Fin 10) (s : State) := ok (whenUp (startLive 0x42 cmdVidLayers src)) s
/-- VID_L3 (R209). -/
def execVidL3 (src : Fin 10) (s : State) := ok (whenUp (startLive 0x43 cmdVidL3 src)) s
/-- VID_OUT (R213). -/
def execVidOut (src : Fin 10) (s : State) := ok (whenUp (startLive 0x44 cmdVidOut src)) s
/-- VID_RX (R202). -/
def execVidRx (src : Fin 10) (s : State) := ok (whenUp (startLive 0x45 cmdVidRx src)) s
/-- MEM_TICKETS (R232). -/
def execMemTickets (src : Fin 10) (s : State) := ok (whenUp (startLive 0x48 cmdMemTickets src)) s
/-- DMA_COPY (R285). -/
def execDmaCopy (src : Fin 10) (s : State) := ok (whenUp (startLive 0x50 cmdDmaCopy src)) s
/-- DMA_ABORT (R256). -/
def execDmaAbort (src : Fin 10) (s : State) := ok (whenUp (startLive 0x51 cmdDmaAbort src)) s
/-- STREAM_BIND (R282). -/
def execStreamBind (src : Fin 10) (s : State) := ok (whenUp (startLive 0x58 cmdStreamBind src)) s
/-- STREAM_UNBIND (R285). -/
def execStreamUnbind (src : Fin 10) (s : State) := ok (whenUp (startCmd 0x59 cmdStreamUnbind src)) s
/-- THERM_CAP (R326). -/
def execThermCap (src : Fin 10) (s : State) := ok (whenUp (startCmd 0x60 cmdThermCap src)) s
/-- PEAT_READ (R344). -/
def execPeatRead (src : Fin 10) (s : State) :=
  ok (whenUp (startWhen (fun c s => s.memReady (c.addr 3)) 0x68 cmdPeatRead src)) s
/-- PEAT_WRITE (R339). -/
def execPeatWrite (src : Fin 10) (s : State) :=
  ok (whenUp (startWhen (fun c s => s.memReady (c.addr 3)) 0x69 cmdPeatWrite src)) s
/-- FW_STAGE (R362). -/
def execFwStage (src : Fin 10) (fail : Bool) (s : State) :=
  let ready := fun (c : Cmd) (s : State) => !s.ao.frozen && s.memReady (c.addr 0) && (!s.flash.polling || s.ao.stage.isSome)
  ok (whenUp (startWhen ready 0x70 (cmdFwStage fail) src)) s
/-- FW_SWITCH (R363). -/
def execFwSwitch (src : Fin 10) (s : State) := ok (whenUp (startCmd 0x71 cmdFwSwitch src)) s
/-- FREEZE (R370). -/
def execFreeze (src : Fin 10) (s : State) := ok (whenUp (startCmd 0x78 cmdFreeze src)) s
/-- THAW (R370). -/
def execThaw (src : Fin 10) (s : State) := ok (whenUp (startCmd 0x79 cmdThaw src)) s

end Sys2Proof.Machine
end

