-- ==== Sys2Proof/Machine/Mgmt.lean ====
section
/-!
DEFINITION. The management port (R293 to R301) and the JTAG debug register (R375).
-/
namespace Sys2Proof.Machine

def State.modMgmt (s : State) (f : Mgmt → Mgmt) : State := { s with mgmt := f s.mgmt }

/-! ### Frames -/

/-- Can OP 0 to 2 be served (R295)? -/
def State.mgmtReady (s : State) : Bool := s.ao.up && !s.ao.frozen

/-- The status byte (R295). -/
def State.mgmtStatus (s : State) : Nat :=
  let irq : Bool := s.ao.up && 2 ≤ s.mbxStat
  128 + s.statCode * 16 + (if s.mgmtReady then 8 else 0) + (if irq then 4 else 0) + (if s.mgmt.err then 2 else 0)

/-- The bytes of a word, most significant first (R293). -/
def msBytes (w : Nat) : List Nat := [w / 2 ^ 24 % 256, w / 65536 % 256, w / 256 % 256, w % 256]
/-- The complete words of a frame's data. -/
def msWords : List Nat → List Nat
  | a :: b :: c :: d :: t => (((a * 256 + b) * 256 + c) * 256 + d) :: msWords t
  | _ => []

/-- Does the port ignore the line until `MSEL_N` has been high (R301)? -/
def State.mgmtDeaf (s : State) : Bool := s.mgmt.deaf

/-- Set a bit of SPI_MGMT_STAT. -/
def State.mgmtStatBit (s : State) (k : Nat) : State :=
  let v := s.fld R.spiMgmtStat
  if nbits v k 1 = 1 then s else s.setFld R.spiMgmtStat (v + 2 ^ k)

/-- A frame is over: counted, with the bytes it sent, and what the next status byte says of it. -/
def State.frameOver (s : State) (status : Nat) (sent : List Nat) (err : Bool) : State :=
  let s := if s.ao.up then s.bump R.spiMgmtFrames else s
  s.modMgmt fun _ => { err, miso := status :: sent }

/-- A frame is rejected (R299). -/
def State.mgmtReject (s : State) : State :=
  if s.ao.up then (s.mgmtStatBit 0).bump R.spiMgmtRej else s

/-- The words a read frame sends (R296, R297): each is fetched while the word before it shifts out, so before that word's
side effect; the effect follows the last bit of its own word. `rd i`: value, refused, state after the effect. A word that is not
ready in time, named by its place from p on in the frame, goes out as zero and takes no effect, as no value was fetched for it.
(DEDUCED, log entry 56) -/
def readRun (rd : Nat → State → Nat × Bool × State) (late : List Nat) : Nat → Nat → Nat → Nat → State → List Nat × Bool × State
  | 0, _, _, _, s => ([], false, s)
  | k + 1, p, i, v, s =>
    let next := (rd (i + 1) s).1
    if late.contains p then
      let t := readRun rd late k (p + 1) (i + 1) next s
      (0 :: t.1, true, t.2.2)
    else
      let r := rd i s
      let t := readRun rd late k (p + 1) (i + 1) next r.2.2
      (v :: t.1, r.2.1 || t.2.1, t.2.2)

/-- R301: the frame times out after the bytes it has sent: it is aborted, and the port deaf until `MSEL_N` has been high.
(DEDUCED, log entry 56) -/
def State.mgmtAbort (s : State) (sent : List Nat) : State :=
  let s := s.modMgmt fun _ => { err := true, miso := sent, deaf := true }
  if s.ao.up then
    (((((s.bump R.spiMgmtFrames).mgmtStatBit 2).setFld R.spiMgmtStatSellow 1).bump R.spiMgmtTimeouts).raise 0x0F01 0)
  else s

/-- A read frame: the fetch word, then its words from an index upward, of which the first `live` are served. -/
def State.mgmtSend (s : State) (rd : Nat → State → Nat × Bool × State) (idx live : Nat) (f : Nat × List Nat × Bool × Nat) : State :=
  let st := s.mgmtStatus
  let n := min live f.1
  let r := readRun rd f.2.1 n 0 idx (rd idx s).1 s
  let t := if r.2.2.ao.up && f.2.1.any (· < n) then r.2.2.mgmtStatBit 3 else r.2.2
  let sent := (0 :: r.1 ++ List.replicate (f.1 - n) 0).flatMap msBytes
  if f.2.2.1 then t.mgmtAbort (st :: sent) else t.frameOver st sent (r.2.1 || decide (n < f.1))

/-- R296: OP 0. While the core domain cannot serve it the words read zero, and so do those after a freeze that falls in the frame,
of which f tells how many went before, plus 1 (R300, R316). (DEDUCED, log entry 56) -/
def mgmtRead (idx : Nat) (f : Nat × List Nat × Bool × Nat) (s : State) : State :=
  if s.mgmtDeaf then s
  else if !s.mgmtReady then
    let sent := List.replicate (4 * (f.1 + 1)) 0
    if f.2.2.1 then s.mgmtAbort (s.mgmtStatus :: sent) else s.frameOver s.mgmtStatus sent true
  else
    let page := s.fld R.spiMgmtPage
    s.mgmtSend (fun i s => s.readReg (page * 256 + 4 * (i % 64))) idx (if f.2.2.2 = 0 then f.1 else f.2.2.2 - 1) f

/-- The words a write frame applies, or none where it is rejected (R299). -/
def State.frameWords (s : State) (data : List Nat) : Option (List Nat) :=
  if 256 < data.length || (data.length % 4 != 0 && s.fld R.spiMgmtCfgRelmode = 0) then none else some (msWords data)

/-- R371: the words of a write frame that are meant for a frozen block are latched in SYS_ERR. (DEDUCED, log entry 56) -/
def State.frozenWords (s : State) (idx : Nat) (data : List Nat) : State :=
  let offs := (List.range ((s.frameWords data).getD []).length).map fun i => s.fld R.spiMgmtPage * 256 + 4 * ((idx + i) % 64)
  (offs.filter fun o => (locate o).any (·.blk.freezes)).foldl (fun (s : State) o => s.latch R.sysErr 12 o (2 ^ 16)) s

/-- R299: OP 1. `cut`: a freeze falls in the frame, before MSEL_N rises, and it is not applied (R300, R316). -/
def mgmtWrite (idx : Nat) (data : List Nat) (cut : Bool) (s : State) : State :=
  let st := s.mgmtStatus
  let sent := List.replicate data.length 0
  if s.mgmtDeaf then s
  else if !s.mgmtReady || cut then (if s.ao.up then s.frozenWords idx data else s).frameOver st sent true
  else
    match s.frameWords data with
    | none => s.mgmtReject.frameOver st sent true
    | some ws =>
      let page := s.fld R.spiMgmtPage
      let r := ws.zipIdx.foldl (fun (a : Bool × State) (w : Nat × Nat) =>
        match a.2.writeReg (page * 256 + 4 * ((idx + w.2) % 64)) w.1 with
        | (some _, s) => (true, s.mgmtStatBit 1)
        | (none, s) => (a.1, s)) (false, s)
      r.2.frameOver st sent r.1

/-- R298: OP 2. `cut`: as for OP 1. -/
def mgmtPageSet (idx : Nat) (data : List Nat) (cut : Bool) (s : State) : State :=
  let st := s.mgmtStatus
  let sent := List.replicate data.length 0
  if s.mgmtDeaf then s
  else if !s.mgmtReady || cut then s.frameOver st sent true
  else
    match msWords data with
    | [w] =>
      if idx != 0 || data.length != 4 || w / 65536 != 0 then s.mgmtReject.frameOver st sent true
      else (s.setFld R.spiMgmtPage w).frameOver st sent false
    | _ => s.mgmtReject.frameOver st sent true

/-- The read of an always-on word and its side effect (R378); the indices above 31 read zero. (DEDUCED, log entry 56) -/
def State.aoRead (s : State) (i : Nat) : Nat × Bool × State :=
  let w := i % 64
  let v := s.aoWord w
  (v, false, if w = 5 then { aoPoweredNsLoRead s with reply := s.reply } else if w = 31 then aoSnapDataRead s else s)

/-- R294: OP 3 with INDEX 0 to 31. -/
def mgmtAoRead (idx : Nat) (f : Nat × List Nat × Bool × Nat) (s : State) : State :=
  if s.mgmtDeaf then s else s.mgmtSend (fun i s => s.aoRead i) idx f.1 f

/-- R294, R378: OP 3 with INDEX 32 to 63; a refused word shows ERR in the next status byte. -/
def mgmtAoWrite (w : Nat) (data : List Nat) (s : State) : State :=
  let st := s.mgmtStatus
  let sent := List.replicate data.length 0
  if s.mgmtDeaf then s
  else
    match s.frameWords data with
    | none => s.mgmtReject.frameOver st sent true
    | some ws =>
      let r := ws.zipIdx.foldl (fun (a : Bool × State) (x : Nat × Nat) =>
        let b := a.2.aoWrite ((w + x.2) % 32) x.1
        (a.1 || !b.1, b.2)) (false, s)
      r.2.frameOver st sent r.1

/-- R301: a frame that has clocked no complete word, or one that writes, times out; a read frame that times out after words it
has sent is a MGMT_READ or MGMT_AO_READ that says so. -/
def mgmtTimeout (s : State) : State := if s.mgmtDeaf then s else s.mgmtAbort []

/-- R301: `MSEL_N` has been high for 40 ns. -/
def mgmtSellowClear (s : State) : State :=
  let s := s.modMgmt fun x => { x with deaf := false }
  if s.ao.up then s.setFld R.spiMgmtStatSellow 0 else s

/-- The command byte of an OP and an INDEX (R294). -/
def mgmtByte (op idx : Nat) : Byte := BitVec.ofNat 8 (64 * op + idx)

/-- R294: a whole frame by its command byte, OP in [7:6] and INDEX in [5:0], and the bytes after it: a page read, a page write, a
page set, or an access to the always-on words, whose direction bit 5 of INDEX gives. A read's bytes only clock out its fetch word
and its words; `x` holds its late words, whether it times out, and the words before a freeze, plus 1. -/
def mgmtFrame (cmd : Byte) (data : List Byte) (x : List Nat × Bool × Nat) : State → State :=
  let i := cmd.toNat % 64
  let f := (data.length / 4 - 1, x)
  let bs := data.map (·.toNat)
  match cmd.toNat / 64 with
  | 0 => mgmtRead i f
  | 1 => mgmtWrite i bs (x.2.2 != 0)
  | 2 => mgmtPageSet i bs (x.2.2 != 0)
  | _ => if i < 32 then mgmtAoRead i f else mgmtAoWrite (i - 32) bs

/-- A frame on the port's balls: nothing without VIO33, and nothing while EXTEST has them (R375). -/
def mgmtArrive (op idx : Nat) (data : List Byte) (x : List Nat × Bool × Nat) : State → State :=
  whenPowered (whenBalls (mgmtFrame (mgmtByte op idx) data x))

/-- The bytes that clock out the fetch word and n words; the host sends zero (R294). -/
def mgmtClocks (n : Nat) : List Byte := List.replicate (4 * (n + 1)) 0

/-! ### The debug register (R375) -/

/-- Where a device word lies for the debug port. -/
inductive DbgPlace where
  | dram | regs (o : Nat) | mire (prog : Bool) (m : Nat) | xip (o : Nat) | none
  deriving DecidableEq, Repr

def dbgPlace (a : Nat) : DbgPlace :=
  if 0x2000000000 ≤ a && a < 0x2001000000 then .regs (a % 2 ^ 24)
  else if a % 4 != 0 then .none
  else if a < 0x1000000000 then .dram
  else if 0x1000000000 ≤ a && a < 0x1008000000 then
    let o := a % 0x1000000
    if o < 0x280000 then .mire false (a / 0x1000000 % 16)
    else if 0x800000 ≤ o && o < 0x860000 then .mire true (a / 0x1000000 % 16) else .none
  else if xipBase ≤ a && a < xipBase + 2 ^ 29 then .xip (a - xipBase)
  else .none

/-- The read operation at Update-DR: the word is answered in the register with its status: 0 done, 1 busy while the flash port
cannot read or a thermal shutdown holds the access, 2 refused under R6 or R218. A word of an engine memory with an uncorrectable
error reads as a free value. (DESIGN CHOICE, log entry 42; DEDUCED, log entry 84) -/
def debugReadWord (a : Nat) (s : State) : State :=
  let fin (s : State) (v status : Nat) : State := { s.setDebug a v 1 status with reply := [v] }
  match dbgPlace a with
  | .regs o =>
    let r := s.readReg o
    fin r.2.2 r.1 (if badRead o then 2 else 0)
  | .dram => debugWord false a 0 s
  | .mire _ _ =>
    if (s.engMet 2 a 4).isEmpty then fin (s.engCorrect a 4) (s.rd a 4) 0
    else fin s.fresh (Config.freeVal s.freeCtr % 2 ^ 32) 0
  | .xip o =>
    if s.ao.frozen || s.flash.polling || s.flBusy then fin s 0 1
    else
      match s.xipRead false o 4 with
      | (some bs, s) => fin s (leNat bs) 0
      | (none, s) => fin s 0 2
  | .none => fin s 0 2

/-- The write operation at Update-DR. -/
def debugWriteWord (a v : Nat) (s : State) : State :=
  match dbgPlace a with
  | .regs o => (s.writeReg o v).2.setDebug a v 2 (if badAccess o then 2 else 0)
  | .dram => debugWord true a v s
  | .mire prog m =>
    if prog && s.flag (R.engMireCtlEn m) then s.setDebug a v 2 2 else ((s.engCorrect a 4).engStore a (leBytes 4 v)).setDebug a v 2 0
  | .xip _ | .none => s.setDebug a v 2 2

/-- Operations 0, which runs nothing, and 3, which is refused (R375): the register holds what was shifted in. -/
def debugIdle (a v : Nat) (refused : Bool) (s : State) : State := s.setDebug a v (if refused then 3 else 0) (if refused then 2 else 0)

/-- While the core domain is down the debug port reaches nothing: refused. (DESIGN CHOICE, log entry 42) -/
def whenDebug (a v op : Nat) (f : State → State) (s : State) : State := if s.ao.up then f s else s.setDebug a v op 2

/-! ### The commands -/

/-- MGMT_READ (R296). -/
def execMgmtRead (idx : Fin 64) (f : Nat × List Nat × Bool × Nat) (s : State) := ok (mgmtArrive 0 idx (mgmtClocks f.1) f.2) s
/-- MGMT_WRITE (R299). -/
def execMgmtWrite (idx : Fin 64) (data : List (BitVec 8) × Bool) (s : State) :=
  ok (mgmtArrive 1 idx data.1 ([], false, if data.2 then 1 else 0)) s
/-- MGMT_PAGE_SET (R298). -/
def execMgmtPageSet (idx : Fin 64) (data : List (BitVec 8) × Bool) (s : State) :=
  ok (mgmtArrive 2 idx data.1 ([], false, if data.2 then 1 else 0)) s
/-- MGMT_AO_READ (R294). -/
def execMgmtAoRead (w : Fin 32) (f : Nat × List Nat × Bool × Nat) (s : State) := ok (mgmtArrive 3 w (mgmtClocks f.1) f.2) s
/-- MGMT_AO_WRITE (R378). -/
def execMgmtAoWrite (w : Fin 32) (data : List (BitVec 8)) (s : State) :=
  ok (mgmtArrive 3 (32 + w) data ([], false, 0)) s
/-- MGMT_TIMEOUT (R301). -/
def execMgmtTimeout (s : State) := ok (whenPowered (whenBalls mgmtTimeout)) s
/-- MGMT_SELLOW_CLEAR (R301). -/
def execMgmtSellowClear (s : State) := ok (whenPowered (whenBalls mgmtSellowClear)) s
/-- DEBUG_READ_WORD (R375): the read operation, or with a data word one of the operations 0 and 3. -/
def execDebugReadWord (a : BitVec 64 × Option (BitVec 32 × Bool)) (s : State) :=
  ok (whenPowered (match a.2 with
    | none => whenDebug a.1.toNat 0 1 (debugReadWord a.1.toNat)
    | some v => debugIdle a.1.toNat v.1.toNat v.2)) s
/-- DEBUG_WRITE_WORD (R375). -/
def execDebugWriteWord (a : BitVec 64) (v : BitVec 32) (s : State) :=
  ok (whenPowered (whenDebug a.toNat v.toNat 2 (debugWriteWord a.toNat v.toNat))) s

end Sys2Proof.Machine
end

