-- ==== Sys2Proof/Machine/Dispatch.lean ====
section
/-!
DEFINITION. The effect of each command: one arm per row of the opcode table, each one call of its meaning.
-/
namespace Sys2Proof.Machine

/-- The effect of a command on everything but the queue. -/
def exec (i : Instr) (s : State) : Host.Outcome State Fault Refusal :=
  match i with
  | .registerWrite o w word fw => Sys2Proof.Machine.execRegisterWrite o w word fw s
  | .baseHiWrite o w fw => Sys2Proof.Machine.execBaseHiWrite o w fw s
  | .tickEnable => Sys2Proof.Machine.execTickEnable s
  | .timerTick => Sys2Proof.Machine.execTimerTick s
  | .fsyncInPulse t => Sys2Proof.Machine.execFsyncInPulse t s
  | .fsyncWindowMiss => Sys2Proof.Machine.execFsyncWindowMiss s
  | .tickSourceLost => Sys2Proof.Machine.execTickSourceLost s
  | .fsyncOutPulseEnd => Sys2Proof.Machine.execFsyncOutPulseEnd s
  | .commitPoint => Sys2Proof.Machine.execCommitPoint s
  | .engineBarrierRelease => Sys2Proof.Machine.execEngineBarrierRelease s
  | .tsyncInEdge t => Sys2Proof.Machine.execTsyncInEdge t s
  | .tickPoweredNsLoRead => Sys2Proof.Machine.execTickPoweredNsLoRead s
  | .hdetNChange h high t => Sys2Proof.Machine.execHdetNChange h high t s
  | .presenceAccepted h => Sys2Proof.Machine.execPresenceAccepted h s
  | .headPwrSettleElapsed h => Sys2Proof.Machine.execHeadPwrSettleElapsed h s
  | .biasRampDone h => Sys2Proof.Machine.execBiasRampDone h s
  | .headTimingStart h => Sys2Proof.Machine.execHeadTimingStart h s
  | .headBiasWrite h k code => Sys2Proof.Machine.execHeadBiasWrite h k code s
  | .biasFault h k => Sys2Proof.Machine.execBiasFault h k s
  | .headClkStart h => Sys2Proof.Machine.execHeadClkStart h s
  | .headClkStop h => Sys2Proof.Machine.execHeadClkStop h s
  | .headCtlRunStart h => Sys2Proof.Machine.execHeadCtlRunStart h s
  | .headCtlRunDetach h => Sys2Proof.Machine.execHeadCtlRunDetach h s
  | .headStartCommit h => Sys2Proof.Machine.execHeadStartCommit h s
  | .detachCommit h => Sys2Proof.Machine.execDetachCommit h s
  | .drainComplete h => Sys2Proof.Machine.execDrainComplete h s
  | .detachComplete h => Sys2Proof.Machine.execDetachComplete h s
  | .headFrameStart h => Sys2Proof.Machine.execHeadFrameStart h s
  | .referenceEvaluation h => Sys2Proof.Machine.execReferenceEvaluation h s
  | .acodeLoad h r c => Sys2Proof.Machine.execAcodeLoad h r c s
  | .pixelConversion h r j k v o err => Sys2Proof.Machine.execPixelConversion h r j k v o err s
  | .calRow h r codes stand => Sys2Proof.Machine.execCalRow h r codes stand s
  | .calResult h l => Sys2Proof.Machine.execCalResult h l s
  | .sliceFailing h l => Sys2Proof.Machine.execSliceFailing h l s
  | .spareCalResult h l codes errs => Sys2Proof.Machine.execSpareCalResult h l codes errs s
  | .hardFaultDetected h l => Sys2Proof.Machine.execHardFaultDetected h l s
  | .stuckDetected h l => Sys2Proof.Machine.execStuckDetected h l s
  | .takeover h => Sys2Proof.Machine.execTakeover h s
  | .spareTakesTap h l r => Sys2Proof.Machine.execSpareTakesTap h l r s
  | .requalifyDone h l t => Sys2Proof.Machine.execRequalifyDone h l t s
  | .trainingStart h => Sys2Proof.Machine.execTrainingStart h s
  | .thresholdTrainingResult h l errs lost => Sys2Proof.Machine.execThresholdTrainingResult h l errs lost s
  | .phaseTrainingResult h tap steps lost => Sys2Proof.Machine.execPhaseTrainingResult h tap steps lost s
  | .trainingDone h => Sys2Proof.Machine.execTrainingDone h s
  | .afeCmdTrain g => Sys2Proof.Machine.execAfeCmdTrain g s
  | .afeCmdSwap g l => Sys2Proof.Machine.execAfeCmdSwap g l s
  | .afeCmdRequalify g l => Sys2Proof.Machine.execAfeCmdRequalify g l s
  | .rowFetchIssue h no q => Sys2Proof.Machine.execRowFetchIssue h no q s
  | .rowFetchDone h q => Sys2Proof.Machine.execRowFetchDone h q s
  | .pixelCorrection h r c => Sys2Proof.Machine.execPixelCorrection h r c s
  | .lateFillDone h r c => Sys2Proof.Machine.execLateFillDone h r c s
  | .rowComplete h r => Sys2Proof.Machine.execRowComplete h r s
  | .frameLanded h => Sys2Proof.Machine.execFrameLanded h s
  | .corrLoffWrite h v => Sys2Proof.Machine.execCorrLoffWrite h v s
  | .corrBankGenWrite h b gen => Sys2Proof.Machine.execCorrBankGenWrite h b gen s
  | .calCmdRequest h => Sys2Proof.Machine.execCalCmdRequest h s
  | .calCmdAbort h => Sys2Proof.Machine.execCalCmdAbort h s
  | .calCmdLoadOpen h b => Sys2Proof.Machine.execCalCmdLoadOpen h b s
  | .calCmdLoadClose h b => Sys2Proof.Machine.execCalCmdLoadClose h b s
  | .calCmdActivate h b gen => Sys2Proof.Machine.execCalCmdActivate h b gen s
  | .lutRefillDone h => Sys2Proof.Machine.execLutRefillDone h s
  | .activationCommit h => Sys2Proof.Machine.execActivationCommit h s
  | .calIntervalTrigger h => Sys2Proof.Machine.execCalIntervalTrigger h s
  | .calRequestCommit h => Sys2Proof.Machine.execCalRequestCommit h s
  | .calClosingStart h => Sys2Proof.Machine.execCalClosingStart h s
  | .calClosingEnd h => Sys2Proof.Machine.execCalClosingEnd h s
  | .calPositionTimeout h => Sys2Proof.Machine.execCalPositionTimeout h s
  | .calSettleDone h => Sys2Proof.Machine.execCalSettleDone h s
  | .calAverageFrame h r c => Sys2Proof.Machine.execCalAverageFrame h r c s
  | .calBuildFrameStart h => Sys2Proof.Machine.execCalBuildFrameStart h s
  | .calVerdict h => Sys2Proof.Machine.execCalVerdict h s
  | .calOpeningEnd h => Sys2Proof.Machine.execCalOpeningEnd h s
  | .calOpenSettleDone h => Sys2Proof.Machine.execCalOpenSettleDone h s
  | .calLiveFrame h => Sys2Proof.Machine.execCalLiveFrame h s
  | .abandonHoldExpired h => Sys2Proof.Machine.execAbandonHoldExpired h s
  | .tableRepair h b idx => Sys2Proof.Machine.execTableRepair h b idx s
  | .radiometricRepair h b => Sys2Proof.Machine.execRadiometricRepair h b s
  | .actCmdStart c slot atTick => Sys2Proof.Machine.execActCmdStart c slot atTick s
  | .actCmdStop c => Sys2Proof.Machine.execActCmdStop c s
  | .actCmdClear c => Sys2Proof.Machine.execActCmdClear c s
  | .actStartAtTick c => Sys2Proof.Machine.execActStartAtTick c s
  | .actMinoffElapsed c => Sys2Proof.Machine.execActMinoffElapsed c s
  | .actQueueRelease => Sys2Proof.Machine.execActQueueRelease s
  | .actPhaseEnd r => Sys2Proof.Machine.execActPhaseEnd r s
  | .actProfileEnd c x q => Sys2Proof.Machine.execActProfileEnd c x q s
  | .actuatorFault c m => Sys2Proof.Machine.execActuatorFault c m s
  | .aposChange c x => Sys2Proof.Machine.execAposChange c x s
  | .senseZeroCal c v => Sys2Proof.Machine.execSenseZeroCal c v s
  | .chargeBinAdvance c q x => Sys2Proof.Machine.execChargeBinAdvance c q x s
  | .actPhaseWrite c slot p w => Sys2Proof.Machine.execActPhaseWrite c slot p w s
  | .engNop e => Sys2Proof.Machine.execEngNop e s
  | .engAdd e => Sys2Proof.Machine.execEngAdd e s
  | .engSub e => Sys2Proof.Machine.execEngSub e s
  | .engMul e => Sys2Proof.Machine.execEngMul e s
  | .engAnd e => Sys2Proof.Machine.execEngAnd e s
  | .engOr e => Sys2Proof.Machine.execEngOr e s
  | .engXor e => Sys2Proof.Machine.execEngXor e s
  | .engShl e => Sys2Proof.Machine.execEngShl e s
  | .engShr e => Sys2Proof.Machine.execEngShr e s
  | .engSra e => Sys2Proof.Machine.execEngSra e s
  | .engSlt e => Sys2Proof.Machine.execEngSlt e s
  | .engLi e => Sys2Proof.Machine.execEngLi e s
  | .engRshr e => Sys2Proof.Machine.execEngRshr e s
  | .engSat e => Sys2Proof.Machine.execEngSat e s
  | .engLd e => Sys2Proof.Machine.execEngLd e s
  | .engSt e => Sys2Proof.Machine.execEngSt e s
  | .engAmo e => Sys2Proof.Machine.execEngAmo e s
  | .engFence e => Sys2Proof.Machine.execEngFence e s
  | .engBr e => Sys2Proof.Machine.execEngBr e s
  | .engCall e => Sys2Proof.Machine.execEngCall e s
  | .engJr e => Sys2Proof.Machine.execEngJr e s
  | .engLoop e => Sys2Proof.Machine.execEngLoop e s
  | .engCsr e => Sys2Proof.Machine.execEngCsr e s
  | .engDone e => Sys2Proof.Machine.execEngDone e s
  | .engTrap e => Sys2Proof.Machine.execEngTrap e s
  | .engBlkget e => Sys2Proof.Machine.execEngBlkget e s
  | .engBlkput e => Sys2Proof.Machine.execEngBlkput e s
  | .engWait e => Sys2Proof.Machine.execEngWait e s
  | .engVld e => Sys2Proof.Machine.execEngVld e s
  | .engVst e => Sys2Proof.Machine.execEngVst e s
  | .engVadd e => Sys2Proof.Machine.execEngVadd e s
  | .engVsub e => Sys2Proof.Machine.execEngVsub e s
  | .engVmulr e => Sys2Proof.Machine.execEngVmulr e s
  | .engVmac e => Sys2Proof.Machine.execEngVmac e s
  | .engVacc e => Sys2Proof.Machine.execEngVacc e s
  | .engVminmax e => Sys2Proof.Machine.execEngVminmax e s
  | .engVlogic e => Sys2Proof.Machine.execEngVlogic e s
  | .engVcmp e => Sys2Proof.Machine.execEngVcmp e s
  | .engVsh e => Sys2Proof.Machine.execEngVsh e s
  | .engVsplat e => Sys2Proof.Machine.execEngVsplat e s
  | .engVred e => Sys2Proof.Machine.execEngVred e s
  | .engVperm e => Sys2Proof.Machine.execEngVperm e s
  | .engVlut e => Sys2Proof.Machine.execEngVlut e s
  | .engVhist e => Sys2Proof.Machine.execEngVhist e s
  | .engVext e => Sys2Proof.Machine.execEngVext e s
  | .illegalInstruction e => Sys2Proof.Machine.execIllegalInstruction e s
  | .tileStart e => Sys2Proof.Machine.execTileStart e s
  | .blockTransferDone e tag => Sys2Proof.Machine.execBlockTransferDone e tag s
  | .engineFault e cause => Sys2Proof.Machine.execEngineFault e cause s
  | .taskDropped n => Sys2Proof.Machine.execTaskDropped n s
  | .engineRestart e => Sys2Proof.Machine.execEngineRestart e s
  | .governorBundle => Sys2Proof.Machine.execGovernorBundle s
  | .taskDeclare n => Sys2Proof.Machine.execTaskDeclare n s
  | .taskDeclareCommit => Sys2Proof.Machine.execTaskDeclareCommit s
  | .engCmdReload m => Sys2Proof.Machine.execEngCmdReload m s
  | .engCmdRequalify m j => Sys2Proof.Machine.execEngCmdRequalify m j s
  | .imageStaged m => Sys2Proof.Machine.execImageStaged m s
  | .reloadCommit m => Sys2Proof.Machine.execReloadCommit m s
  | .engineRequalifyDone e pass => Sys2Proof.Machine.execEngineRequalifyDone e pass s
  | .engBcastGo mask => Sys2Proof.Machine.execEngBcastGo mask s
  | .broadcastCommit => Sys2Proof.Machine.execBroadcastCommit s
  | .memoryPathFrame h => Sys2Proof.Machine.execMemoryPathFrame h s
  | .compositeDone h => Sys2Proof.Machine.execCompositeDone h s
  | .inlineLine => Sys2Proof.Machine.execInlineLine s
  | .vidInlineWrite h en => Sys2Proof.Machine.execVidInlineWrite h en s
  | .inlineChangeApply => Sys2Proof.Machine.execInlineChangeApply s
  | .inlineFallback => Sys2Proof.Machine.execInlineFallback s
  | .vidHeadCtlWrite h w => Sys2Proof.Machine.execVidHeadCtlWrite h w s
  | .paletteWrite p n v => Sys2Proof.Machine.execPaletteWrite p n v s
  | .rxPacket dt vc ecc crcOk data => Sys2Proof.Machine.execRxPacket dt vc ecc crcOk data s
  | .rxFrameEnd => Sys2Proof.Machine.execRxFrameEnd s
  | .visibleTimeout => Sys2Proof.Machine.execVisibleTimeout s
  | .l3Commit h hi => Sys2Proof.Machine.execL3Commit h hi s
  | .l3CopyDone h => Sys2Proof.Machine.execL3CopyDone h s
  | .txFrame h => Sys2Proof.Machine.execTxFrame h s
  | .dramBurst ch arr cut t => Sys2Proof.Machine.execDramBurst ch arr cut t s
  | .refresh => Sys2Proof.Machine.execRefresh s
  | .debugAccess wr a n data => Sys2Proof.Machine.execDebugAccess wr a n data s
  | .starvation n t => Sys2Proof.Machine.execStarvation n t s
  | .rebalance n => Sys2Proof.Machine.execRebalance n s
  | .ticketWrite n v => Sys2Proof.Machine.execTicketWrite n v s
  | .inheritWrite b => Sys2Proof.Machine.execInheritWrite b s
  | .etktWrite v => Sys2Proof.Machine.execEtktWrite v s
  | .requesterReset mask => Sys2Proof.Machine.execRequesterReset mask s
  | .scrubBlock table => Sys2Proof.Machine.execScrubBlock table s
  | .memRgnKindWrite k v => Sys2Proof.Machine.execMemRgnKindWrite k v s
  | .dmaDoorbell c fw => Sys2Proof.Machine.execDmaDoorbell c fw s
  | .dmaHeadWrite c hi fw => Sys2Proof.Machine.execDmaHeadWrite c hi fw s
  | .dmaCmdAbort c fw => Sys2Proof.Machine.execDmaCmdAbort c fw s
  | .dmaHaltClr => Sys2Proof.Machine.execDmaHaltClr s
  | .channelSelect => Sys2Proof.Machine.execChannelSelect s
  | .descriptorCheck => Sys2Proof.Machine.execDescriptorCheck s
  | .dmaChunk => Sys2Proof.Machine.execDmaChunk s
  | .descriptorComplete => Sys2Proof.Machine.execDescriptorComplete s
  | .busError cause a => Sys2Proof.Machine.execBusError cause a s
  | .sqTailDoorbell q w word => Sys2Proof.Machine.execSqTailDoorbell q w word s
  | .cqHeadDoorbell c w word => Sys2Proof.Machine.execCqHeadDoorbell c w word s
  | .bqTailDoorbell b w word => Sys2Proof.Machine.execBqTailDoorbell b w word s
  | .dqHeadDoorbell d w word => Sys2Proof.Machine.execDqHeadDoorbell d w word s
  | .ringEnable k => Sys2Proof.Machine.execRingEnable k s
  | .commandFetch q => Sys2Proof.Machine.execCommandFetch q s
  | .unknownOpcode src => Sys2Proof.Machine.execUnknownOpcode src s
  | .completionWrite c src => Sys2Proof.Machine.execCompletionWrite c src s
  | .msixCoalesceTimeout k => Sys2Proof.Machine.execMsixCoalesceTimeout k s
  | .cqStall c => Sys2Proof.Machine.execCqStall c s
  | .eventWrite => Sys2Proof.Machine.execEventWrite s
  | .frameDelivery n torn => Sys2Proof.Machine.execFrameDelivery n torn s
  | .nodataHeader n => Sys2Proof.Machine.execNodataHeader n s
  | .streamBindCommit h => Sys2Proof.Machine.execStreamBindCommit h s
  | .pcieReset => Sys2Proof.Machine.execPcieReset s
  | .linkRestored width rate => Sys2Proof.Machine.execLinkRestored width rate s
  | .bar4Access wr x n data => Sys2Proof.Machine.execBar4Access wr x n data s
  | .hostMbxGo => Sys2Proof.Machine.execHostMbxGo s
  | .hostMbxCpl3Read => Sys2Proof.Machine.execHostMbxCpl3Read s
  | .hostMbxEvt3Read => Sys2Proof.Machine.execHostMbxEvt3Read s
  | .cmdNop src => Sys2Proof.Machine.execCmdNop src s
  | .identify src => Sys2Proof.Machine.execIdentify src s
  | .regRead src => Sys2Proof.Machine.execRegRead src s
  | .regWrite src => Sys2Proof.Machine.execRegWrite src s
  | .tickSet src => Sys2Proof.Machine.execTickSet src s
  | .headConfig src => Sys2Proof.Machine.execHeadConfig src s
  | .headAttach src => Sys2Proof.Machine.execHeadAttach src s
  | .headStart src => Sys2Proof.Machine.execHeadStart src s
  | .headDetach src => Sys2Proof.Machine.execHeadDetach src s
  | .headLink src => Sys2Proof.Machine.execHeadLink src s
  | .afeTrain src => Sys2Proof.Machine.execAfeTrain src s
  | .afeSwap src => Sys2Proof.Machine.execAfeSwap src s
  | .afeRequalify src => Sys2Proof.Machine.execAfeRequalify src s
  | .tableOpen src => Sys2Proof.Machine.execTableOpen src s
  | .tableClose src => Sys2Proof.Machine.execTableClose src s
  | .tableActivate src => Sys2Proof.Machine.execTableActivate src s
  | .shutter src => Sys2Proof.Machine.execShutter src s
  | .shutterAbort src => Sys2Proof.Machine.execShutterAbort src s
  | .outputSet src => Sys2Proof.Machine.execOutputSet src s
  | .emissivity src => Sys2Proof.Machine.execEmissivity src s
  | .actSetup src => Sys2Proof.Machine.execActSetup src s
  | .actStart src => Sys2Proof.Machine.execActStart src s
  | .actStop src => Sys2Proof.Machine.execActStop src s
  | .actClear src => Sys2Proof.Machine.execActClear src s
  | .engReload src => Sys2Proof.Machine.execEngReload src s
  | .engDeclare src => Sys2Proof.Machine.execEngDeclare src s
  | .engRequalify src => Sys2Proof.Machine.execEngRequalify src s
  | .engBroadcast src => Sys2Proof.Machine.execEngBroadcast src s
  | .taskWisoa src => Sys2Proof.Machine.execTaskWisoa src s
  | .vidInline src => Sys2Proof.Machine.execVidInline src s
  | .vidTone src => Sys2Proof.Machine.execVidTone src s
  | .vidLayers src => Sys2Proof.Machine.execVidLayers src s
  | .vidL3 src => Sys2Proof.Machine.execVidL3 src s
  | .vidOut src => Sys2Proof.Machine.execVidOut src s
  | .vidRx src => Sys2Proof.Machine.execVidRx src s
  | .memTickets src => Sys2Proof.Machine.execMemTickets src s
  | .dmaCopy src => Sys2Proof.Machine.execDmaCopy src s
  | .dmaAbort src => Sys2Proof.Machine.execDmaAbort src s
  | .streamBind src => Sys2Proof.Machine.execStreamBind src s
  | .streamUnbind src => Sys2Proof.Machine.execStreamUnbind src s
  | .thermCap src => Sys2Proof.Machine.execThermCap src s
  | .peatRead src => Sys2Proof.Machine.execPeatRead src s
  | .peatWrite src => Sys2Proof.Machine.execPeatWrite src s
  | .fwStage src fail => Sys2Proof.Machine.execFwStage src fail s
  | .fwSwitch src => Sys2Proof.Machine.execFwSwitch src s
  | .freeze src => Sys2Proof.Machine.execFreeze src s
  | .thaw src => Sys2Proof.Machine.execThaw src s
  | .mgmtRead idx n => Sys2Proof.Machine.execMgmtRead idx n s
  | .mgmtWrite idx data => Sys2Proof.Machine.execMgmtWrite idx data s
  | .mgmtPageSet idx data => Sys2Proof.Machine.execMgmtPageSet idx data s
  | .mgmtAoRead w n => Sys2Proof.Machine.execMgmtAoRead w n s
  | .mgmtAoWrite w data => Sys2Proof.Machine.execMgmtAoWrite w data s
  | .mgmtTimeout => Sys2Proof.Machine.execMgmtTimeout s
  | .mgmtSellowClear => Sys2Proof.Machine.execMgmtSellowClear s
  | .spiHlQgo n w => Sys2Proof.Machine.execSpiHlQgo n w s
  | .hlEntry n rx => Sys2Proof.Machine.execHlEntry n rx s
  | .hlQueueDone n => Sys2Proof.Machine.execHlQueueDone n s
  | .flashGo w rx => Sys2Proof.Machine.execFlashGo w rx s
  | .flashPoll status => Sys2Proof.Machine.execFlashPoll status s
  | .flashPollTimeout => Sys2Proof.Machine.execFlashPollTimeout s
  | .xipRead ctrl a n => Sys2Proof.Machine.execXipRead ctrl a n s
  | .thermSample k v t => Sys2Proof.Machine.execThermSample k v t s
  | .sensorRecovered k => Sys2Proof.Machine.execSensorRecovered k s
  | .throttleStep => Sys2Proof.Machine.execThrottleStep s
  | .capRecoverStep => Sys2Proof.Machine.execCapRecoverStep s
  | .riseEpisodeEnd => Sys2Proof.Machine.execRiseEpisodeEnd s
  | .thermCapHostWrite v => Sys2Proof.Machine.execThermCapHostWrite v s
  | .hwShutdown => Sys2Proof.Machine.execHwShutdown s
  | .shutdownRestart => Sys2Proof.Machine.execShutdownRestart s
  | .compUpdate osc => Sys2Proof.Machine.execCompUpdate osc s
  | .thermCmpGo w => Sys2Proof.Machine.execThermCmpGo w s
  | .oscLearn e => Sys2Proof.Machine.execOscLearn e s
  | .peatCmdStore => Sys2Proof.Machine.execPeatCmdStore s
  | .peatCmdSetPassword p write => Sys2Proof.Machine.execPeatCmdSetPassword p write s
  | .peatCmdClearLog => Sys2Proof.Machine.execPeatCmdClearLog s
  | .peatCmdUnlock p write => Sys2Proof.Machine.execPeatCmdUnlock p write s
  | .peatCmdLock p write => Sys2Proof.Machine.execPeatCmdLock p write s
  | .storeComplete t => Sys2Proof.Machine.execStoreComplete t s
  | .autostoreTimer => Sys2Proof.Machine.execAutostoreTimer s
  | .pfailNFall t => Sys2Proof.Machine.execPfailNFall t s
  | .pfailUnlock t => Sys2Proof.Machine.execPfailUnlock t s
  | .pfailHeld => Sys2Proof.Machine.execPfailHeld s
  | .peatDataAccess wr v => Sys2Proof.Machine.execPeatDataAccess wr v s
  | .peatLockoutEnd p => Sys2Proof.Machine.execPeatLockoutEnd p s
  | .lifeSecond => Sys2Proof.Machine.execLifeSecond s
  | .vio33Rise => Sys2Proof.Machine.execVio33Rise s
  | .vio33Por => Sys2Proof.Machine.execVio33Por s
  | .pgoodRise g t => Sys2Proof.Machine.execPgoodRise g t s
  | .penSettleElapsed => Sys2Proof.Machine.execPenSettleElapsed s
  | .pgoodTimeout => Sys2Proof.Machine.execPgoodTimeout s
  | .backoffElapsed => Sys2Proof.Machine.execBackoffElapsed s
  | .crystalWindow n => Sys2Proof.Machine.execCrystalWindow n s
  | .xtalTimeout => Sys2Proof.Machine.execXtalTimeout s
  | .boot errD errA errB sfdp => Sys2Proof.Machine.execBoot errD errA errB sfdp s
  | .resetNLow t => Sys2Proof.Machine.execResetNLow t s
  | .resetNRelease t => Sys2Proof.Machine.execResetNRelease t s
  | .aoCmdRestart => Sys2Proof.Machine.execAoCmdRestart s
  | .aoCmdFreeze => Sys2Proof.Machine.execAoCmdFreeze s
  | .aoCmdThaw => Sys2Proof.Machine.execAoCmdThaw s
  | .pgoodLost mask => Sys2Proof.Machine.execPgoodLost mask s
  | .fwSwitchReady => Sys2Proof.Machine.execFwSwitchReady s
  | .fwSwitchTimeout => Sys2Proof.Machine.execFwSwitchTimeout s
  | .lockstepMismatch t => Sys2Proof.Machine.execLockstepMismatch t s
  | .lockstepRestartDone t => Sys2Proof.Machine.execLockstepRestartDone t s
  | .crystalLoss => Sys2Proof.Machine.execCrystalLoss s
  | .crystalReturn => Sys2Proof.Machine.execCrystalReturn s
  | .faultPinSample high => Sys2Proof.Machine.execFaultPinSample high s
  | .freezeNLow => Sys2Proof.Machine.execFreezeNLow s
  | .freezeNHigh => Sys2Proof.Machine.execFreezeNHigh s
  | .thawHeadResume h => Sys2Proof.Machine.execThawHeadResume h s
  | .sysFreezeReq => Sys2Proof.Machine.execSysFreezeReq s
  | .sysFreezeThaw => Sys2Proof.Machine.execSysFreezeThaw s
  | .extest => Sys2Proof.Machine.execExtest s
  | .samplePreload bits => Sys2Proof.Machine.execSamplePreload bits s
  | .idcode => Sys2Proof.Machine.execIdcode s
  | .snapshot n => Sys2Proof.Machine.execSnapshot n s
  | .debugReadWord a => Sys2Proof.Machine.execDebugReadWord a s
  | .debugWriteWord a v => Sys2Proof.Machine.execDebugWriteWord a v s
  | .bypass => Sys2Proof.Machine.execBypass s
  | .aoSnapDataRead => Sys2Proof.Machine.execAoSnapDataRead s
  | .aoPoweredNsLoRead => Sys2Proof.Machine.execAoPoweredNsLoRead s
  | .testLogicReset => Sys2Proof.Machine.execTestLogicReset s
  | .vholdMeasurement mv => Sys2Proof.Machine.execVholdMeasurement mv s
  | .vactMeasurement mv => Sys2Proof.Machine.execVactMeasurement mv s

end Sys2Proof.Machine
end

