-- ==== Sys2Proof/Safety.lean ====
section
/-!
DEFINITION. What counts as a sound state of the block: the register file, the bases in effect and the memory are held in
their one canonical form, so that equal contents are equal data.
-/
namespace Sys2Proof.Machine

/-- A memory in canonical form: addresses strictly rising, no entry equal to what an unlisted address reads as. -/
def Memory.wf (m : Tbl Byte) : Bool := twf memDefault m

/-- The canonical form of the memory, the register file and the bases in effect. -/
def State.canonical (s : State) : Bool :=
  Memory.wf s.mem && twf resetWord s.regs && twf (fun _ => (0 : Word)) s.baseLo

/-- The commands whose effect is one of the functional blocks. -/
def functional : Instr → Bool
  | .engineBarrierRelease .. | .headTimingStart .. | .headStartCommit .. | .acodeLoad .. | .pixelConversion ..
  | .calResult .. | .sliceFailing .. | .spareCalResult .. | .hardFaultDetected .. | .stuckDetected .. | .takeover ..
  | .spareTakesTap .. | .requalifyDone .. | .trainingStart .. | .thresholdTrainingResult .. | .phaseTrainingResult ..
  | .trainingDone .. | .rowFetchIssue .. | .rowFetchDone .. | .pixelCorrection .. | .lateFillDone .. | .rowComplete ..
  | .frameLanded .. | .lutRefillDone .. | .activationCommit .. | .calIntervalTrigger .. | .calRequestCommit ..
  | .calClosingStart .. | .calClosingEnd .. | .calPositionTimeout .. | .calSettleDone .. | .calAverageFrame ..
  | .calBuildFrameStart .. | .calVerdict .. | .calOpeningEnd .. | .calOpenSettleDone .. | .calLiveFrame ..
  | .abandonHoldExpired .. | .tableRepair .. | .radiometricRepair .. | .actStartAtTick .. | .actMinoffElapsed ..
  | .actQueueRelease .. | .actPhaseEnd .. | .actProfileEnd .. | .actuatorFault .. | .aposChange .. | .senseZeroCal ..
  | .chargeBinAdvance .. | .engNop .. | .engAdd .. | .engSub .. | .engMul .. | .engAnd .. | .engOr .. | .engXor ..
  | .engShl .. | .engShr .. | .engSra .. | .engSlt .. | .engLi .. | .engRshr .. | .engSat .. | .engLd .. | .engSt ..
  | .engAmo .. | .engFence .. | .engBr .. | .engCall .. | .engJr .. | .engLoop .. | .engCsr .. | .engDone .. | .engTrap ..
  | .engBlkget .. | .engBlkput .. | .engWait .. | .engVld .. | .engVst .. | .engVadd .. | .engVsub .. | .engVmulr ..
  | .engVmac .. | .engVacc .. | .engVminmax .. | .engVlogic .. | .engVcmp .. | .engVsh .. | .engVsplat .. | .engVred ..
  | .engVperm .. | .engVlut .. | .engVhist .. | .engVext .. | .illegalInstruction .. | .tileStart .. | .blockTransferDone ..
  | .engineFault .. | .taskDropped .. | .engineRestart .. | .governorBundle .. | .taskDeclareCommit .. | .imageStaged ..
  | .reloadCommit .. | .engineRequalifyDone .. | .broadcastCommit .. | .memoryPathFrame .. | .compositeDone ..
  | .inlineLine .. | .inlineChangeApply .. | .inlineFallback .. | .rxPacket .. | .rxFrameEnd .. | .visibleTimeout ..
  | .l3CopyDone .. | .txFrame .. | .starvation .. | .rebalance .. | .scrubBlock .. | .channelSelect .. | .descriptorCheck ..
  | .dmaChunk .. | .descriptorComplete .. | .busError .. | .frameDelivery .. => true
  | _ => false

/-- Engine `e` runs a tile and a legal instruction of an opcode stands at its PC (R164, R165); no group of the engines' memories
has an error (R160). -/
def State.issues (s : State) (e op : Nat) : Prop :=
  s.arr.ecc = [] ∧ s.calm = true ∧ s.engIssues e = true ∧ iOp (s.engWord e) = op ∧ insLegal (s.engWord e) = true

/-- An engine's state as its instruction finds it: some of its earlier stores have become visible (R167). -/
def State.issued (s : State) (e : Nat) : State := s.drainStores e (Config.drain s.freeCtr)

/-- What no instruction of engine `e` changes: the other engines, every register, and everything else but memory. -/
def EngIsolated (s t : State) (e : Nat) : Prop :=
  (∀ g, g ≠ e → t.eng g = s.eng g) ∧ t = { s with engs := t.engs, mem := t.mem, freeCtr := t.freeCtr }

/-- Memory is unchanged but for `n` bytes at `a` and the bytes of the engine's own pending stores. -/
def MemKept (s t : State) (e a n : Nat) : Prop :=
  ∀ x, (x < a ∨ a + n ≤ x) → (∀ p ∈ (s.eng e).stores, x < p.1 ∨ p.1 + p.2.length ≤ x) → t.byte x = s.byte x

/-- The engine has gone on in sequence, its loops left or repeated (R165). -/
def WentOn (s t : State) (e : Nat) : Prop :=
  ((t.eng e).pc, (t.eng e).loops) = seqPc (s.eng e).pc (s.eng e).loops ∧ (t.eng e).fault = (s.eng e).fault

/-- Of the scalar registers only `d` may have changed, to `v` unless it is s0 (R160). -/
def ScalarIs (s t : State) (e d : Nat) (v : Word) : Prop :=
  ∀ r, (t.eng e).s r = if r = d ∧ r ≠ 0 then v else (s.eng e).s r

/-- The core is up, commands are processed and no burst is interrupted; `c` is the command of an opcode that a source starts next (R272);
no other command and no request has its identity. -/
abbrev State.starts (s : State) (src opc : Nat) (c : Cmd) : Prop :=
  s.ao.up = true ∧ s.msys.run0 = none ∧ s.msys.run1 = none ∧ s.cmdsOn = true ∧ s.toStart src opc = some c ∧ (∀ d ∈ s.cmds, d.uid = c.uid → d = c) ∧
    ∀ q ∈ s.reqs, q.cmd ≠ some c.uid

/-- The command has completed with this status, cause and results (R274). -/
def State.answered (t : State) (c : Cmd) (status cause r0 r1 : Nat) : Prop :=
  (∃ d ∈ t.cmds, d.uid = c.uid) ∧ ∀ d ∈ t.cmds, d.uid = c.uid →
    d.phase = 2 ∧ d.status = status ∧ d.cause = cause ∧ d.r0 = r0 % 2 ^ 32 ∧ d.r1 = r1 % 2 ^ 32

/-- The command has completed, with whatever status. -/
def State.ended (t : State) (c : Cmd) : Prop := ∀ d ∈ t.cmds, d.uid = c.uid → d.phase = 2

/-- The command is in progress. -/
def State.goesOn (t : State) (c : Cmd) : Prop := ∃ d ∈ t.cmds, d.uid = c.uid ∧ d.phase = 1

/-- SYS_ERR has latched a cause (R379), and with it only commands have changed since `s`; the offset it shows, and so the count of free
values drawn, is open. -/
def State.latchedSince (t s : State) (cause : Nat) : Prop :=
  nbits (t.reg R.sysErr.off).toNat 16 8 = cause ∧ nbits (t.reg R.sysErr.off).toNat 31 1 = 1 ∧
  (∀ o, o ≠ R.sysErr.off → t.reg o = s.reg o) ∧ t = { s with cmds := t.cmds, regs := t.regs, freeCtr := t.freeCtr }

end Sys2Proof.Machine
end

