-- ==== Sys2Proof/WellFormed.lean ====
section
/-!
DEFINITION. Which commands are well formed: the operands that a type does not bound lie in the range the chip has. A frame
has at most 1088 rows of 1344 pixels, a row 168 tap periods (R45), and a frame's rows end with the calibration row; a burst
is 16 to 256 bytes in one aligned 256-byte block (R217).
-/
namespace Sys2Proof

/-- A pixel of the largest frame (R45). -/
def inFrame (r c : Nat) : Bool := decide (r < 1088) && decide (c < 1344)

/-- A requester's burst (R217). -/
def burst (a n : Nat) : Bool := decide (16 ≤ n) && decide (n ≤ 256) && decide (a % 256 + n ≤ 256)

/-- Is the command well formed? (DESIGN CHOICE, log entry 4) -/
def Instr.wf (i : Instr) : Bool :=
  match i with
  | .registerWrite _ _ _ _ => true
  | .baseHiWrite _ _ _ => true
  | .tickEnable => true
  | .timerTick => true
  | .fsyncInPulse _ => true
  | .fsyncWindowMiss => true
  | .tickSourceLost => true
  | .fsyncOutPulseEnd => true
  | .commitPoint => true
  | .engineBarrierRelease => true
  | .tsyncInEdge _ => true
  | .tickPoweredNsLoRead => true
  | .hdetNChange _ _ _ => true
  | .presenceAccepted _ => true
  | .headPwrSettleElapsed _ => true
  | .biasRampDone _ => true
  | .headTimingStart _ => true
  | .headBiasWrite _ _ _ => true
  | .biasFault _ _ => true
  | .headClkStart _ => true
  | .headClkStop _ => true
  | .headCtlRunStart _ => true
  | .headCtlRunDetach _ => true
  | .headStartCommit _ => true
  | .detachCommit _ => true
  | .drainComplete _ => true
  | .detachComplete _ => true
  | .headFrameStart _ => true
  | .referenceEvaluation _ => true
  | .acodeLoad _ r c => inFrame r c
  | .pixelConversion _ r j _ _ _ _ => decide (r < 1089) && decide (j < 168)
  | .calRow _ r codes stand => decide (r < 1089) && codes.all (fun x => decide (x.1 < 38) && x.2.all fun c => decide (c.1 < 65536)) &&
    stand.all (fun x => decide (x.1 < 38) && decide (x.2.1 < 38) && x.2.2.all fun c => decide (c < 65536))
  | .calResult _ _ => true
  | .sliceFailing _ _ => true
  | .spareCalResult _ _ cs _ => cs.all (decide <| · < 65536)
  | .hardFaultDetected _ _ => true
  | .stuckDetected _ _ => true
  | .takeover _ => true
  | .spareTakesTap _ _ r => decide (r < 1089)
  | .requalifyDone _ _ _ => true
  | .trainingStart _ => true
  | .thresholdTrainingResult _ _ _ _ => true
  | .phaseTrainingResult _ _ steps _ => steps.all fun p => p.all fun c => decide (c.1 < 65536) && decide (c.2 < 65536)
  | .trainingDone _ => true
  | .afeCmdTrain _ => true
  | .afeCmdSwap _ _ => true
  | .afeCmdRequalify _ _ => true
  | .rowFetchIssue _ _ q => decide (q < 1088)
  | .rowFetchDone _ q => decide (q < 1088)
  | .pixelCorrection _ r c => inFrame r c
  | .lateFillDone _ r c => inFrame r c
  | .rowComplete _ r => decide (r < 1088)
  | .frameLanded _ => true
  | .corrLoffWrite _ _ => true
  | .corrBankGenWrite _ _ _ => true
  | .calCmdRequest _ => true
  | .calCmdAbort _ => true
  | .calCmdLoadOpen _ _ => true
  | .calCmdLoadClose _ _ => true
  | .calCmdActivate _ _ _ => true
  | .lutRefillDone _ => true
  | .activationCommit _ => true
  | .calIntervalTrigger _ => true
  | .calRequestCommit _ => true
  | .calClosingStart _ => true
  | .calClosingEnd _ => true
  | .calPositionTimeout _ => true
  | .calSettleDone _ => true
  | .calAverageFrame _ r c => inFrame r c
  | .calBuildFrameStart _ => true
  | .calVerdict _ => true
  | .calOpeningEnd _ => true
  | .calOpenSettleDone _ => true
  | .calLiveFrame _ => true
  | .abandonHoldExpired _ => true
  | .tableRepair _ _ idx => decide (idx < 1344 * 1088)
  | .radiometricRepair _ _ => true
  | .actCmdStart _ _ _ => true
  | .actCmdStop _ => true
  | .actCmdClear _ => true
  | .actStartAtTick _ => true
  | .actMinoffElapsed _ => true
  | .actQueueRelease => true
  | .actPhaseEnd _ => true
  | .actProfileEnd _ _ _ => true
  | .actuatorFault _ _ => true
  | .aposChange _ _ => true
  | .senseZeroCal _ _ => true
  | .chargeBinAdvance _ _ _ => true
  | .actPhaseWrite _ _ _ _ => true
  | .engNop _ => true
  | .engAdd _ => true
  | .engSub _ => true
  | .engMul _ => true
  | .engAnd _ => true
  | .engOr _ => true
  | .engXor _ => true
  | .engShl _ => true
  | .engShr _ => true
  | .engSra _ => true
  | .engSlt _ => true
  | .engLi _ => true
  | .engRshr _ => true
  | .engSat _ => true
  | .engLd _ => true
  | .engSt _ => true
  | .engAmo _ => true
  | .engFence _ => true
  | .engBr _ => true
  | .engCall _ => true
  | .engJr _ => true
  | .engLoop _ => true
  | .engCsr _ => true
  | .engDone _ => true
  | .engTrap _ => true
  | .engBlkget _ => true
  | .engBlkput _ => true
  | .engWait _ => true
  | .engVld _ => true
  | .engVst _ => true
  | .engVadd _ => true
  | .engVsub _ => true
  | .engVmulr _ => true
  | .engVmac _ => true
  | .engVacc _ => true
  | .engVminmax _ => true
  | .engVlogic _ => true
  | .engVcmp _ => true
  | .engVsh _ => true
  | .engVsplat _ => true
  | .engVred _ => true
  | .engVperm _ => true
  | .engVlut _ => true
  | .engVhist _ => true
  | .engVext _ => true
  | .illegalInstruction _ => true
  | .tileStart _ => true
  | .blockTransferDone _ _ => true
  | .engineFault _ _ => true
  | .taskDropped _ => true
  | .engineRestart _ => true
  | .governorBundle => true
  | .taskDeclare _ => true
  | .taskDeclareCommit => true
  | .engCmdReload _ => true
  | .engCmdRequalify _ _ => true
  | .imageStaged _ => true
  | .reloadCommit _ => true
  | .engineRequalifyDone _ _ => true
  | .engBcastGo _ => true
  | .broadcastCommit => true
  | .memoryPathFrame _ => true
  | .compositeDone _ => true
  | .inlineLine => true
  | .vidInlineWrite _ _ => true
  | .inlineChangeApply => true
  | .inlineFallback => true
  | .vidHeadCtlWrite _ _ => true
  | .paletteWrite _ _ _ => true
  | .rxPacket dt vc ecc _ data => decide (dt < 64) && decide (vc < 16) && decide (ecc < 3) && decide (data.length < 65536) && data.all (fun b => decide (b < 256))
  | .rxFrameEnd => true
  | .visibleTimeout => true
  | .l3Commit _ _ => true
  | .l3CopyDone _ => true
  | .txFrame _ => true
  | .dramBurst _ arr cut _ => cut != some 0 && arr.all (fun b => burst b.2.2.1 b.2.2.2.1 && (!b.2.1 || b.2.2.2.2.length == b.2.2.2.1))
  | .refresh => true
  | .debugAccess wr a n data => decide (a < 2 ^ 40) && (!wr || data.length == n)
  | .starvation _ _ => true
  | .rebalance _ => true
  | .ticketWrite _ _ => true
  | .inheritWrite _ => true
  | .etktWrite _ => true
  | .requesterReset _ => true
  | .scrubBlock _ => true
  | .memRgnKindWrite _ _ => true
  | .dmaDoorbell _ _ => true
  | .dmaHeadWrite _ _ _ => true
  | .dmaCmdAbort _ _ => true
  | .dmaHaltClr => true
  | .channelSelect => true
  | .descriptorCheck => true
  | .dmaChunk => true
  | .descriptorComplete => true
  | .busError _ a => decide (a < 2 ^ 64)
  | .sqTailDoorbell _ _ _ => true
  | .cqHeadDoorbell _ _ _ => true
  | .bqTailDoorbell _ _ _ => true
  | .dqHeadDoorbell _ _ _ => true
  | .ringEnable _ => true
  | .commandFetch _ => true
  | .unknownOpcode _ => true
  | .completionWrite _ _ => true
  | .msixCoalesceTimeout _ => true
  | .cqStall _ => true
  | .eventWrite => true
  | .frameDelivery _ _ => true
  | .nodataHeader _ => true
  | .streamBindCommit _ => true
  | .pcieReset => true
  | .linkRestored _ _ => true
  | .bar4Access wr x n data => decide (x.2.toNat + n ≤ 2 ^ 28) && (!wr || data.length == n)
  | .hostMbxGo => true
  | .hostMbxCpl3Read => true
  | .hostMbxEvt3Read => true
  | .cmdNop _ => true
  | .identify _ => true
  | .regRead _ => true
  | .regWrite _ => true
  | .tickSet _ => true
  | .headConfig _ => true
  | .headAttach _ => true
  | .headStart _ => true
  | .headDetach _ => true
  | .headLink _ => true
  | .afeTrain _ => true
  | .afeSwap _ => true
  | .afeRequalify _ => true
  | .tableOpen _ => true
  | .tableClose _ => true
  | .tableActivate _ => true
  | .shutter _ => true
  | .shutterAbort _ => true
  | .outputSet _ => true
  | .emissivity _ => true
  | .actSetup _ => true
  | .actStart _ => true
  | .actStop _ => true
  | .actClear _ => true
  | .engReload _ => true
  | .engDeclare _ => true
  | .engRequalify _ => true
  | .engBroadcast _ => true
  | .taskWisoa _ => true
  | .vidInline _ => true
  | .vidTone _ => true
  | .vidLayers _ => true
  | .vidL3 _ => true
  | .vidOut _ => true
  | .vidRx _ => true
  | .memTickets _ => true
  | .dmaCopy _ => true
  | .dmaAbort _ => true
  | .streamBind _ => true
  | .streamUnbind _ => true
  | .thermCap _ => true
  | .peatRead _ => true
  | .peatWrite _ => true
  | .fwStage _ _ => true
  | .fwSwitch _ => true
  | .freeze _ => true
  | .thaw _ => true
  | .mgmtRead _ _ => true
  | .mgmtWrite _ _ => true
  | .mgmtPageSet _ _ => true
  | .mgmtAoRead _ _ => true
  | .mgmtAoWrite _ _ => true
  | .mgmtTimeout => true
  | .mgmtSellowClear => true
  | .spiHlQgo _ _ => true
  | .hlEntry _ rx => decide (rx.1.length ≤ 65535)
  | .hlQueueDone _ => true
  | .flashGo _ _ => true
  | .flashPoll _ => true
  | .flashPollTimeout => true
  | .xipRead _ a n => decide (1 ≤ n) && decide (a % 256 + n ≤ 256)
  | .thermSample _ v _ => decide (-4096 ≤ v) && decide (v < 4096)
  | .sensorRecovered _ => true
  | .throttleStep => true
  | .capRecoverStep => true
  | .riseEpisodeEnd => true
  | .thermCapHostWrite _ => true
  | .hwShutdown => true
  | .shutdownRestart => true
  | .compUpdate _ => true
  | .thermCmpGo _ => true
  | .oscLearn _ => true
  | .peatCmdStore => true
  | .peatCmdSetPassword _ _ => true
  | .peatCmdClearLog => true
  | .peatCmdUnlock _ _ => true
  | .peatCmdLock _ _ => true
  | .storeComplete _ => true
  | .autostoreTimer => true
  | .pfailNFall _ => true
  | .pfailUnlock _ => true
  | .pfailHeld => true
  | .peatDataAccess _ _ => true
  | .peatLockoutEnd _ => true
  | .lifeSecond => true
  | .vio33Rise => true
  | .vio33Por => true
  | .pgoodRise _ _ => true
  | .penSettleElapsed => true
  | .pgoodTimeout => true
  | .backoffElapsed => true
  | .crystalWindow _ => true
  | .xtalTimeout => true
  | .boot _ _ _ _ => true
  | .resetNLow _ => true
  | .resetNRelease _ => true
  | .aoCmdRestart => true
  | .aoCmdFreeze => true
  | .aoCmdThaw => true
  | .pgoodLost _ => true
  | .fwSwitchReady => true
  | .fwSwitchTimeout => true
  | .lockstepMismatch _ => true
  | .lockstepRestartDone _ => true
  | .crystalLoss => true
  | .crystalReturn => true
  | .faultPinSample _ => true
  | .freezeNLow => true
  | .freezeNHigh => true
  | .thawHeadResume _ => true
  | .sysFreezeReq => true
  | .sysFreezeThaw => true
  | .extest => true
  | .samplePreload _ => true
  | .idcode => true
  | .snapshot _ => true
  | .debugReadWord _ => true
  | .debugWriteWord _ _ => true
  | .bypass => true
  | .aoSnapDataRead => true
  | .aoPoweredNsLoRead => true
  | .testLogicReset => true
  | .vholdMeasurement _ => true
  | .vactMeasurement _ => true

end Sys2Proof
end

