-- ==== Sys2Proof/Certificates/Slice0/Obligations.lean ====
section
/-!
DEFINITION. The statements for the provers. Each docstring says what is stated and names the rules or sections of the
specification it rests on.
-/
open Sys2Proof Sys2Proof.Machine

/-- For every command and state, step with the command at the front of the queue is exec of the command on the state
that holds the rest of the queue; with an empty queue the block idles (the idle step is the model's choice, log
entry 1). (12_host_rings.md) -/
def Obligations.StepRunsFront : Prop :=
  (∀ (c : Instr) (q : List Instr) (s : State),
    Sys2Proof.Machine.step { s with pending := c :: q } = Sys2Proof.Machine.exec c { s with pending := q }) ∧
  (∀ s : State, s.pending = [] → Sys2Proof.Machine.step s = .next s)

/-- For every command and every state, exec answers a next state whose queue of waiting commands is the one exec was
given: no command stops the block, and none adds, drops or reorders waiting commands. (00_scope.md) -/
def Obligations.ExecKeepsQueue : Prop :=
  ∀ (c : Instr) (s : State), ∃ t, Sys2Proof.Machine.exec c s = .next t ∧ t.pending = s.pending

/-- For every state and every number k of steps, running the core k steps from it answers a next state whose queue is
the first one without its first k commands, so that the run of as many steps as commands wait ends with an empty
queue: the queue is first in, first out and nothing stops it. (12_host_rings.md) -/
def Obligations.QueueIsServedInOrder : Prop :=
  ∀ (k : Nat) (s : State), ∃ t, Host.Core.run Sys2Proof.core k s = .next t ∧ t.pending = s.pending.drop k

/-- For every state whose memory, register file and bases in effect are in canonical form (keys strictly rising, no
entry equal to its default), every next state that step answers has them in canonical form too, so equal contents
stay equal data. (17_register_map.md, 10_memory_and_arbitration.md) -/
def Obligations.StepKeepsCanonicalForm : Prop :=
  ∀ s t : State, s.canonical = true → Sys2Proof.Machine.step s = .next t → t.canonical = true

/-- At reset the canonical form holds, nothing waits, the always-on domain is off, memory lists nothing, and registers
read the reset words of R385: TICK_CTL 0x10, TICK_PERIOD_NS 0x00FE502A, HEAD_CTL 0x8, HEAD_COLS 0x00020540,
AFE_SLICE_CTL of locals 5 and 36, MEM_ARB_SEED 0xACE12469, CAL_CTL 0x45, PEAT_HOLD_MIN 0x1388, completion ring 3 CFG
0x6C. Readings and choices of the model behind it: log entries 7, 8, 9. (17_register_map.md,
16_power_boot_faults.md) -/
def Obligations.ResetIsCanonical : Prop :=
  State.reset.canonical = true ∧ State.reset.pending = [] ∧ State.reset.ao.step = .off ∧ State.reset.mem = [] ∧
  State.reset.reg 0x10000 = 0x10 ∧ State.reset.reg 0x10004 = 0x00FE502A ∧ State.reset.reg 0x40000 = 0x8 ∧
  State.reset.reg 0x40004 = 0x00020540 ∧ State.reset.reg 0x80500 = 0x105 ∧ State.reset.reg 0x82400 = 0x17F ∧
  State.reset.reg 0x1B0004 = 0xACE12469 ∧ State.reset.reg 0x100000 = 0x45 ∧ State.reset.reg 0x200004 = 0x1388 ∧
  State.reset.reg 0x1D0168 = 0x6C

/-- For every state, every next state that step answers has a clock no earlier than before, whatever command waits at
the front, except VIO33_RISE, with which the powered time starts again at zero while the always-on domain is off,
and which changes nothing otherwise. (02_tick_and_time.md, 16_power_boot_faults.md) -/
def Obligations.TimeNeverRunsBack : Prop :=
  (∀ s t : State, (∀ r, s.pending ≠ .vio33Rise :: r) → Sys2Proof.Machine.step s = .next t → s.now ≤ t.now) ∧
  (∀ (s t : State) (r : List Instr), s.pending = .vio33Rise :: r → Sys2Proof.Machine.step s = .next t →
    t.now = if s.ao.step = .off then 0 else s.now)

/-- While the core is up REGISTER_WRITE of every assigned aligned word has the effect writeReg gives that word. In the
blocks whose registers have no action of their own (FAULT, the AFE globals, the actuator globals, MGMT) a word that
wordRefused does not refuse makes each of its RW and RWL fields hold its bits of the word, and leaves every other
register and all else. A write of FAULT_MASK makes it hold the bits written and leaves every other register; a write
with bit 31 of an error register (TICK_ERR) clears it and changes no other register; a write that is not a whole
word changes no register but the block's error register, which shows the offset with VALID (here the HEAD block of
port 0). Readings and choices of the model behind it: log entry 44. (00_scope.md, 17_register_map.md) -/
def Obligations.RegisterWriteSetsFields : Prop :=
  (∀ (s : State) (o : BitVec 24) (w : BitVec 32) (fw : Bool), s.ao.up = true → badAccess o.toNat = false →
    Sys2Proof.Machine.exec (.registerWrite o w true fw) s =
      .next { (s.writeReg o.toNat w.toNat fw).2 with pending := s.pending }) ∧
  (∀ (s : State) (o : BitVec 24) (l : Loc) (w : BitVec 32) (fw : Bool), s.ao.up = true → s.ao.frozen = false →
    badAccess o.toNat = false → locate o.toNat = some l → l.blk ∈ [Blk.fault, Blk.afeGlob, Blk.act, Blk.mgmt] →
    (∀ r ∈ rowsAt (blkRows l.blk) (o.toNat - l.base), r.acc ≠ .err) →
    s.wordRefused l (o.toNat - l.base) w.toNat = false → ∃ t,
    Sys2Proof.Machine.exec (.registerWrite o w true fw) s = .next t ∧
    (∀ r ∈ rowsAt (blkRows l.blk) (o.toNat - l.base), r.acc = .rw ∨ r.acc = .rwl →
      t.fld ⟨o.toNat, r.lo, r.len⟩ = nbits w.toNat r.lo r.len) ∧
    (∀ p, p ≠ o.toNat → t.reg p = s.reg p) ∧ t = { s with regs := t.regs }) ∧
  (∀ (s : State) (w : BitVec 32) (fw : Bool), s.ao.up = true → s.ao.frozen = false → ∃ t,
    Sys2Proof.Machine.exec (.registerWrite 0x020000 w true fw) s = .next t ∧
    t.fld R.faultMask = w.toNat % 2 ^ R.faultMask.len ∧ (∀ o, o ≠ 0x020000 → t.reg o = s.reg o) ∧
    t = { s with regs := t.regs }) ∧
  (∀ (s : State) (w : BitVec 32) (fw : Bool), s.ao.up = true → s.ao.frozen = false → w.getLsbD 31 = true → ∃ t,
    Sys2Proof.Machine.exec (.registerWrite 0x010040 w true fw) s = .next t ∧ t.reg 0x010040 = 0 ∧
    (∀ o, o ≠ 0x010040 → t.reg o = s.reg o) ∧ t = { s with regs := t.regs }) ∧
  (∀ (s : State) (o : BitVec 24) (w : BitVec 32) (fw : Bool), s.ao.up = true → 0x40000 ≤ o.toNat → o.toNat < 0x50000 → ∃ t,
    Sys2Proof.Machine.exec (.registerWrite o w false fw) s = .next t ∧
    t.reg 0x4015C = BitVec.ofNat 32 (2 ^ 31 + o.toNat % 2 ^ 12) ∧
    (∀ p, p ≠ 0x4015C → t.reg p = s.reg p) ∧ t = { s with regs := t.regs })

/-- While a head's timing clock is on and the device is not frozen, a write of HEAD_COLS that changes COLS, BLIND or
BLIND_POS leaves the register and every other register but HEADn_ERR as they were and latches the offset with VALID
there; nothing else changes. (00_scope.md, 03_head_ports.md) -/
def Obligations.EnabledFieldRefused : Prop :=
  ∀ (s : State) (h : Fin 4) (w : BitVec 32) (fw : Bool), s.ao.up = true → s.ao.frozen = false →
    s.flag (R.headCtlClk h) = true →
    (nbits w.toNat 0 11 ≠ s.fld (R.headColsCols h) ∨ nbits w.toNat 11 7 ≠ s.fld (R.headColsBlind h) ∨
      nbits w.toNat 18 1 ≠ s.fld (R.headColsBlindPos h)) → ∃ t,
    Sys2Proof.Machine.exec (.registerWrite (BitVec.ofNat 24 (0x40004 + 0x10000 * h.val)) w true fw) s = .next t ∧
    t.reg (R.headErr h).off = BitVec.ofNat 32 (2 ^ 31 + 4) ∧
    (∀ o, o ≠ (R.headErr h).off → t.reg o = s.reg o) ∧ t = { s with regs := t.regs }

/-- While the core is up and not frozen, the HI write of the flash-image base of a mire (which no rule restricts) makes
the base in effect the LO half last written with the new HI half, and leaves memory; a HI write of the task-table
base that is not 64-byte aligned is refused: both halves return to the base in effect, which stays. (00_scope.md) -/
def Obligations.BaseTakesEffectOnHiWrite : Prop :=
  (∀ (s : State) (m : Fin 8) (w : BitVec 32) (fw : Bool), s.ao.up = true → s.ao.frozen = false → ∃ t,
    Sys2Proof.Machine.exec (.baseHiWrite (BitVec.ofNat 24 ((R.engMireImgHi m).off)) w fw) s = .next t ∧
    t.base (R.engMireImgLo m) (R.engMireImgHi m) = s.fld (R.engMireImgLo m) + 2 ^ 32 * w.toNat ∧ t.mem = s.mem) ∧
  (∀ (s : State) (w : BitVec 32) (fw : Bool), s.ao.up = true → s.ao.frozen = false →
    s.fld R.engTaskBaseLo % 64 ≠ 0 → ∃ t,
    Sys2Proof.Machine.exec (.baseHiWrite (BitVec.ofNat 24 R.engTaskBaseHi.off) w fw) s = .next t ∧
    t.base R.engTaskBaseLo R.engTaskBaseHi = s.base R.engTaskBaseLo R.engTaskBaseHi ∧
    t.fld R.engTaskBaseHi = s.fld R.engTaskBaseHi ∧
    t.fld R.engTaskBaseLo = s.base R.engTaskBaseLo R.engTaskBaseHi % 2 ^ 32 ∧
    nbits (t.reg R.engErr.off).toNat 31 1 = 1 ∧ t.mem = s.mem)

/-- While the core is up a read of TICK_POWERED_NS_LO answers the low word of POWERED_NS and latches its upper half into
TICK_POWERED_NS_HI, so that LO then HI give one value; no other register, no memory and no other state changes.
(R35) -/
def Obligations.PoweredTimeReadLatchesUpperHalf : Prop :=
  ∀ s : State, s.ao.up = true → ∃ t, Sys2Proof.Machine.exec .tickPoweredNsLoRead s = .next t ∧
    t.reply = [s.poweredNs % 2 ^ 32] ∧ t.fld R.tickPoweredNsHi = s.poweredNs / 2 ^ 32 ∧
    (∀ o, o ≠ R.tickPoweredNsHi.off → t.reg o = s.reg o) ∧ t = { s with regs := t.regs, reply := t.reply }

/-- With TSYNC_CTL.EN set and the balls not taken by EXTEST, an edge at instant t (1/256 ns) captures the 2.5 ns grid
instant at or before t, rounded down to whole nanoseconds, into TSYNC_CAPT and posts a time-capture event with that
value (when the event queue has room and the log's words are readable); an edge within 10 us of the previous
captured one captures nothing, posts nothing and adds 1 to TSYNC_MISS. Other registers but the event counters stay,
and memory stays. R36 does not say to which side the instant is quantised: the grid instant at or before the edge is
the model's choice, log entry 10. (02_tick_and_time.md) -/
def Obligations.TimeCapture : Prop :=
  (∀ (s : State) (t : Nat), s.ao.up = true → s.ballsTaken = false → nbits (s.fld R.tsyncCtl) 0 1 = 1 → s.events.length < 256 → s.logReads = true →
    (∀ c, s.tick.captT = some c → c + 2560000 ≤ t) → ∃ u, Sys2Proof.Machine.exec (.tsyncInEdge t) s = .next u ∧
    u.fld R.tsyncCaptLo = t / 640 * 640 / 256 % 2 ^ 32 ∧ u.fld R.tsyncCaptHi = t / 640 * 640 / 256 / 2 ^ 32 % 2 ^ 32 ∧
    u.tick.captT = some t ∧ u.fld R.tsyncMiss = s.fld R.tsyncMiss ∧
    (∃ e, u.events = s.events ++ [e] ∧ e.code = 0x0103 ∧ e.p0 = t / 640 * 640 / 256 % 2 ^ 32 ∧
      e.p1 = t / 640 * 640 / 256 / 2 ^ 32 % 2 ^ 32) ∧
    (∀ o, o ∉ [R.tsyncCaptLo.off, R.tsyncCaptHi.off, R.hostEvtSeq.off, R.peatLogLost.off] → u.reg o = s.reg o) ∧
    u.mem = s.mem) ∧
  (∀ (s : State) (t c : Nat), s.ao.up = true → s.ballsTaken = false → nbits (s.fld R.tsyncCtl) 0 1 = 1 → s.tick.captT = some c →
    t < c + 2560000 → ∃ u, Sys2Proof.Machine.exec (.tsyncInEdge t) s = .next u ∧
    u.fld R.tsyncMiss = (s.fld R.tsyncMiss + 1) % 2 ^ 16 ∧ u.events = s.events ∧ u.tick = s.tick ∧
    (∀ o, o ≠ R.tsyncMiss.off → u.reg o = s.reg o) ∧ u.mem = s.mem)

/-- While the core is up: setting EN under source 0 or 2 makes the first edge at the core clock edge at or after now;
under source 1 the generator is armed, makes no edge and TICK_COUNT stays; the internal timer's edge falls on the
core clock edge nearest the ideal instant, the later on a tie; a pulse inside the window (or the first while armed;
EXTEST has not taken the balls) makes the edge on the first core clock edge at or after it and ends a run of misses,
one outside only adds 1 to TICK_FSYNC_ERR; the end of a window without pulse makes a flywheel edge and counts it;
the commit point binds the waiting work. The edge itself is the operation tickEdge, the commit work the operation
commitWork. Readings and choices of the model behind it: log entry 10. (02_tick_and_time.md) -/
def Obligations.TickEdgesFall : Prop :=
  (∀ s : State, s.ao.up = true → nbits (s.fld R.tickStatus) 0 1 = 0 → s.tick.armed = false → s.fld R.tickCtlSrc = 1 → ∃ t,
    Sys2Proof.Machine.exec .tickEnable s = .next t ∧ t.tick.armed = true ∧ t.fld R.tickCtlEn = 1 ∧
    (∀ o, o ≠ 0x10000 → t.reg o = s.reg o) ∧ t.mem = s.mem) ∧
  (∀ s : State, s.ao.up = true → nbits (s.fld R.tickStatus) 0 1 = 0 → s.tick.armed = false → s.fld R.tickCtlSrc ≠ 1 → ∃ u t : State,
    Sys2Proof.Machine.exec .tickEnable s = .next t ∧ u.fld R.tickCtlEn = 1 ∧ u.now = s.now ∧ u.mem = s.mem ∧
    (∀ o, o ≠ 0x10000 → u.reg o = s.reg o) ∧
    t = { u.tickEdge ((s.now + 639) / 640 * 640) ((s.now + 639) / 640 * 640) false with pending := s.pending }) ∧
  (∀ s : State, s.ao.up = true → nbits (s.fld R.tickStatus) 0 1 = 1 → s.tickSrc ≠ 1 →
    Sys2Proof.Machine.exec .timerTick s = .next { s.tickEdge ((s.tick.ideal + s.tick.period + 320) / 640 * 640)
      (s.tick.ideal + s.tick.period) false with pending := s.pending }) ∧
  (∀ (s : State) (t : Nat), s.ao.up = true → s.ballsTaken = false → s.flag R.tickCtlEn = true → s.tickSrc = 1 → s.tick.armed = true →
    Sys2Proof.Machine.exec (.fsyncInPulse t) s =
      .next { (s.at t).tickEdge ((t + 639) / 640 * 640) ((t + 639) / 640 * 640) false with pending := s.pending }) ∧
  (∀ (s u : State) (t : Nat), s.ao.up = true → s.ballsTaken = false → s.flag R.tickCtlEn = true → s.tickSrc = 1 → s.tick.armed = false →
    s.tick.edge + s.tick.period ≤ t + s.tick.tol * 256000 → t ≤ s.tick.edge + s.tick.period + s.tick.tol * 256000 →
    u = { s with now := max s.now t, tick := { s.tick with missRun := 0, lostSent := false } } →
    Sys2Proof.Machine.exec (.fsyncInPulse t) s =
      .next { (u.cutAt ((t + 639) / 640 * 640)).tickEdge
        ((t + 639) / 640 * 640) ((t + 639) / 640 * 640) false with pending := s.pending }) ∧
  (∀ (s : State) (t : Nat), s.ao.up = true → s.ballsTaken = false → s.flag R.tickCtlEn = true → s.tickSrc = 1 → s.tick.armed = false →
    (t + s.tick.tol * 256000 < s.tick.edge + s.tick.period ∨ s.tick.edge + s.tick.period + s.tick.tol * 256000 < t) →
    ∃ v, Sys2Proof.Machine.exec (.fsyncInPulse t) s = .next v ∧
    v.fld R.tickFsyncErr = (s.fld R.tickFsyncErr + 1) % 2 ^ 16 ∧ v.tick = s.tick ∧
    (∀ o, o ≠ R.tickFsyncErr.off → v.reg o = s.reg o) ∧ v.mem = s.mem) ∧
  (∀ s : State, s.ao.up = true → nbits (s.fld R.tickStatus) 0 1 = 1 → s.tickSrc = 1 → s.tick.armed = false → ∃ u t : State,
    Sys2Proof.Machine.exec .fsyncWindowMiss s = .next t ∧
    u = { s.bump R.tickFsyncErr with tick := { s.tick with missRun := s.tick.missRun + 1 } } ∧
    t = { u.tickEdge (coreNear (s.tick.edge + s.tick.period + s.tick.tol * 256000))
      (s.tick.edge + s.tick.period + s.tick.tol * 256000) true with pending := s.pending }) ∧
  (∀ s : State, s.ao.up = true → nbits (s.fld R.tickStatus) 0 1 = 1 → s.tick.committed = false →
    Sys2Proof.Machine.exec .commitPoint s =
      .next { (s.at (s.nextEdge - s.tick.guard * 256000)).commitWork with pending := s.pending })

/-- When the internal timer makes an edge, TICK_COUNT rises by 1 and wraps at 2^32, but stays when that edge is the
first since power-up or RESET_N; afterwards the generator is past its first edge and the instant of the edge is
held. (02_tick_and_time.md) -/
def Obligations.TickCountAdvances : Prop :=
  ∀ s : State, s.ao.up = true → nbits (s.fld R.tickStatus) 0 1 = 1 → s.tickSrc ≠ 1 → ∃ t,
    Sys2Proof.Machine.exec .timerTick s = .next t ∧
    t.fld R.tickCount = (if s.tick.first then s.fld R.tickCount else (s.fld R.tickCount + 1) % 2 ^ 32) ∧
    t.tick.first = false ∧ t.tick.edge = coreNear (s.tick.ideal + s.tick.period)

/-- While the core is up, an active FSYNC_OUT pulse ends TICK_OUT_WIDTH (as latched at the edge) times 10 ns after the
edge , the FSYNC_OUT pin takes its inactive level (low, or high with FSYNC_OUT_POL as latched) and nothing but the
pulse, the pin and the clock changes; after 16 consecutive missed ticks not yet reported, a tick-source-lost event
is posted (when the queue has room) and marked as posted. (02_tick_and_time.md) -/
def Obligations.FsyncOutAndSourceLost : Prop :=
  (∀ s : State, s.ao.up = true → s.tick.fsyncOut = true → Sys2Proof.Machine.exec .fsyncOutPulseEnd s =
    .next { s with now := max s.now (s.tick.edge + s.tick.width * 10 * 256),
                   tick := { s.tick with fsyncOut := false, fsyncPin := nbits s.tick.ctl 5 1 == 1 } }) ∧
  (∀ s : State, s.ao.up = true → 16 ≤ s.tick.missRun → s.tick.lostSent = false → s.events.length < 256 → s.logReads = true → ∃ t,
    Sys2Proof.Machine.exec .tickSourceLost s = .next t ∧ t.tick = { s.tick with lostSent := true } ∧
    t.events.map (·.code) = s.events.map (·.code) ++ [0x0102] ∧ t.mem = s.mem ∧
    (∀ o, o ∉ [R.hostEvtSeq.off, R.peatLogLost.off] → t.reg o = s.reg o))

/-- HDET_N_CHANGE records the level and instant of one head and nothing else (balls not taken by EXTEST).
PRESENCE_ACCEPTED (ports running, event queue with room): a level low for 10 ms sets PRESENT and posts a presence
event with 1; an absent head that firmware attaches (AUTO, configured, firmware working) begins its attach: PWR set,
powering (STATE 2) with HPEN on, step 2; with no attach and PWR set it powers up; with neither it is present (STATE
1); one whose work still drains is remembered. A level high for 20 us clears PRESENT and posts the event with 0: an
unpowered present head is absent; a powered head is detached unplanned: HPEN, timing, PWR, RUN and CLK fall at once,
attach and resume end, one that was running or draining drains, any other is absent with a head-removed event.
Memory stays but for a running head's truncated frames. Choices of the model behind it: log entries 18, 87.
(03_head_ports.md) -/
def Obligations.HeadPresence : Prop :=
  (∀ (s : State) (h : Fin 4) (high : Bool) (t : Nat), s.ballsTaken = false → ∃ u, Sys2Proof.Machine.exec (.hdetNChange h high t) s = .next u ∧
    u.head h = { s.head h with hdet := high, hdetT := max s.now t } ∧ (∀ g, g ≠ h.val → u.head g = s.head g) ∧
    u = { s with now := max s.now t, heads := u.heads }) ∧
  (∀ (s : State) (h : Fin 4), s.ao.up = true → s.ao.frozen = false → (s.head h).hdet = false →
    s.flag (R.headStatusPresent h) = false → s.hState h = 0 → s.events.length < 255 → ∃ t,
    Sys2Proof.Machine.exec (.presenceAccepted h) s = .next t ∧ t.flag (R.headStatusPresent h) = true ∧
    t.hState h = (if (if s.attaches h then s.fwRuns else s.flag (R.headCtlPwr h)) then 2 else 1) ∧
    (s.attaches h = true → s.fwRuns = true →
      (t.head h).attach = 2 ∧ (t.head h).hpen = true ∧ t.flag (R.headCtlPwr h) = true) ∧
    (s.attaches h = false → s.flag (R.headCtlPwr h) = true → (t.head h).hpen = true) ∧
    t.now = max s.now ((s.head h).hdetT + 10 * 256000000) ∧ t.mem = s.mem ∧
    ∃ e r, t.events = s.events ++ e :: r ∧ e.code = 0x0201 ∧ e.obj = h.val ∧ e.p0 = 1) ∧
  (∀ (s : State) (h : Fin 4), s.ao.up = true → s.ao.frozen = false → (s.head h).hdet = false →
    s.flag (R.headStatusPresent h) = false → s.hState h ≠ 0 → ∃ t,
    Sys2Proof.Machine.exec (.presenceAccepted h) s = .next t ∧ t.flag (R.headStatusPresent h) = true ∧
    t.hState h = s.hState h ∧ t.head h = { s.head h with again := true } ∧ t.mem = s.mem) ∧
  (∀ (s : State) (h : Fin 4), s.ao.up = true → s.ao.frozen = false → (s.head h).hdet = true →
    s.flag (R.headStatusPresent h) = true → (s.head h).hpen = false → s.events.length < 256 → s.logReads = true → ∃ t,
    Sys2Proof.Machine.exec (.presenceAccepted h) s = .next t ∧ t.flag (R.headStatusPresent h) = false ∧
    t.hState h = (if s.hState h = 1 then 0 else s.hState h) ∧
    t.now = max s.now ((s.head h).hdetT + 20 * 256000) ∧ t.mem = s.mem ∧ t.heads = s.heads ∧
    ∃ e, t.events = s.events ++ [e] ∧ e.code = 0x0201 ∧ e.obj = h.val ∧ e.p0 = 0) ∧
  (∀ (s : State) (h : Fin 4), s.ao.up = true → s.ao.frozen = false → (s.head h).hdet = true →
    s.flag (R.headStatusPresent h) = true → (s.head h).hpen = true → s.events.length < 240 → ∃ t,
    Sys2Proof.Machine.exec (.presenceAccepted h) s = .next t ∧ t.flag (R.headStatusPresent h) = false ∧
    t.hState h = (if s.hState h = 4 ∨ s.hState h = 5 then 5 else 0) ∧ (t.head h).hpen = false ∧
    (t.head h).timing = false ∧ (t.head h).attach = 0 ∧ (t.head h).resume = false ∧ t.flag (R.headCtlPwr h) = false ∧
    t.flag (R.headCtlRun h) = false ∧ t.flag (R.headCtlClk h) = false ∧
    (s.hState h < 4 → t.mem = s.mem ∧ ∃ e r, t.events = s.events ++ e :: r ∧ e.code = 0x0201 ∧ e.obj = h.val ∧ e.p0 = 0 ∧
      ∃ e ∈ r, e.code = 0x0203 ∧ e.obj = h.val))

/-- For a powering head: HEAD_PWR_SETTLE_ELAPSED starts the ramp of every bias output to its code; BIAS_RAMP_DONE ends
the ramp and, in an attach by firmware, sets CLK; HEAD_TIMING_START with CLK set at a tick whose count modulo N is P
starts the timing with a frame period due and makes the head idle; BIAS_FAULT of a powered head raises the bias-
fault event and removes the head as an unplanned detach (the operation unplanned). No memory byte changes in the
first two. Readings and choices of the model behind it: log entry 18. (03_head_ports.md) -/
def Obligations.HeadPowerUp : Prop :=
  (∀ (s : State) (h : Fin 4), s.ao.up = true → s.ao.frozen = false → s.hState h = 2 → (s.head h).hpen = true →
    (s.head h).settled = false → ∃ t, Sys2Proof.Machine.exec (.headPwrSettleElapsed h) s = .next t ∧
    (t.head h).settled = true ∧ (t.head h).biases.map (·.tgt) = (s.biasCodes h).take (s.head h).biases.length ∧
    t.now = max s.now ((s.head h).pwrT + s.fld (R.headPwrSettle h) * 256000000) ∧ t.mem = s.mem ∧
    (∀ g, g ≠ h.val → t.head g = s.head g)) ∧
  (∀ (s : State) (h : Fin 4), s.ao.up = true → s.ao.frozen = false → s.hState h = 2 → (s.head h).settled = true →
    (s.head h).ramped = false → s.fwRuns = true → ∃ t, Sys2Proof.Machine.exec (.biasRampDone h) s = .next t ∧ (t.head h).ramped = true ∧
    (t.flag (R.headCtlClk h) = if (s.head h).attach = 0 then s.flag (R.headCtlClk h) else true) ∧ t.mem = s.mem ∧
    (∀ g, g ≠ h.val → t.head g = s.head g)) ∧
  (∀ (s : State) (h : Fin 4), s.calm = true → s.hState h = 2 → s.flag (R.headCtlClk h) = true →
    (s.head h).timing = false → (s.head h).ramped = true → (s.head h).resume = false →
    nbits (s.fld R.tickStatus) 0 1 = 1 → s.fld R.tickCount % s.divN h = s.fld (R.headCadPhase h) → ∃ t,
    Sys2Proof.Machine.exec (.headTimingStart h) s = .next t ∧ (t.head h).timing = true ∧ (t.head h).due = true ∧
    (t.head h).startTick = s.fld R.tickCount ∧ t.hState h = 3) ∧
  (∀ (s : State) (h : Fin 4) (k : Fin 8), s.ao.up = true → s.ao.frozen = false → (s.head h).hpen = true →
    Sys2Proof.Machine.exec (.biasFault h k) s =
      .next { (s.raise 0x0202 h k).unplanned h with pending := s.pending })

/-- With the device up and not frozen: a code above HEAD_BIAS_MAXk changes no register but HEADn_ERR, which shows the
offset with VALID, and no output; any other code enters HEAD_BIASk.CODE, and while the tick generator runs the
outputs stay as they are until the next edge, at which the operation biasApply takes the code. Memory and every
other register stay. (03_head_ports.md) -/
def Obligations.BiasCodeWrite : Prop :=
  (∀ (s : State) (h : Fin 4) (k : Fin 8) (code : BitVec 16), s.ao.up = true → s.ao.frozen = false →
    s.fld (R.headBiasMax h k) < code.toNat → ∃ t, Sys2Proof.Machine.exec (.headBiasWrite h k code) s = .next t ∧
    t.reg (R.headErr h).off = BitVec.ofNat 32 (2 ^ 31 + (0x100 + 4 * k.val)) ∧
    (∀ o, o ≠ (R.headErr h).off → t.reg o = s.reg o) ∧ t = { s with regs := t.regs }) ∧
  (∀ (s : State) (h : Fin 4) (k : Fin 8) (code : BitVec 16), s.ao.up = true → s.ao.frozen = false →
    code.toNat ≤ s.fld (R.headBiasMax h k) → nbits (s.fld R.tickStatus) 0 1 = 1 → ∃ t,
    Sys2Proof.Machine.exec (.headBiasWrite h k code) s = .next t ∧ t.fld (R.headBiasCode h k) = code.toNat ∧
    t.head h = { s.head h with biasPend := true } ∧ (∀ o, o ≠ (R.headBiasCode h k).off → t.reg o = s.reg o) ∧
    t = { s with regs := t.regs, heads := t.heads }) ∧
  (∀ (s : State) (h : Fin 4) (k : Fin 8) (code : BitVec 16), s.ao.up = true → s.ao.frozen = false →
    code.toNat ≤ s.fld (R.headBiasMax h k) → nbits (s.fld R.tickStatus) 0 1 = 0 → (s.head h).hpen = true →
    (s.head h).settled = true → (s.head h).ramp0 = false → (s.head h).biases.length = 8 → ∃ t,
    Sys2Proof.Machine.exec (.headBiasWrite h k code) s = .next t ∧ t.fld (R.headBiasCode h k) = code.toNat ∧
    ((t.head h).biases.map (·.tgt)).getD k 0 = code.toNat ∧ (∀ o, o ≠ (R.headBiasCode h k).off → t.reg o = s.reg o) ∧
    t = { s with regs := t.regs, heads := t.heads })

/-- With the device up and not frozen: HEAD_CLK_START sets CLK of a powered head, and of an unpowered one is refused and
latched with every other register unchanged; HEAD_CLK_STOP of an idle head clears CLK and RUN, stops the timing and
makes the head powering with its biases and HPEN unchanged; HEAD_CTL_RUN_START sets RUN, computes HEAD_NEED and puts
a start request last in the queue of requests; HEAD_CTL_RUN_DETACH clears RUN and puts a detach request last. Memory
stays. (03_head_ports.md) -/
def Obligations.HeadClockAndRun : Prop :=
  (∀ (s : State) (h : Fin 4), s.ao.up = true → s.ao.frozen = false → (s.head h).hpen = true → ∃ t,
    Sys2Proof.Machine.exec (.headClkStart h) s = .next t ∧ t.flag (R.headCtlClk h) = true ∧
    (∀ o, o ≠ (R.headCtlClk h).off → t.reg o = s.reg o) ∧ t = { s with regs := t.regs }) ∧
  (∀ (s : State) (h : Fin 4), s.ao.up = true → s.ao.frozen = false → (s.head h).hpen = false → ∃ t,
    Sys2Proof.Machine.exec (.headClkStart h) s = .next t ∧ t.reg (R.headErr h).off = BitVec.ofNat 32 (2 ^ 31) ∧
    (∀ o, o ≠ (R.headErr h).off → t.reg o = s.reg o) ∧ t = { s with regs := t.regs }) ∧
  (∀ (s : State) (h : Fin 4), s.ao.up = true → s.ao.frozen = false → s.flag (R.headCtlClk h) = true → s.hState h = 3 →
    ∃ t, Sys2Proof.Machine.exec (.headClkStop h) s = .next t ∧ t.hState h = 2 ∧ t.flag (R.headCtlClk h) = false ∧
    t.flag (R.headCtlRun h) = false ∧ (t.head h).timing = false ∧ (t.head h).due = false ∧
    (t.head h).hpen = (s.head h).hpen ∧ (t.head h).biases = (s.head h).biases) ∧
  (∀ (s : State) (h : Fin 4), s.ao.up = true → s.ao.frozen = false → ∃ t,
    Sys2Proof.Machine.exec (.headCtlRunStart h) s = .next t ∧ t.flag (R.headCtlRun h) = true ∧
    t.fld (R.headNeed h) = min 0xFFFF (s.need h) ∧ t.reqs.getLast? = some { kind := .headStart, obj := h } ∧
    (∀ o, o ≠ (R.headCtlRun h).off → o ≠ (R.headNeed h).off → t.reg o = s.reg o) ∧
    t = { s with regs := t.regs, reqs := t.reqs, cmds := t.cmds }) ∧
  (∀ (s : State) (h : Fin 4), s.ao.up = true → s.ao.frozen = false → ∃ t,
    Sys2Proof.Machine.exec (.headCtlRunDetach h) s = .next t ∧ t.flag (R.headCtlRun h) = false ∧
    t.reqs.getLast? = some { kind := .headDetach, obj := h } ∧
    (∀ o, o ≠ (R.headCtlRun h).off → t.reg o = s.reg o) ∧
    t = { s with regs := t.regs, reqs := t.reqs, cmds := t.cmds })

/-- HEAD_START_COMMIT of a committed start: with a first cause of R62 (the function startRefused) the STATE stays and
HEADn_ERR shows CAUSE; with none the head is running (STATE 4), RUN is set and its next frame carries CONT_BREAK.
DETACH_COMMIT makes a running head draining for a detach, and of an idle one leaves the biases as they are until the
tick edge, where their ramp to 0 V begins, with timing and HPEN still on. DRAIN_COMPLETE of drained work, no edge of
effect outstanding: after a stop the head is powering, after a removal of an absent head absent, after a detach the
ramp of the biases to 0 V begins, with HPEN still on. DETACH_COMPLETE then stops the timing, drops HPEN, clears CLK
and PWR and makes a present head present and another absent. THAW_HEAD_RESUME restarts the timing of a running head
at its tick, once an edge whose commit point follows the thaw has come, with CONT_BREAK. Readings and choices of the
model behind it: log entries 18, 68, 70. (03_head_ports.md) -/
def Obligations.HeadStartAndDetachAtTick : Prop :=
  (∀ (s : State) (h : Fin 4) (q : Req) (c r : Nat), s.calm = true → s.committedReq .headStart h = some q →
    (s.dropReq q).startRefused h = some (c, r) → ∃ t, Sys2Proof.Machine.exec (.headStartCommit h) s = .next t ∧
    t.hState h = s.hState h ∧ t.reg (R.headErr h).off = BitVec.ofNat 32 (2 ^ 31 + c * 2 ^ 16) ∧ t.heads = s.heads ∧
    t.mem = s.mem) ∧
  (∀ (s : State) (h : Fin 4) (q : Req), s.calm = true → s.committedReq .headStart h = some q →
    (s.dropReq q).startRefused h = none → ∃ t, Sys2Proof.Machine.exec (.headStartCommit h) s = .next t ∧
    t.hState h = 4 ∧ t.flag (R.headCtlRun h) = true ∧ (t.head h).contBreak = true ∧
    (t.head h).nextNo = (s.head h).nextNo ∧ t.mem = s.mem) ∧
  (∀ (s : State) (h : Fin 4) (q : Req), s.ao.up = true → s.ao.frozen = false → s.committedReq .headDetach h = some q →
    s.hState h = 4 → ∃ t, Sys2Proof.Machine.exec (.detachCommit h) s = .next t ∧ t.hState h = 5) ∧
  (∀ (s : State) (h : Fin 4) (q : Req), s.ao.up = true → s.ao.frozen = false → s.committedReq .headDetach h = some q →
    s.hState h = 3 → ∃ t, Sys2Proof.Machine.exec (.detachCommit h) s = .next t ∧ t.hState h = 5 ∧
    (t.head h).timing = (s.head h).timing ∧ (t.head h).hpen = (s.head h).hpen ∧ (t.head h).rampDue = true ∧
    (t.head h).biases = (s.head h).biases ∧ (∀ b ∈ ((t.rampAtEdge h).head h).biases, b.tgt = 0)) ∧
  (∀ (s : State) (h : Fin 4), s.ao.up = true → s.ao.frozen = false → s.hState h = 5 → s.drained h = true →
    (s.head h).ramp0 = false → (s.head h).rampDue = false → (s.head h).edgeDue = false → (s.head h).drain = .stop → ∃ t,
    Sys2Proof.Machine.exec (.drainComplete h) s = .next t ∧ t.hState h = 2 ∧ (t.head h).drain = .none ∧ t.mem = s.mem) ∧
  (∀ (s : State) (h : Fin 4), s.ao.up = true → s.ao.frozen = false → s.hState h = 5 → s.drained h = true →
    (s.head h).ramp0 = false → (s.head h).rampDue = false → (s.head h).edgeDue = false → (s.head h).drain = .removal → s.flag (R.headStatusPresent h) = false → ∃ t,
    Sys2Proof.Machine.exec (.drainComplete h) s = .next t ∧ t.hState h = 0 ∧ (t.head h).drain = .none ∧ t.mem = s.mem) ∧
  (∀ (s : State) (h : Fin 4), s.ao.up = true → s.ao.frozen = false → s.hState h = 5 → s.drained h = true →
    (s.head h).ramp0 = false → (s.head h).rampDue = false → (s.head h).edgeDue = false → (s.head h).drain = .detach → ∃ t,
    Sys2Proof.Machine.exec (.drainComplete h) s = .next t ∧ t.hState h = 5 ∧ (t.head h).ramp0 = true ∧
    (∀ b ∈ (t.head h).biases, b.tgt = 0) ∧ (t.head h).hpen = (s.head h).hpen ∧ t.mem = s.mem) ∧
  (∀ (s : State) (h : Fin 4), s.ao.up = true → s.ao.frozen = false → (s.head h).ramp0 = true → ∃ t,
    Sys2Proof.Machine.exec (.detachComplete h) s = .next t ∧
    t.hState h = (if s.flag (R.headStatusPresent h) then 1 else 0) ∧ t.flag (R.headCtlPwr h) = false ∧
    t.flag (R.headCtlClk h) = false ∧ (t.head h).timing = false ∧ (t.head h).hpen = false ∧
    (t.head h).ramp0 = false ∧ (t.head h).detachCmd = none ∧ t.mem = s.mem) ∧
  (∀ (s : State) (h : Fin 4), s.calm = true → s.ao.edgeWait = false → (s.head h).resume = true → s.hState h = 4 →
    s.fld R.tickCount % s.divN h = s.fld (R.headCadPhase h) → ∃ t,
    Sys2Proof.Machine.exec (.thawHeadResume h) s = .next t ∧
    t.head h = { s.head h with resume := false, timing := true, due := true, div := 0, contBreak := true } ∧
    t.mem = s.mem ∧ t.regs = s.regs)

/-- HEAD_FRAME_START with the device alive, the timing on and a frame period due: on a running head a frame is added
whose number is the head's next number and whose tick and edge are those of the tick; the next number rises by 1
modulo 2^32 and the frame after number 0xFFFFFFFF carries FRAME_WRAP; on any other head no frame is added and the
number stays. In both the period is no longer due and is counted. Readings and choices of the model behind it: log
entry 12. (02_tick_and_time.md, 03_head_ports.md) -/
def Obligations.FrameStart : Prop :=
  (∀ (s : State) (h : Fin 4), s.calm = true → (s.head h).due = true → (s.head h).timing = true → s.hState h = 4 → ∃ t f,
    Sys2Proof.Machine.exec (.headFrameStart h) s = .next t ∧ (t.head h).frames.getLast? = some f ∧
    f.no = (s.head h).nextNo ∧ f.tick = s.fld R.tickCount ∧ f.edge = s.tick.edge ∧ f.wrap = (s.head h).wrapNext ∧
    f.contBreak = (s.head h).contBreak ∧ (t.head h).nextNo = ((s.head h).nextNo + 1) % 2 ^ 32 ∧
    (t.head h).wrapNext = ((s.head h).nextNo + 1 == 2 ^ 32) ∧ (t.head h).contBreak = false ∧ (t.head h).due = false ∧
    (t.head h).periods = (s.head h).periods + 1) ∧
  (∀ (s : State) (h : Fin 4), s.calm = true → (s.head h).due = true → (s.head h).timing = true → s.hState h ≠ 4 → ∃ t,
    Sys2Proof.Machine.exec (.headFrameStart h) s = .next t ∧ (t.head h).frames = (s.head h).frames ∧
    (t.head h).nextNo = (s.head h).nextNo ∧ (t.head h).due = false ∧ (t.head h).periods = (s.head h).periods + 1)

/-- REFERENCE_EVALUATION with the device alive and a frame period behind the timing: without samples, with a sample of
0x0000 or 0xFFFF, or (once one was accepted) with a step above HEAD_REF_STEP, HEAD_FPA_T.T stays and STALE is set;
otherwise T becomes the interpolated temperature of the samples (the function tfpaOf), STALE is cleared, and the
reference counts as accepted. (03_head_ports.md) -/
def Obligations.ReferenceEvaluated : Prop :=
  ∀ (s : State) (h : Fin 4), s.calm = true → (s.head h).timing = true → 0 < (s.head h).periods → ∃ t,
    Sys2Proof.Machine.exec (.referenceEvaluation h) s = .next t ∧
    let x := s.head h
    let new := tfpaOf x.refL (s.flag (R.headRefCtlDiff h)) x.refSum x.refN
    let old := s.fld (R.headFpaTT h)
    (if x.refN = 0 ∨ x.refBad = true ∨ (x.everAcc = true ∧ s.fld (R.headRefStep h) < max new old - min new old) then
      t.fld (R.headFpaTT h) = old ∧ t.flag (R.headFpaTStale h) = true
    else
      t.fld (R.headFpaTT h) = new ∧ t.flag (R.headFpaTStale h) = false ∧ (t.head h).refOk = true ∧
      (t.head h).everAcc = true)

/-- For every gain code, trims within their registers, offset code and zero offset: the delivered code is at most 65535
and does not fall when the tap voltage rises; and with the gain trim at its middle, the threshold trim at its middle
and no zero offset, a tap at 2.0 V plus the DAC's share (122.07 uV per code, exactly 2 V / 16384) gives 32768.
Readings and choices of the model behind it: log entry 13. (04_analog_front_end.md) -/
def Obligations.ConversionIsMonotone : Prop :=
  (∀ (g gt ct a : Nat) (v w o : Int), gt < 256 → v ≤ w →
    convCode g gt ct a v o ≤ convCode g gt ct a w o ∧ convCode g gt ct a w o ≤ 65535) ∧
  (∀ (g a : Nat) (v : Int), (v - 2000000000) * 16384 = 2000000000 * ((a : Int) - 8192) → convCode g 128 32 a v 0 = 32768)

/-- PIXEL_CONVERSION, device alive, timing on, row r being read and not cut or a calibration row, tap period j of the
row: a video tap worked by slice l delivers the code of R68 with the code its DAC holds and the weight in force,
with status 2 while l is being replaced, else 1 at 0 or 65535, else 0; a video tap without a working slice delivers
status 3; REF_A inside the reference window (DIFF 0), whose slice is not in threshold training, adds its code less
32768 to the sum and 1 to the count. No other pixel, no memory and no other head changes. Readings and choices of
the model behind it: log entries 13, 14. (04_analog_front_end.md, 03_head_ports.md) -/
def Obligations.PixelConversionDelivers : Prop :=
  (∀ (s : State) (h : Fin 4) (r j : Nat) (k : Fin 36) (v o : Int) (f : Frame) (l : Nat), s.calm = true →
    (s.head h).timing = true → s.curFrame h = some f → f.rows = r → r + f.cut < s.nRows h → s.isCalRow h r = false →
    j < s.nPer h → k.val < 32 → k.val < s.nTaps h → s.sliceOn h k = some l → ∃ t,
    Sys2Proof.Machine.exec (.pixelConversion h r j k v o false) s = .next t ∧
    let d := convCode (s.fld (R.afeGrpCtlGain h)) (s.fld (R.afeSliceTrimGtrim (38 * h + l)))
      (s.fld (R.afeSliceTrimCtrim (38 * h + l))) (s.slice (38 * h + l)).dac v o
    (t.pix h r (s.colOf h k j)).have_ = true ∧ (t.pix h r (s.colOf h k j)).d = d ∧
    (t.pix h r (s.colOf h k j)).a = (s.slice (38 * h + l)).dac ∧
    (t.pix h r (s.colOf h k j)).w = s.wFor h (38 * h + l) (some f) ∧
    (t.pix h r (s.colOf h k j)).st =
      (if (s.group h).takes.any (·.failing == l) then 2 else if d = 0 ∨ d = 65535 then 1 else 0) ∧
    (∀ r' c', pixKey r' c' ≠ pixKey r (s.colOf h k j) → t.pix h r' c' = s.pix h r' c') ∧ t.mem = s.mem ∧
    t.heads = s.heads) ∧
  (∀ (s : State) (h : Fin 4) (r j : Nat) (k : Fin 36) (v o : Int) (e : Bool) (f : Frame), s.calm = true →
    (s.head h).timing = true → s.curFrame h = some f → f.rows = r → r + f.cut < s.nRows h → s.isCalRow h r = false →
    j < s.nPer h → k.val < 32 → k.val < s.nTaps h → s.sliceOn h k = none → ∃ t,
    Sys2Proof.Machine.exec (.pixelConversion h r j k v o e) s = .next t ∧ (t.pix h r (s.colOf h k j)).have_ = true ∧
    (t.pix h r (s.colOf h k j)).st = 3 ∧ t = { s with pipes := t.pipes, freeCtr := t.freeCtr }) ∧
  (∀ (s : State) (h : Fin 4) (r j : Nat) (k : Fin 36) (v o : Int) (f : Frame) (l : Nat), s.calm = true →
    (s.head h).timing = true → s.curFrame h = some f → f.rows = r → r + f.cut < s.nRows h → s.isCalRow h r = false →
    j < s.nPer h → k.val = 32 + s.fld (R.headRefCtlRefA h) → s.flag (R.headRefCtlDiff h) = false →
    s.inRefWin h r = true → s.sliceOn h k = some l → (s.group h).trainThr.contains l = false → ∃ t,
    Sys2Proof.Machine.exec (.pixelConversion h r j k v o false) s = .next t ∧
    (t.head h).refN = (s.head h).refN + 1 ∧
    (t.head h).refSum = (s.head h).refSum + ((convCode (s.fld (R.afeGrpCtlGain h))
      (s.fld (R.afeSliceTrimGtrim (38 * h + l))) (s.fld (R.afeSliceTrimCtrim (38 * h + l)))
      (s.fld (R.headRefCtlRefAcode h)) v o : Nat) : Int) - 32768 ∧
    (∀ g, g ≠ h.val → t.head g = s.head g) ∧ t.mem = s.mem)

/-- With the device alive: CAL_ROW in a calibration row that is not cut adds 1 (saturating) to CAL_AGE of every slice of
the group and, of a working video slice with BGCAL_EN whose codes it brings and that is not being replaced, counts
the row and leaves the DAC at 8192; CAL_RESULT of a full accumulation goes on to the next measurement and either
clears FAILRUN and CAL_AGE (accepted) or adds 1 to FAILRUN, saturating (refused under R80, the function calRefused);
SLICE_FAILING at FAIL_LIM sets FAILING; SPARE_CAL_RESULT of a spare with BGCAL_EN that neither trains nor takes a
tap over, given the conversions of a whole measurement, clears FAILRUN (accepted) or adds 1 to it (refused), goes on
to the next measurement, and at FAIL_LIM retires the spare and takes its input away. Memory stays. Readings and
choices of the model behind it: log entries 15, 16. (04_analog_front_end.md) -/
def Obligations.SliceCalibration : Prop :=
  (∀ (s : State) (h : Fin 4) (r l : Nat) (cs : List (Nat × Bool)), s.calm = true → (s.head h).timing = true →
    s.isCalRow h r = true → ((s.periodFor h r).all fun f => r + f.cut < s.nRows h) = true → l < 38 → s.fld (R.afeSliceCtlRole (38 * h + l)) = 0 →
    s.fld (R.afeSliceCtlInput (38 * h + l)) < 32 → (s.group h).takes.any (·.failing == l) = false →
    s.flag (R.afeSliceCtlBgcalEn (38 * h + l)) = true → ∃ t,
    Sys2Proof.Machine.exec (.calRow h r [(l, cs)] []) s = .next t ∧ (t.slice (38 * h + l)).dac = 8192 ∧
    (t.slice (38 * h + l)).rows = (s.slice (38 * h + l)).rows + 1 ∧
    (∀ j, j < 38 →
      t.fld (R.afeSliceStatCalAge (38 * h + j)) = min 65535 (s.fld (R.afeSliceStatCalAge (38 * h + j)) + 1)) ∧
    t.mem = s.mem) ∧
  (∀ (s : State) (h : Fin 4) (l : Fin 38), s.calm = true → s.fld (R.afeSliceCtlRole (38 * h + l)) = 0 →
    2 ^ s.fld (R.afeGrpCalCalAvg h) ≤ (s.slice (38 * h + l)).rows → ∃ t,
    Sys2Proof.Machine.exec (.calResult h l) s = .next t ∧ (t.slice (38 * h + l)).rows = 0 ∧
    (t.slice (38 * h + l)).meas = ((s.slice (38 * h + l)).meas + 1) % 3 ∧ t.mem = s.mem ∧
    (if s.calRefused h (38 * h + l) (s.slice (38 * h + l)).meas (s.calValue h (s.slice (38 * h + l)))
        (s.slice (38 * h + l)).bad (s.hState h == 3) then
      t.fld (R.afeSliceStatFailrun (38 * h + l)) = min 255 (s.fld (R.afeSliceStatFailrun (38 * h + l)) + 1)
    else t.fld (R.afeSliceStatFailrun (38 * h + l)) = 0 ∧ t.fld (R.afeSliceStatCalAge (38 * h + l)) = 0)) ∧
  (∀ (s : State) (h : Fin 4) (l : Fin 38), s.calm = true → s.fld (R.afeSliceCtlRole (38 * h + l)) = 0 →
    s.fld (R.afeGrpCalFailLim h) ≤ s.fld (R.afeSliceStatFailrun (38 * h + l)) →
    s.flag (R.afeSliceStatFailing (38 * h + l)) = false → ∃ t,
    Sys2Proof.Machine.exec (.sliceFailing h l) s = .next t ∧ t.flag (R.afeSliceStatFailing (38 * h + l)) = true ∧
    t.mem = s.mem) ∧
  (∀ (s : State) (h : Fin 4) (l : Fin 38) (cs es : List Nat), s.calm = true →
    s.fld (R.afeSliceCtlRole (38 * h + l)) = 1 → (s.slice (38 * h + l)).train = false →
    s.flag (R.afeSliceCtlBgcalEn (38 * h + l)) = true → 2 ^ s.fld (R.afeGrpCalCalAvg h) * s.nPer h ≤ cs.length →
    (s.group h).takes.any (·.spare == l.val) = false → 1 ≤ s.fld (R.afeGrpCalFailLim h) → ∃ t,
    Sys2Proof.Machine.exec (.spareCalResult h l cs es) s = .next t ∧
    (t.slice (38 * h + l)).meas = ((s.slice (38 * h + l)).meas + 1) % 3 ∧ t.mem = s.mem ∧
    (if (s.spareConvs h l (convs cs es)).spareRefused h l then
      t.fld (R.afeSliceStatFailrun (38 * h + l)) = min 255 (s.fld (R.afeSliceStatFailrun (38 * h + l)) + 1) ∧
      (s.fld (R.afeGrpCalFailLim h) ≤ min 255 (s.fld (R.afeSliceStatFailrun (38 * h + l)) + 1) →
        t.fld (R.afeSliceCtlRole (38 * h + l)) = 2 ∧ t.fld (R.afeSliceCtlInput (38 * h + l)) = 63)
    else t.fld (R.afeSliceStatFailrun (38 * h + l)) = 0 ∧ t.fld (R.afeSliceCtlRole (38 * h + l)) = 1))

/-- With the device alive: a hard fault above HARD_LIM, or 4096 equal codes with STUCK_EN, declares the slice for
replacement (cases 2 and 3) with AUTO_SWAP, and without it leaves it in service and reports the case; TAKEOVER of
the first declared slice, with no earlier fault waiting, connects the lowest free spare to its tap with the tap's
SPHASE, or with none free and a hard fault retires the slice and sets TAP_LOST; SPARE_TAKES_TAP makes the spare the
working slice of the tap and retires the failing one with no input; REQUALIFY_DONE, once a result was refused or the
threshold training and the nine results of three full rotations have come, ends the requalification and returns a
slice none of whose results was refused as a spare with FAILRUN and FAILING 0. Readings and choices of the model
behind it: log entries 16, 69. (04_analog_front_end.md) -/
def Obligations.SliceTakeover : Prop :=
  (∀ (s : State) (h : Fin 4) (l : Fin 38), s.calm = true → s.fld (R.afeSliceCtlRole (38 * h + l)) = 0 →
    s.fld (R.afeGrpHardHardLim h) < (s.slice (38 * h + l)).rowErr → (s.group h).decl.any (·.1 == l.val) = false →
    (s.group h).takes.any (·.failing == l.val) = false → ∃ t,
    Sys2Proof.Machine.exec (.hardFaultDetected h l) s = .next t ∧ t.mem = s.mem ∧
    (if s.flag (R.afeGrpCtlAutoSwap h) then t = { s with groups := t.groups, ao := t.ao } ∧
        t.ao = { s.ao with faults := t.ao.faults } ∧ t.ao.faults.getLast? = some (1, 38 * h.val + l.val) ∧
        (t.group h).decl = (s.group h).decl ++ [(l.val, 2, none)]
      else t.groups = s.groups ∧ (s.events.length < 256 → s.logReads = true → t.events.map (·.code) = s.events.map (·.code) ++ [0x0306]))) ∧
  (∀ (s : State) (h : Fin 4) (l : Fin 38), s.calm = true → s.fld (R.afeSliceCtlRole (38 * h + l)) = 0 →
    s.flag (R.afeGrpHardStuckEn h) = true → 4096 ≤ (s.slice (38 * h + l)).stuckN →
    (s.group h).decl.any (·.1 == l.val) = false → (s.group h).takes.any (·.failing == l.val) = false → ∃ t,
    Sys2Proof.Machine.exec (.stuckDetected h l) s = .next t ∧ (t.slice (38 * h + l)).stuckN = 0 ∧ t.mem = s.mem ∧
    (if s.flag (R.afeGrpCtlAutoSwap h) then t = { s with groups := t.groups, slices := t.slices, ao := t.ao } ∧
        t.ao = { s.ao with faults := t.ao.faults } ∧
        (t.group h).decl = (s.group h).decl ++ [(l.val, 3, none)]
      else t.groups = s.groups ∧ (s.events.length < 256 → s.logReads = true → t.events.map (·.code) = s.events.map (·.code) ++ [0x0306]))) ∧
  (∀ (s : State) (h : Fin 4) (l case sp : Nat) (rest : List (Nat × Nat × Option Nat)), s.calm = true → s.ao.faults = [] →
    (s.group h).decl = (l, case, none) :: rest → l < 38 → s.fld (R.afeSliceCtlRole (38 * h + l)) = 0 →
    (s.afeSpares h).head? = some sp → s.calState h ≠ 3 → ∃ t,
    Sys2Proof.Machine.exec (.takeover h) s = .next t ∧ (t.group h).decl = rest ∧
    (∃ k, (t.group h).takes = (s.group h).takes ++ [k] ∧ k.failing = l ∧ k.spare = sp ∧
      k.tap = s.fld (R.afeSliceCtlInput (38 * h + l))) ∧
    t.fld (R.afeSliceCtlInput (38 * h + sp)) = s.fld (R.afeSliceCtlInput (38 * h + l)) ∧
    t.fld (R.afeSlicePhaseSphase (38 * h + sp)) = s.fld (R.afeSlicePhaseSphase (38 * h + l)) ∧ t.mem = s.mem) ∧
  (∀ (s : State) (h : Fin 4) (l : Nat) (rest : List (Nat × Nat × Option Nat)), s.calm = true → s.ao.faults = [] →
    (s.group h).decl = (l, 2, none) :: rest → l < 38 → s.fld (R.afeSliceCtlRole (38 * h + l)) = 0 →
    s.afeSpares h = [] → ∃ t,
    Sys2Proof.Machine.exec (.takeover h) s = .next t ∧ t.fld (R.afeSliceCtlRole (38 * h + l)) = 2 ∧
    t.fld (R.afeSliceCtlInput (38 * h + l)) = 63 ∧ t.flag (R.afeGrpStatTapLost h) = true ∧ t.mem = s.mem) ∧
  (∀ (s : State) (h : Fin 4) (l : Fin 38) (r : Nat) (k : Takeover), s.calm = true →
    (s.group h).takes.find? (·.failing == l.val) = some k → k.spare < 38 → k.spare ≠ l.val → k.tap < 64 → ∃ t,
    Sys2Proof.Machine.exec (.spareTakesTap h l r) s = .next t ∧ t.fld (R.afeSliceCtlRole (38 * h + l)) = 2 ∧
    t.fld (R.afeSliceCtlInput (38 * h + l)) = 63 ∧ t.fld (R.afeSliceCtlRole (38 * h + k.spare)) = 0 ∧
    t.fld (R.afeSliceCtlInput (38 * h + k.spare)) = k.tap) ∧
  (∀ (s : State) (h : Fin 4) (l : Fin 38) (u : Nat) (q : Nat × Option Nat), s.calm = true →
    (s.group h).requal.find? (·.1 == l.val) = some q →
    ((s.group h).rqBad.contains l.val = true ∨
      ((s.slice (38 * h + l)).rqThr = true ∧ 9 ≤ (s.slice (38 * h + l)).rqN)) → ∃ t,
    Sys2Proof.Machine.exec (.requalifyDone h l u) s = .next t ∧ (t.group h).requal = (s.group h).requal.erase q ∧
    t.mem = s.mem ∧ (if (s.group h).rqBad.contains l.val = false then t.fld (R.afeSliceCtlRole (38 * h + l)) = 1 ∧
        t.fld (R.afeSliceStatFailrun (38 * h + l)) = 0 ∧ t.flag (R.afeSliceStatFailing (38 * h + l)) = false
      else t.fld (R.afeSliceCtlRole (38 * h + l)) = s.fld (R.afeSliceCtlRole (38 * h + l))))

/-- With the device alive: TRAINING_START of a requested run of an idle or running head (no attach queue in the way)
sets TRAINING and no other register but the inputs of the spares that stand in for reference slices; a threshold
result whose longest run of valid codes (thrMask: no status-2 conversion) is wide enough and centred within 16 to 47
sets CTRIM to its centre, rounded down, and COMP_OK, any other leaves CTRIM and clears COMP_OK; a phase result whose
longest run of valid steps (phMask: differences within TRAIN_TOL of their mean) is wide enough, with a free spare,
sets PHASE_OK and the phase for the next frame start, any other clears PHASE_OK; TRAINING_DONE with no pass open
clears TRAINING and ends the run. Readings and choices of the model behind it: log entries 17, 88.
(04_analog_front_end.md) -/
def Obligations.TrainingRuns : Prop :=
  (∀ (s : State) (h : Fin 4), s.calm = true → (s.group h).trainReq ≠ 0 → (s.group h).trainKind = 0 →
    (s.hState h = 3 ∨ s.hState h = 4) → ¬((s.group h).trainReq = 1 ∧ (s.hl h).run = true ∧ (s.hl h).attach = true) → ∃ t,
    Sys2Proof.Machine.exec (.trainingStart h) s = .next t ∧ t.flag (R.afeGrpStatTraining h) = true ∧
    (t.group h).trainKind = (s.group h).trainReq ∧ (t.group h).trainReq = 0 ∧
    (∀ o, o ≠ (R.afeGrpStatTraining h).off →
      (∀ l ∈ s.afeSpares h ++ (s.group h).stand.map (·.2), o ≠ (R.afeSliceCtlInput (38 * h + l)).off) → t.reg o = s.reg o) ∧
    t = { s with regs := t.regs, groups := t.groups, slices := t.slices }) ∧
  (∀ (s : State) (h : Fin 4) (l : Fin 38) (errs : List (List Bool)) (lost : Bool), s.calm = true →
    (s.group h).trainThr.contains l.val = true → ∃ t,
    Sys2Proof.Machine.exec (.thresholdTrainingResult h l errs lost) s = .next t ∧
    (t.group h).trainThr = (s.group h).trainThr.erase l.val ∧ t.mem = s.mem ∧
    match longestRun (s.freeCtr + 1) (s.thrMask h errs) with
    | some w =>
      if s.fld (R.afeGrpTrainTrainMinw h) ≤ w.2 - w.1 + 1 ∧ 16 ≤ (w.1 + w.2) / 2 ∧ (w.1 + w.2) / 2 ≤ 47 ∧ lost = false then
        t.fld (R.afeSliceTrimCtrim (38 * h + l)) = (w.1 + w.2) / 2 ∧ t.flag (R.afeSliceStatCompOk (38 * h + l)) = true
      else t.fld (R.afeSliceTrimCtrim (38 * h + l)) = s.fld (R.afeSliceTrimCtrim (38 * h + l)) ∧
        t.flag (R.afeSliceStatCompOk (38 * h + l)) = false
    | none => t.fld (R.afeSliceTrimCtrim (38 * h + l)) = s.fld (R.afeSliceTrimCtrim (38 * h + l)) ∧
        t.flag (R.afeSliceStatCompOk (38 * h + l)) = false) ∧
  (∀ (s : State) (h : Fin 4) (tap : Fin 36) (l : Nat) (steps : List (List (Nat × Nat))) (lost : Bool), s.calm = true →
    (s.group h).trainPh.contains tap.val = true → s.sliceOn h tap = some l → ∃ t,
    Sys2Proof.Machine.exec (.phaseTrainingResult h tap steps lost) s = .next t ∧
    (t.group h).trainPh = (s.group h).trainPh.erase tap.val ∧ t.mem = s.mem ∧
    t.fld (R.afeSlicePhaseSphase (38 * h + l)) = s.fld (R.afeSlicePhaseSphase (38 * h + l)) ∧
    match longestRun (s.freeCtr + 1) (s.phMask h steps) with
    | some w =>
      if s.fld (R.afeGrpTrainTrainMinw h) ≤ w.2 - w.1 + 1 ∧ lost = false ∧ s.afeSpares h ≠ [] then
        (t.slice (38 * h + l)).phNext = some ((w.1 + w.2) / 2) ∧ t.flag (R.afeSliceStatPhaseOk (38 * h + l)) = true
      else t.flag (R.afeSliceStatPhaseOk (38 * h + l)) = false
    | none => t.flag (R.afeSliceStatPhaseOk (38 * h + l)) = false) ∧
  (∀ (s : State) (h : Fin 4), s.calm = true → (s.group h).trainKind ≠ 0 → (s.group h).trainThr = [] →
    (s.group h).trainPh = [] → ∃ t, Sys2Proof.Machine.exec (.trainingDone h) s = .next t ∧
    t.flag (R.afeGrpStatTraining h) = false ∧ (t.group h).trainKind = 0 ∧ t.mem = s.mem)

/-- With the device up and not frozen: train of an idle or running head with a free spare and no run requested requests
a run; swap of a working, undeclared slice of such a head with a free spare declares it (case 5); requalify of a
retired slice of such a head puts it in requalification, with its measurements to begin afresh. Swap with no free
spare is refused with cause 1 in AFE_ERR, requalify of a head neither idle nor running, and train of one with no run
requested or running, with cause 4; a refusal changes no other register and nothing else. Readings and choices of
the model behind it: log entry 69. (04_analog_front_end.md) -/
def Obligations.AfeGroupCommands : Prop :=
  (∀ (s : State) (g : Fin 4), s.ao.up = true → s.ao.frozen = false → (s.group g).trainKind = 0 → (s.group g).trainReq = 0 →
    (s.hState g = 3 ∨ s.hState g = 4) → s.afeSpares g ≠ [] → ∃ t, Sys2Proof.Machine.exec (.afeCmdTrain g) s = .next t ∧
    t.group g = { s.group g with trainReq := 2, trainCmd := none } ∧ t = { s with groups := t.groups }) ∧
  (∀ (s : State) (g : Fin 4) (l : Fin 64), s.ao.up = true → s.ao.frozen = false → s.afeSpares g ≠ [] → l.val < 38 →
    s.fld (R.afeSliceCtlRole (38 * g + l)) = 0 → (s.group g).decl.any (·.1 == l.val) = false →
    (s.group g).takes.any (·.failing == l.val) = false → (s.hState g = 3 ∨ s.hState g = 4) → ∃ t,
    Sys2Proof.Machine.exec (.afeCmdSwap g l) s = .next t ∧
    t.group g = { s.group g with decl := (s.group g).decl ++ [(l.val, 5, none)] } ∧ t = { s with groups := t.groups }) ∧
  (∀ (s : State) (g : Fin 4) (l : Fin 64), s.ao.up = true → s.ao.frozen = false → (s.hState g = 3 ∨ s.hState g = 4) →
    l.val < 38 → s.fld (R.afeSliceCtlRole (38 * g + l)) = 2 → (s.group g).requal.any (·.1 == l.val) = false → ∃ t,
    Sys2Proof.Machine.exec (.afeCmdRequalify g l) s = .next t ∧
    t.group g = { s.group g with requal := (s.group g).requal ++ [(l.val, none)] } ∧
    t.slice (38 * g + l) = { (s.slice (38 * g + l)).restart with train := true, rqThr := false, rqN := 0, meas := 0 } ∧
    (∀ k, k ≠ 38 * g.val + l.val → t.slice k = s.slice k) ∧ t = { s with groups := t.groups, slices := t.slices }) ∧
  (∀ (s : State) (g : Fin 4), s.ao.up = true → s.ao.frozen = false → (s.group g).trainKind = 0 → (s.group g).trainReq = 0 →
    s.hState g ≠ 3 → s.hState g ≠ 4 → ∃ t, Sys2Proof.Machine.exec (.afeCmdTrain g) s = .next t ∧
    t.reg R.afeErr.off = BitVec.ofNat 32 (2 ^ 31 + 4 * 2 ^ 20 + (0x20020 + 0x100 * g.val)) ∧
    (∀ o, o ≠ R.afeErr.off → t.reg o = s.reg o) ∧ t = { s with regs := t.regs }) ∧
  (∀ (s : State) (g : Fin 4) (l : Fin 64), s.ao.up = true → s.ao.frozen = false → s.afeSpares g = [] → ∃ t,
    Sys2Proof.Machine.exec (.afeCmdSwap g l) s = .next t ∧
    t.reg R.afeErr.off = BitVec.ofNat 32 (2 ^ 31 + 2 ^ 20 + (0x20020 + 0x100 * g.val)) ∧
    (∀ o, o ≠ R.afeErr.off → t.reg o = s.reg o) ∧ t = { s with regs := t.regs }) ∧
  (∀ (s : State) (g : Fin 4) (l : Fin 64), s.ao.up = true → s.ao.frozen = false → s.hState g ≠ 3 → s.hState g ≠ 4 → ∃ t,
    Sys2Proof.Machine.exec (.afeCmdRequalify g l) s = .next t ∧
    t.reg R.afeErr.off = BitVec.ofNat 32 (2 ^ 31 + 4 * 2 ^ 20 + (0x20020 + 0x100 * g.val)) ∧
    (∀ o, o ≠ R.afeErr.off → t.reg o = s.reg o) ∧ t = { s with regs := t.regs })

/-- With the device up and not frozen, a register write of CORR_INV_EPS changes no pipeline state; a write of CORR_LOFF
makes the value written and the present CORR_INV_EPS the committed pair; and a frame that a running head starts
carries the pair committed at that moment and no later one. (R113) -/
def Obligations.EmissivityPairCommits : Prop :=
  (∀ (s : State) (h : Fin 4) (w : BitVec 32) (fw : Bool), s.ao.up = true → s.ao.frozen = false → ∃ t,
    Sys2Proof.Machine.exec (.registerWrite (BitVec.ofNat 24 (0xC008C + 0x10000 * h.val)) w true fw) s = .next t ∧
    t.pipes = s.pipes ∧ t.mem = s.mem) ∧
  (∀ (s : State) (h : Fin 4) (v : BitVec 32), s.ao.up = true → s.ao.frozen = false → ∃ t,
    Sys2Proof.Machine.exec (.corrLoffWrite h v) s = .next t ∧ t.fld (R.corrLoff h) = v.toNat % 2 ^ (R.corrLoff h).len ∧
    (t.pipe h).loff = t.fld (R.corrLoff h) ∧ (t.pipe h).inv = s.fld (R.corrInvEps h) ∧
    (∀ g, g ≠ h.val → t.pipe g = s.pipe g) ∧ (∀ o, o ≠ (R.corrLoff h).off → t.reg o = s.reg o) ∧
    t = { s with regs := t.regs, pipes := t.pipes }) ∧
  (∀ (s : State) (h : Fin 4), s.calm = true → (s.head h).due = true → (s.head h).timing = true → s.hState h = 4 → ∃ t f,
    Sys2Proof.Machine.exec (.headFrameStart h) s = .next t ∧ (t.head h).frames.getLast? = some f ∧
    f.loff = (s.pipe h).loff ∧ f.inv = (s.pipe h).inv)

/-- With the device alive: ROW_FETCH_ISSUE of a read row whose fetch is due (the function fetchDue) and whose slot q mod
8 is free opens that slot for the row, frame and bank; ROW_FETCH_DONE of an open slot brings nCols records, each
with its data and whether it read without uncorrectable error; ACODE_LOAD of a row being read (the function frameAt
gives its frame) judges the pixel's record and loads its code into the working slice exactly when the record is in
the slot, of the frame's bank, good and of the frame's generation, outside calibration rows. With the device up and
not frozen, a generation write whose low 4 bits equal those of a bank's generation, or that names the active bank,
changes only CORRn_ERR; any other is stored. With the device alive, TABLE_REPAIR of a noted record in device DRAM,
with no golden copy to wait for, rewrites it with the record that the function repaired gives, changes no other
byte, and counts it; RADIOMETRIC_REPAIR of a bank whose part has an uncorrectable error rewrites the active bank's
part from the on-chip copy, or makes the inactive bank invalid. Readings and choices of the model behind it: log
entry 70. (05_correction_and_radiometry.md, 06_shutter_calibration.md) -/
def Obligations.RecordFetchAndRepair : Prop :=
  (∀ (s : State) (h : Fin 4) (no q : Nat), s.calm = true → q < s.nRows h → s.fetchDue h no q = true →
    (tget (fun _ => ({} : Slot)) (s.pipe h).slots (q % 8)).issued = false → ∃ t,
    Sys2Proof.Machine.exec (.rowFetchIssue h no q) s = .next t ∧
    tget (fun _ => ({} : Slot)) (t.pipe h).slots (q % 8) =
      { row := q, frame := no, bank := s.bankFor h no, issued := true } ∧ t = { s with pipes := t.pipes }) ∧
  (∀ (s : State) (h : Fin 4) (q : Nat) (sl : Slot), s.calm = true →
    tget (fun _ => ({} : Slot)) (s.pipe h).slots (q % 8) = sl → sl.issued = true → sl.arrived = false → sl.row = q → ∃ t,
    Sys2Proof.Machine.exec (.rowFetchDone h q) s = .next t ∧
    tget (fun _ => ({} : Slot)) (t.pipe h).slots (q % 8) = { sl with
        arrived := true
        recs := (List.range (s.nCols h)).map (fun c => (s.rd (s.recBase h sl.bank + 16 * (q * s.nCols h) + 16 * c) 16,
          !s.ueIn (s.recBase h sl.bank + 16 * (q * s.nCols h) + 16 * c) 16)) } ∧ t.mem = s.mem) ∧
  (∀ (s : State) (h : Fin 4) (r c : Nat) (f : Frame) (sl : Slot), s.calm = true → s.frameAt h r = some f →
    c < s.nCols h → tget (fun _ => ({} : Slot)) (s.pipe h).slots (r % 8) = sl → ∃ t,
    Sys2Proof.Machine.exec (.acodeLoad h r c) s = .next t ∧ t = { s with pipes := t.pipes, slices := t.slices } ∧
    let use := sl.arrived && sl.row == r && sl.frame == f.no && sl.bank == f.bank && (sl.recs.getD c (0, false)).2 &&
      recGen4 (sl.recs.getD c (0, false)).1 == f.gen % 16
    (t.pix h r c).late = !use ∧
    (∀ l, s.sliceOn h (s.tapOf h c) = some l → (t.slice (38 * h + l)).dac =
      if use = true ∧ s.isCalRow h r = false then recAcode (sl.recs.getD c (0, false)).1 else (s.slice (38 * h + l)).dac)) ∧
  (∀ (s : State) (h : Fin 4) (b : Fin 2) (gen : BitVec 16), s.ao.up = true → s.ao.frozen = false → ∃ t,
    Sys2Proof.Machine.exec (.corrBankGenWrite h b gen) s = .next t ∧ t = { s with regs := t.regs } ∧
    (if s.genRefused h gen.toNat = true ∨ (s.pipe h).active = some b.val then
      nbits (t.reg (R.corrErr h).off).toNat 31 1 = 1 ∧ (∀ o, o ≠ (R.corrErr h).off → t.reg o = s.reg o)
    else t.fld (R.corrBankGen h b) = gen.toNat ∧ (∀ o, o ≠ (R.corrBankGen h b).off → t.reg o = s.reg o))) ∧
  (∀ (s : State) (h : Fin 4) (b : Fin 2) (idx : Nat), s.calm = true → (s.cal h).repairs.contains (b.val, idx) = true → s.ao.faults = [] → s.goldWaits h = false →
    inDram (s.recBase h b + 16 * idx) 16 = true → ∃ t,
    Sys2Proof.Machine.exec (.tableRepair h b idx) s = .next t ∧
    t.rd (s.recBase h b + 16 * idx) 16 = (s.repaired h b idx).1 % 2 ^ 128 ∧
    (∀ a, a < s.recBase h b + 16 * idx ∨ s.recBase h b + 16 * idx + 16 ≤ a → t.byte a = s.byte a) ∧
    (t.cal h).repairs = (s.cal h).repairs.erase (b.val, idx) ∧
    t.fld (R.calRepairs h) = (s.fld (R.calRepairs h) + 1) % 2 ^ (R.calRepairs h).len) ∧
  (∀ (s : State) (h : Fin 4) (b : Fin 2), s.calm = true → s.ueIn (s.lutBase h b) 0x8800 = true →
    (s.pipe h).active = some b.val → Sys2Proof.Machine.exec (.radiometricRepair h b) s =
      .next { s.dramWrite h (s.lutBase h b) (((s.pipe h).lut b).map (leBytes 4)).flatten with pending := s.pending }) ∧
  (∀ (s : State) (h : Fin 4) (b : Fin 2), s.calm = true → s.ueIn (s.lutBase h b) 0x8800 = true →
    (s.pipe h).active ≠ some b.val → ∃ t, Sys2Proof.Machine.exec (.radiometricRepair h b) s = .next t ∧
    t.flag (if b.val = 0 then R.calStatusBank0Valid h else R.calStatusBank1Valid h) = false ∧ t.mem = s.mem ∧
    t.pipes = s.pipes)

/-- PIXEL_CORRECTION of a converted, not yet corrected pixel of the row being read, with the device alive, marks the
pixel done. Where the frame is no build frame, one format alone is on and the pixel's place in it is in device DRAM:
RAW16 holds its code and RECON24 its V (the function corrV) in 24 bits with the slice status above, whatever becomes
of its C; for a pixel not late of a frame not held, CCOUNT16 holds the count, TEMP16 and TEMP32 the temperature (the
functions ccount, pixelTemp, temp16) of its C, with the frame's emissivity pair or, with EMAP, that of its record's
material, and CORR_RAD_CLAMP rises by the clamps that bind and a material entry out of range; its C is the computed
one, or outside calibration rows, where R104 replaces the pixel, the replacement by its record's method (the
function replace). Every other byte of memory stays. A replacement by method 7, or by method 0 without a usable left
neighbour, is CORR_BAD_CONST less 32768; by method 0 it is the left neighbour's C, by method 2 with both usable the
rounded mean of left and right. (05_correction_and_radiometry.md) -/
def Obligations.PixelCorrectionWrites : Prop :=
  (∀ (s : State) (h : Fin 4) (r c : Nat) (f : Frame), s.calm = true → s.curFrame h = some f → f.rows = r →
    c < s.nCols h → (s.pix h r c).have_ = true → (s.pix h r c).done = false → ∃ t,
    Sys2Proof.Machine.exec (.pixelCorrection h r c) s = .next t ∧ (t.pix h r c).done = true) ∧
  (∀ (s : State) (h : Fin 4) (r c k : Nat) (f : Frame), s.calm = true → s.curFrame h = some f → f.rows = r →
    c < s.nCols h → (s.pix h r c).have_ = true → (s.pix h r c).done = false → f.build = false →
    k < 2 → s.fld (R.corrFmtEn h) = 2 ^ k → inDram (s.outAddr h k f.slot r c) (fmtWidth k) = true → ∃ t,
    Sys2Proof.Machine.exec (.pixelCorrection h r c) s = .next t ∧
    let x := s.pix h r c
    t.rd (s.outAddr h k f.slot r c) (fmtWidth k) =
      (if k = 0 then x.d else unsx 24 (corrV x.d x.a x.w) + x.st * 2 ^ 24) % 2 ^ (8 * fmtWidth k) ∧ (t.pix h r c).done = true ∧
    (∀ a, a < s.outAddr h k f.slot r c ∨ s.outAddr h k f.slot r c + fmtWidth k ≤ a → t.byte a = s.byte a)) ∧
  (∀ (s : State) (h : Fin 4) (r c k : Nat) (f : Frame), s.calm = true → s.curFrame h = some f → f.rows = r →
    (s.head h).frames.find? (·.no == f.no) = some f → c < s.nCols h → (s.pix h r c).have_ = true →
    (s.pix h r c).done = false → (s.pix h r c).late = false → f.held = false → f.build = false → 2 ≤ k → k < 5 →
    s.fld (R.corrFmtEn h) = 2 ^ k → inDram (s.outAddr h k f.slot r c) (fmtWidth k) = true → ∃ t,
    Sys2Proof.Machine.exec (.pixelCorrection h r c) s = .next t ∧
    let x := s.pix h r c
    let v := if s.isCalRow h r = false ∧ pixReplaced f x = true then s.replace h f r c (recRepl x.rec_) else pixC22 f x
    let lut := (s.pipe h).lut f.bank
    let e := if f.emap then materialPair lut (recUser x.rec_) else (f.loff, f.inv, false)
    let p := pixelTemp lut v e.1 e.2.1
    t.rd (s.outAddr h k f.slot r c) (fmtWidth k) =
      (if k = 2 then ccount v else if k = 3 then temp16 p.1 (s.flag (R.corrFmtTemp16Lsb h)) else p.1) %
        2 ^ (8 * fmtWidth k) ∧
    t.fld (R.corrRadClamp h) = (if k = 2 then s.fld (R.corrRadClamp h)
      else (s.fld (R.corrRadClamp h) + ((if e.2.2 then 1 else 0) + p.2)) % 2 ^ (R.corrRadClamp h).len) ∧
    (t.pix h r c).done = true ∧
    (∀ a, a < s.outAddr h k f.slot r c ∨ s.outAddr h k f.slot r c + fmtWidth k ≤ a → t.byte a = s.byte a)) ∧
  (∀ (s : State) (h : Fin 4) (r c : Nat) (f : Frame), c ≠ 0 →
    let k7 := ((s.fld (R.corrBadConst h) : Int) - 32768) * 2 ^ 22
    let l := s.neighbour h f (s.isBlind h c) r (c - 1)
    s.replace h f r c 7 = k7 ∧ (l = none → s.replace h f r c 0 = k7) ∧ (∀ a, l = some a → s.replace h f r c 0 = a) ∧
    (∀ a b, l = some a → s.neighbour h f (s.isBlind h c) r (c + 1) = some b → s.replace h f r c 2 = rdiv (a + b) 2))

/-- With the device alive: after LATE_FILL_DONE a waiting pixel waits no longer, and with CCOUNT16 the only derived
format, both places in device DRAM and the previous value free of uncorrectable errors, its place holds the value of
the head's previous frame and no other byte changes; CAL_AVERAGE_FRAME of a corrected, usable pixel of the first
averaged frame writes its accumulator entry in device DRAM with its term and a count of 1 and changes no other byte;
ROW_COMPLETE of a row that is not cut writes the row's line status word (inside DRAM), changes no other byte, and
the frame goes on to the next row with no flags; FRAME_LANDED of a complete frame without late pixels of its own
waiting marks it landed in the present tick. Memory stays in the last. (05_correction_and_radiometry.md,
06_shutter_calibration.md) -/
def Obligations.RowsAndFramesComplete : Prop :=
  (∀ (s : State) (h : Fin 4) (r c no : Nat) (v : Int) (f : Frame), s.calm = true →
    ((s.pipe h).lateFill.find? fun e => e.2.1 == r && e.2.2.1 == c) = some (no, r, c, v) → (s.head h).frames.find? (·.no == no) = some f → ∃ t,
    Sys2Proof.Machine.exec (.lateFillDone h r c) s = .next t ∧
    (t.pipe h).lateFill = (s.pipe h).lateFill.erase (no, r, c, v) ∧
    (s.derivedFmts h = [2] → inDram (s.outAddr h 2 (f.prev) r c) 2 = true →
      s.ueIn (s.outAddr h 2 (f.prev) r c) 2 = false → inDram (s.outAddr h 2 f.slot r c) 2 = true →
      t.rd (s.outAddr h 2 f.slot r c) 2 = s.rd (s.outAddr h 2 (f.prev) r c) 2 ∧
      (∀ a, a < s.outAddr h 2 f.slot r c ∨ s.outAddr h 2 f.slot r c + 2 ≤ a → t.byte a = s.byte a))) ∧
  (∀ (s : State) (h : Fin 4) (r c : Nat) (f : Frame), s.calm = true → s.curFrame h = some f → f.rows = r → f.avg = 1 →
    c < s.nCols h → (s.pix h r c).done = true → (s.pix h r c).late = false → (s.pix h r c).st = 0 →
    s.isCalRow h r = false → inDram (s.accAddr h (r * s.nCols h + c)) 4 = true → ∃ t,
    Sys2Proof.Machine.exec (.calAverageFrame h r c) s = .next t ∧
    nbits (t.rd (s.accAddr h (r * s.nCols h + c)) 4) 27 5 = 1 ∧
    sext 27 (nbits (t.rd (s.accAddr h (r * s.nCols h + c)) 4) 0 27) =
      satI 23 (rne (corrS8 (corrV (s.pix h r c).d (s.pix h r c).a (s.pix h r c).w) (corrT f.tfpa f.tcal)
        (s.pix h r c).rec_) 4) ∧
    (∀ a, a < s.accAddr h (r * s.nCols h + c) ∨ s.accAddr h (r * s.nCols h + c) + 4 ≤ a → t.byte a = s.byte a)) ∧
  (∀ (s : State) (h : Fin 4) (r : Nat) (f : Frame), s.calm = true → s.curFrame h = some f → f.rows = r →
    r + f.cut < s.nRows h → inDram (s.lstatAddr h f.slot r) 2 = true → ∃ t,
    Sys2Proof.Machine.exec (.rowComplete h r) s = .next t ∧
    t.rd (s.lstatAddr h f.slot r) 2 =
      (f.line ||| ((if s.isCalRow h r then 64 else 0) ||| (if f.sliceRows.contains r then 256 else 0))) % 2 ^ 16 ∧
    (t.head h).frames = (s.head h).frames.map (fun g => if g.no = f.no then { g with rows := r + 1, line := 0 } else g) ∧
    (∀ a, a < s.lstatAddr h f.slot r ∨ s.lstatAddr h f.slot r + 2 ≤ a → t.byte a = s.byte a)) ∧
  (∀ (s : State) (h : Fin 4) (f : Frame), s.calm = true → (s.head h).frames.find? (!·.landed) = some f →
    s.nRows h ≤ f.rows → (s.pipe h).lateFill.any (·.1 == f.no) = false → ∃ t, Sys2Proof.Machine.exec (.frameLanded h) s = .next t ∧
    (t.head h).frames = (s.head h).frames.map (fun g => if g.no = f.no then
      { f with landed := true, landTick := s.fld R.tickCount } else g) ∧ t.mem = s.mem)

/-- With the device up and not frozen: CAL_CMD_LOAD_OPEN of a bank that R119 allows clears its VALID, sets LOCK and
names the bank, and the bank's on-chip copy no longer counts, otherwise only CALn_ERR changes, to CAUSE 9;
CAL_CMD_LOAD_CLOSE of the bank that was opened clears LOCK, sets VALID and notes the bank as host-loaded, of another
bank, or with LOCK clear, it is refused with CAUSE 9; CAL_CMD_ABORT with no event running is refused with CAUSE 8,
and of an event not yet abandoned or decided sets LAST_RESULT 10 and counts CALn_REFUSED; CAL_CMD_REQUEST with no
event running sets PENDING and queues one shutter request, merging into a pending one with the higher priority;
CAL_CMD_ACTIVATE puts an activation request last in the queue and starts the refill of a valid, inactive bank.
Memory stays. (06_shutter_calibration.md, 02_tick_and_time.md) -/
def Obligations.BankLoadAndCalCommands : Prop :=
  (∀ (s : State) (h : Fin 4) (b : Fin 2), s.ao.up = true → s.ao.frozen = false → s.openRefused h b = false → ∃ t,
    Sys2Proof.Machine.exec (.calCmdLoadOpen h b) s = .next t ∧ t.flag (bankValid h b) = false ∧
    t.flag (R.calStatusLock h) = true ∧ t.cal h = { s.cal h with lockBank := b } ∧
    (t.pipe h).filled = (s.pipe h).filled.erase b.val ∧ (t.pipe h).refill = (s.pipe h).refill.filter (·.1 != b.val) ∧
    (∀ o, o ≠ (R.calStatusLock h).off → t.reg o = s.reg o) ∧ t = { s with regs := t.regs, cals := t.cals, pipes := t.pipes }) ∧
  (∀ (s : State) (h : Fin 4) (b : Fin 2), s.ao.up = true → s.ao.frozen = false → s.openRefused h b = true → ∃ t,
    Sys2Proof.Machine.exec (.calCmdLoadOpen h b) s = .next t ∧
    t.reg (R.calErr h).off = BitVec.ofNat 32 (2 ^ 31 + 9 * 2 ^ 16 + 0x50) ∧
    (∀ o, o ≠ (R.calErr h).off → t.reg o = s.reg o) ∧ t = { s with regs := t.regs }) ∧
  (∀ (s : State) (h : Fin 4) (b : Fin 2), s.ao.up = true → s.ao.frozen = false → ∃ t,
    Sys2Proof.Machine.exec (.calCmdLoadClose h b) s = .next t ∧ t = { s with regs := t.regs, cals := t.cals } ∧
    (if s.flag (R.calStatusLock h) = true ∧ (s.cal h).lockBank = b.val then
        t.cal h = { s.cal h with loaded := (s.cal h).loaded.erase b.val ++ [b.val] } ∧ t.flag (R.calStatusLock h) = false ∧ t.flag (bankValid h b) = true ∧
        (∀ o, o ≠ (R.calStatusLock h).off → t.reg o = s.reg o)
      else t.cals = s.cals ∧ t.reg (R.calErr h).off = BitVec.ofNat 32 (2 ^ 31 + 9 * 2 ^ 16 + 0x50) ∧
        (∀ o, o ≠ (R.calErr h).off → t.reg o = s.reg o))) ∧
  (∀ (s : State) (h : Fin 4), s.ao.up = true → s.ao.frozen = false → s.calRuns h = false → ∃ t,
    Sys2Proof.Machine.exec (.calCmdAbort h) s = .next t ∧
    t.reg (R.calErr h).off = BitVec.ofNat 32 (2 ^ 31 + 8 * 2 ^ 16 + 0x50) ∧
    (∀ o, o ≠ (R.calErr h).off → t.reg o = s.reg o) ∧ t = { s with regs := t.regs }) ∧
  (∀ (s : State) (h : Fin 4), s.ao.up = true → s.ao.frozen = false → s.calRuns h = true → (s.cal h).lDone = false →
    (s.cal h).abandoned = false → ∃ t, Sys2Proof.Machine.exec (.calCmdAbort h) s = .next t ∧
    t.fld (R.calStatusLastResult h) = 10 ∧ t.fld (R.calRefused h) = (s.fld (R.calRefused h) + 1) % 2 ^ 16 ∧
    t.mem = s.mem) ∧
  (∀ (s : State) (h : Fin 4), s.ao.up = true → s.ao.frozen = false → s.calRuns h = false → ∃ t,
    Sys2Proof.Machine.exec (.calCmdRequest h) s = .next t ∧ t.flag (R.calStatusPending h) = true ∧
    (if s.flag (R.calStatusPending h) then (t.cal h).reqSrc = max (s.cal h).reqSrc 3 ∧ t = { s with cals := t.cals }
      else (t.cal h).reqSrc = 3 ∧ t.reqs = s.reqs ++ [{ kind := .shutter, obj := h }] ∧
        t = { s with cals := t.cals, regs := t.regs, reqs := t.reqs })) ∧
  (∀ (s : State) (h : Fin 4) (b : Fin 2) (gen : BitVec 16), s.ao.up = true → s.ao.frozen = false → ∃ t,
    Sys2Proof.Machine.exec (.calCmdActivate h b gen) s = .next t ∧
    t.reqs.getLast? = some { kind := .activation, obj := h, p0 := b, p1 := gen.toNat } ∧
    (s.flag (bankValid h b) = true → (s.pipe h).active ≠ some b.val → (t.pipe h).refill = some (b.val, s.now)) ∧
    t = { s with reqs := t.reqs, pipes := t.pipes, cmds := t.cmds })

/-- With the device alive: LUT_REFILL_DONE makes the words at the bank's base the on-chip copy. ACTIVATION_COMMIT of the
first committed activation: with a first cause (the function activationCause) nothing will switch and CALn_ERR shows
it; with none and the refill complete the switch is due at the edge; with the copy not complete the request is bound
anew to the next commit point, the refill of its bank runs, and TICK_OVERRUN counts. A generation is newer exactly
when its distance mod 65536 is 1 to 32767, and one not newer is never switched to. CAL_INTERVAL_TRIGGER with AUTO
moves the clock to the due instant and leaves PENDING set. CAL_REQUEST_COMMIT clears PENDING; a host request refused
with cause k shows k in CALn_ERR and does not start; an accepted one reserves both profiles' charges (MODE 0).
Readings and choices of the model behind it: log entry 70. (06_shutter_calibration.md, 02_tick_and_time.md) -/
def Obligations.ActivationAndRequests : Prop :=
  (∀ (s : State) (h : Fin 4) (b t0 : Nat), s.calm = true → (s.pipe h).refill = some (b, t0) → b < 2 → ∃ t,
    Sys2Proof.Machine.exec (.lutRefillDone h) s = .next t ∧ (t.pipe h).refill = none ∧
    (t.pipe h).filled.contains b = true ∧
    (if b = 0 then (t.pipe h).lut0 else (t.pipe h).lut1) = ((List.range 8704).map fun k => s.rd (s.lutBase h b + 4 * k) 4) ∧
    (t.pipe h).active = (s.pipe h).active ∧ t.mem = s.mem) ∧
  (∀ (s : State) (h : Fin 4) (q : Req) (c : Nat), s.calm = true →
    s.reqs.find? (fun q => q.committed && q.kind == .activation && q.obj == h.val) = some q →
    s.activationCause h q.p0 q.p1 false = some c → ∃ t, Sys2Proof.Machine.exec (.activationCommit h) s = .next t ∧
    t.pipes = s.pipes ∧ t.reqs = s.reqs.erase q ∧ t.reg (R.calErr h).off = BitVec.ofNat 32 (2 ^ 31 + c * 2 ^ 16 + 0x50) ∧
    (∀ o, o ≠ (R.calErr h).off → t.reg o = s.reg o) ∧ t.mem = s.mem) ∧
  (∀ (s : State) (h : Fin 4) (q : Req), s.calm = true →
    s.reqs.find? (fun q => q.committed && q.kind == .activation && q.obj == h.val) = some q →
    s.activationCause h q.p0 q.p1 false = none → ∃ t, Sys2Proof.Machine.exec (.activationCommit h) s = .next t ∧
    (if (s.pipe h).filled.contains q.p0 then t.reqs = s.reqs.erase q ∧ t.regs = s.regs ∧
        t.pipe h = { s.pipe h with actNext := some (q.p0, q.p1, q.cmd, false) }
      else t.reqs = (s.deferReq q).reqs ∧ (t.pipe h).refill.map (·.1) = some q.p0 ∧ (t.pipe h).actNext = (s.pipe h).actNext ∧ t.fld R.tickOverrun = (s.fld R.tickOverrun + 1) % 2 ^ 16) ∧ t.mem = s.mem) ∧
  (∀ (s : State) (h b gen : Nat) (own : Bool), gen < 65536 → s.fld (R.corrActiveGen h) < 65536 → (s.pipe h).active.isSome = true →
    s.activationCause h b gen own = none → ∃ d, 1 ≤ d ∧ d ≤ 32767 ∧ (s.fld (R.corrActiveGen h) + d) % 65536 = gen) ∧
  (∀ (s : State) (h : Fin 4) (e : Nat), s.calm = true → s.fld (R.calTrigInterval h) ≠ 0 → s.flag (R.calCtlAuto h) = true →
    s.hState h = 4 → s.calRuns h = false → (s.cal h).lastEnd = some e → ∃ t,
    Sys2Proof.Machine.exec (.calIntervalTrigger h) s = .next t ∧ t.flag (R.calStatusPending h) = true ∧
    t.now = max s.now (e + max (s.fld (R.calTrigInterval h)) (s.fld (R.calMinGap h)) * 256000000000) ∧
    (t.cal h).accepted = (s.cal h).accepted ∧ t.mem = s.mem) ∧
  (∀ (s : State) (h : Fin 4) (q : Req) (k : Nat), s.calm = true → s.committedReq .shutter h = some q →
    ((s.dropReq q).setFlag (R.calStatusPending h) false).requestCause h = some k → (s.cal h).reqSrc = 3 → ∃ t,
    Sys2Proof.Machine.exec (.calRequestCommit h) s = .next t ∧ t.flag (R.calStatusPending h) = false ∧
    (t.cal h).accepted = (s.cal h).accepted ∧ t.calState h = s.calState h ∧
    t.reg (R.calErr h).off = BitVec.ofNat 32 (2 ^ 31 + k * 2 ^ 16 + 0x50) ∧ t.reqs = s.reqs.erase q ∧ t.mem = s.mem) ∧
  (∀ (s : State) (h : Fin 4) (q : Req), s.calm = true → s.committedReq .shutter h = some q →
    ((s.dropReq q).setFlag (R.calStatusPending h) false).requestCause h = none → s.flag (R.calCtlMode h) = false → ∃ t,
    Sys2Proof.Machine.exec (.calRequestCommit h) s = .next t ∧ t.flag (R.calStatusPending h) = false ∧
    (t.cal h).accepted = true ∧ t.fld (R.calStatusRestarts h) = 0 ∧ t.flag (R.actChStatRsv (2 * h.val)) = true ∧
    (t.act (2 * h.val)).rsvClose = some (s.planned2 (2 * h.val) (s.fld (R.calProfClose h))) ∧
    (t.act (2 * h.val)).rsvOpen = some (s.planned2 (2 * h.val) (s.fld (R.calProfOpen h))) ∧ t.mem = s.mem)

/-- With the device alive, for an accepted request: CAL_CLOSING_START at F0 (a fresh frame without CONT_BREAK) marks it
held with the number before it, and with MODE 1 settling (STATE 2) begins, with MODE 0 closing (STATE 1) unless the
start is refused (LAST_RESULT 1). CAL_CLOSING_END and CAL_SETTLE_DONE record the end of closing and of SETTLE frames
and change nothing else. CAL_POSITION_TIMEOUT abandons with LAST_RESULT 2 one frame period after the close profile.
CAL_BUILD_FRAME_START after NAVG frames gives the inactive bank the generation buildGen (newer than the active one)
and writes no byte outside the 0x8800 bytes of that bank's radiometric part; the build goes on in STATE 4, unless in
MODE 0 the start of the open profile is refused (LAST_RESULT 1). Readings and choices of the model behind it: log
entries 12, 63. (06_shutter_calibration.md) -/
def Obligations.ShutterEventOpens : Prop :=
  (∀ (s : State) (h : Fin 4) (f : Frame), s.calm = true → s.freshFrame h = some f → (s.cal h).accepted = true →
    f.contBreak = false → s.calState h = 0 → ∃ t, Sys2Proof.Machine.exec (.calClosingStart h) s = .next t ∧
    (t.cal h).f0 = f.no ∧ (t.cal h).accepted = false ∧ t.mem = s.mem ∧
    (∀ g ∈ (t.head h).frames, g.no = f.no → g.held = true ∧ g.heldNo = (f.no + 4294967295) % 4294967296) ∧
    (if s.flag (R.calCtlMode h) then t.calState h = 2
      else t.calState h = 1 ∨ t.fld (R.calStatusLastResult h) = 1)) ∧
  (∀ (s : State) (h : Fin 4), s.calm = true → s.calState h = 1 → (s.cal h).closeDone = true →
    (s.flag (R.calCtlAposReq h) = true → s.flag (R.actChStatPos (2 * h.val)) = true) → ∃ t,
    Sys2Proof.Machine.exec (.calClosingEnd h) s = .next t ∧ t.cal h = { s.cal h with closed := true } ∧
    t = { s with cals := t.cals } ∧ (∀ g, g ≠ h.val → t.cal g = s.cal g)) ∧
  (∀ (s : State) (h : Fin 4), s.calm = true → s.calState h = 1 → (s.cal h).closeDone = true → (s.cal h).closed = false →
    s.flag (R.calCtlAposReq h) = true → s.flag (R.actChStatPos (2 * h.val)) = false → (s.cal h).abandoned = false → ∃ t,
    Sys2Proof.Machine.exec (.calPositionTimeout h) s = .next t ∧ t.fld (R.calStatusLastResult h) = 2 ∧
    t.now = max s.now ((s.cal h).closeT + s.framePer h) ∧ t.mem = s.mem ∧ t.heads = s.heads) ∧
  (∀ (s : State) (h : Fin 4), s.calm = true → s.calState h = 2 → s.fld (R.calFramesSettle h) ≤ (s.cal h).cnt → ∃ t,
    Sys2Proof.Machine.exec (.calSettleDone h) s = .next t ∧ t.cal h = { s.cal h with avgNext := true } ∧
    t = { s with cals := t.cals } ∧ (∀ g, g ≠ h.val → t.cal g = s.cal g)) ∧
  (∀ (s : State) (h : Fin 4) (f : Frame), s.calm = true → s.freshFrame h = some f → s.calState h = 3 →
    s.fld (R.calFramesNavg h) ≤ (s.cal h).cnt → f.avg = 0 → s.inactive h < 2 → ∃ t,
    Sys2Proof.Machine.exec (.calBuildFrameStart h) s = .next t ∧ (t.cal h).bank = s.inactive h ∧
    (t.cal h).gen = s.buildGen h ∧ t.fld (R.corrBankGen h (s.inactive h)) = s.buildGen h ∧
    ((t.calState h = 4 ∧ (t.cal h).building = true) ∨
      (s.flag (R.calCtlMode h) = false ∧ t.fld (R.calStatusLastResult h) = 1)) ∧
    (∀ a, a < s.lutBase h (s.inactive h) ∨ s.lutBase h (s.inactive h) + 0x8800 ≤ a → t.byte a = s.byte a)) ∧
  (∀ (s : State) (h : Nat), newerGen (s.buildGen h) (s.fld (R.corrActiveGen h)) = true)

/-- With the device alive: CAL_VERDICT of a build whose frame is complete and no record of it waits (the code verdictOf)
sets LAST_RESULT, and with 0 makes the built bank valid, sets CAL_LAST_T and counts CALn_EVENTS, otherwise leaves it
invalid and counts CALn_REFUSED; the active bank stays. CAL_OPENING_END and CAL_OPEN_SETTLE_DONE record their ends
and change nothing else. CAL_LIVE_FRAME at a ready event ends the held frames and the event (STATE 0, no longer
running). ABANDON_HOLD_EXPIRED, once ABANDON_HOLD frames are behind the one in progress, returns it to idle too
after an abandonment with a faulted channel. No memory byte changes. Readings and choices of the model behind it:
log entries 12, 63, 89. (06_shutter_calibration.md) -/
def Obligations.ShutterEventCloses : Prop :=
  (∀ (s : State) (h : Fin 4) (f : Frame), s.calm = true → (s.head h).frames.find? (·.build) = some f →
    (s.cal h).building = true → (s.cal h).builds = [] → s.nRows h ≤ f.rows → f.truncated = false → (s.cal h).bank < 2 → ∃ t,
    Sys2Proof.Machine.exec (.calVerdict h) s = .next t ∧ t.fld (R.calStatusLastResult h) = s.verdictOf h ∧
    (t.cal h).building = false ∧ (t.pipe h).active = (s.pipe h).active ∧ t.mem = s.mem ∧ t.heads = s.heads ∧
    (if s.verdictOf h = 0 then t.flag (bankValid h (s.cal h).bank) = true ∧ t.flag (R.calLastTValid h) = true ∧
        t.fld (R.calLastTT h) = (s.cal h).tLast % 2 ^ 20 ∧ t.fld (R.calEvents h) = (s.fld (R.calEvents h) + 1) % 2 ^ 16 ∧
        (t.cal h).verdict = 1
      else t.flag (bankValid h (s.cal h).bank) = false ∧ t.fld (R.calEvents h) = s.fld (R.calEvents h) ∧
        t.fld (R.calRefused h) = (s.fld (R.calRefused h) + 1) % 2 ^ 16 ∧ (t.cal h).verdict = 2)) ∧
  (∀ (s : State) (h : Nat), s.verdictOf h < 8) ∧
  (∀ (s : State) (h : Fin 4), s.calm = true → s.calState h = 4 ∨ s.calState h = 5 → (s.cal h).openDone = true →
    (s.flag (R.calCtlAposReq h) = true → s.flag (R.actChStatPos (2 * h.val)) = false) → ∃ t,
    Sys2Proof.Machine.exec (.calOpeningEnd h) s = .next t ∧ t.cal h = { s.cal h with opened := true } ∧
    t = { s with cals := t.cals } ∧ (∀ g, g ≠ h.val → t.cal g = s.cal g)) ∧
  (∀ (s : State) (h : Fin 4), s.calm = true → s.calState h = 6 → s.fld (R.calFramesOpenSettle h) ≤ (s.cal h).cnt → ∃ t,
    Sys2Proof.Machine.exec (.calOpenSettleDone h) s = .next t ∧ t.cal h = { s.cal h with osDone := true } ∧
    t = { s with cals := t.cals } ∧ (∀ g, g ≠ h.val → t.cal g = s.cal g)) ∧
  (∀ (s : State) (h : Fin 4) (f : Frame), s.calm = true → s.freshFrame h = some f → s.calState h = 6 →
    (s.cal h).osDone = true → s.fld (R.calFramesOpenSettle h) < (s.cal h).cnt → (s.cal h).abandoned = true ∨ (s.cal h).verdict = 2 ∨
      ((s.cal h).verdict = 1 ∧ (s.cal h).lDone = true ∧ (s.pipe h).actNext = none) → ∃ t,
    Sys2Proof.Machine.exec (.calLiveFrame h) s = .next t ∧ t.calState h = 0 ∧ t.calRuns h = false ∧
    (∀ g ∈ (t.head h).frames, g.no = f.no → g.held = false) ∧ (t.cal h).lastEnd = some s.now ∧
    (t.act (2 * h.val)).rsvClose = none ∧ (t.act (2 * h.val)).rsvOpen = none ∧
    t.flag (R.calStatusPending h) = (s.flag (R.calStatusPending h) || (s.cal h).takeoverNext) ∧ t.mem = s.mem) ∧
  (∀ (s : State) (h : Fin 4), s.calm = true → s.calState h = 7 → s.fld (R.calFramesAbandonHold h) < (s.cal h).cnt → ∃ t,
    Sys2Proof.Machine.exec (.abandonHoldExpired h) s = .next t ∧ t.calState h = 0 ∧ t.calRuns h = false ∧
    (t.cal h).lastEnd = some s.now ∧ t.mem = s.mem)

/-- For channel c with the device alive: an immediate ACT_CMD_START with a first cause k (the function startCause)
leaves every STATE and shows k in ACT_ERR; with none it runs (STATE 4, phase 0, COUNT + 1) when the minimum off time
has passed, nothing is queued and the peaks allow it, waits (STATE 2) when it has not passed, and is queued last
(STATE 3) otherwise; one at a tick becomes a request last in the queue. ACT_START_AT_TICK, once the starts of lower
channels on that edge have gone, takes its committed request the same way: refused with its first cause, else
waiting, queued or running. ACT_MINOFF_ELAPSED runs a waiting start and ACT_QUEUE_RELEASE the oldest queued one.
ACT_CMD_STOP of a reserved shutter is refused with cause 4, of a running channel begins slow decay at 0, of a
waiting or queued one ends it, and of an idle one only cancels a start that waits for a thermal restart.
ACT_CMD_CLEAR leaves the fault state, its bridge at high impedance, when its condition is gone and is refused with
cause 4 otherwise. Memory stays. Readings and choices of the model behind it: log entries 19, 76.
(07_actuator_drivers.md) -/
def Obligations.ActuatorStarts : Prop :=
  (∀ (s : State) (c : Fin 8) (slot : Fin 4) (k : Nat), s.calm = true → s.startCause c slot .host = some k → ∃ t,
    Sys2Proof.Machine.exec (.actCmdStart c slot false) s = .next t ∧ t.acts = s.acts ∧ t.actQ = s.actQ ∧
    (∀ j, j < 8 → t.actState j = s.actState j) ∧
    t.reg R.actErr.off = BitVec.ofNat 32 (2 ^ 31 + (c.val * 2 ^ 16 + k * 2 ^ 20) + (0x34 + 0x100 * c.val)) ∧ t.mem = s.mem) ∧
  (∀ (s : State) (c : Fin 8) (slot : Fin 4), s.calm = true → s.startCause c slot .host = none → ∃ t,
    Sys2Proof.Machine.exec (.actCmdStart c slot false) s = .next t ∧ t.fld (R.actChStatSlot c) = slot ∧ t.mem = s.mem ∧
    (∀ j, j < 8 → j ≠ c.val → t.actState j = s.actState j ∧ t.act j = s.act j) ∧
    (if s.offPassed c then
      (if s.actQ = [] ∧ s.peakSum + s.peak c slot ≤ s.fld R.actTotalLim then
        t.actState c = 4 ∧ t.fld (R.actChStatPhase c) = 0 ∧ t.fld (R.actChCount c) = (s.fld (R.actChCount c) + 1) % 2 ^ 32 ∧
        (t.act c).phaseT = s.now ∧ (t.act c).bridge = t.phaseBridge c 0 ∧ t.actQ = s.actQ
      else t.actState c = 3 ∧ t.actQ = s.actQ ++ [c.val] ∧ t.fld (R.actChCount c) = s.fld (R.actChCount c))
    else t.actState c = 2 ∧ t.actQ = s.actQ)) ∧
  (∀ (s : State) (c : Fin 8) (slot : Fin 4), s.calm = true → ∃ t,
    Sys2Proof.Machine.exec (.actCmdStart c slot true) s = .next t ∧
    t.reqs.getLast? = some { kind := .actStart, obj := c, p0 := slot } ∧
    t = { s with reqs := t.reqs, cmds := t.cmds }) ∧
  (∀ (s : State) (c : Fin 8) (q : Req), s.calm = true → s.committedReq .actStart c = some q →
    (s.reqs.any fun r => r.committed && r.kind == .actStart && decide (r.obj < c.val)) = false →
    ((List.range 4).any fun h => decide (shutCh h < c.val) && s.seqStartDue h) = false → ∃ t,
    Sys2Proof.Machine.exec (.actStartAtTick c) s = .next t ∧ t.reqs = s.reqs.erase q ∧ t.mem = s.mem ∧
    (match s.startCause c q.p0 .host with
      | some k => t.actState c = s.actState c ∧
        t.reg R.actErr.off = BitVec.ofNat 32 (2 ^ 31 + (c.val * 2 ^ 16 + k * 2 ^ 20) + (0x34 + 0x100 * c.val))
      | none => t.fld (R.actChStatSlot c) = q.p0 % 4 ∧ (t.actState c = 2 ∨ t.actState c = 3 ∨ t.actState c = 4))) ∧
  (∀ (s : State) (c : Fin 8) (e : Nat), s.calm = true → s.actState c = 2 → (s.act c).lastEnd = some e → s.actQ = [] →
    s.peakSum + s.peak c (s.fld (R.actChStatSlot c)) ≤ s.fld R.actTotalLim → ∃ t,
    Sys2Proof.Machine.exec (.actMinoffElapsed c) s = .next t ∧ t.actState c = 4 ∧ t.fld (R.actChStatPhase c) = 0 ∧
    t.now = max s.now (e + s.fld (R.actChMinoff c) * 256000000) ∧ t.mem = s.mem ∧
    (∀ j, j < 8 → j ≠ c.val → t.actState j = s.actState j)) ∧
  (∀ (s : State) (c : Nat) (r : List Nat), s.calm = true → c < 8 → s.actQ = c :: r →
    s.peakSum + s.peak c (s.fld (R.actChStatSlot c)) ≤ s.fld R.actTotalLim → ∃ t,
    Sys2Proof.Machine.exec .actQueueRelease s = .next t ∧ t.actState c = 4 ∧ t.actQ = r ∧ t.mem = s.mem ∧
    (∀ j, j < 8 → j ≠ c → t.actState j = s.actState j)) ∧
  (∀ (s : State) (c : Fin 8), s.ao.up = true → s.ao.frozen = false → ∃ t,
    Sys2Proof.Machine.exec (.actCmdStop c) s = .next t ∧ t.mem = s.mem ∧
    (if s.reserved c then t.acts = s.acts ∧
        t.reg R.actErr.off = BitVec.ofNat 32 (2 ^ 31 + (c.val * 2 ^ 16 + 4 * 2 ^ 20) + (0x34 + 0x100 * c.val)) ∧
        (∀ o, o ≠ R.actErr.off → t.reg o = s.reg o)
      else if s.actState c = 4 then t.act c = { s.act c with stopping := true, bridge := .regulate false 0 0 } ∧ t = { s with acts := t.acts }
      else if s.actState c = 2 ∨ s.actState c = 3 then
        t.actState c = (if s.flag (R.actChCtlEn c) then 1 else 0) ∧ t.actQ = s.actQ.erase c.val ∧ (t.act c).cmd = none
      else t = { s with therm := { s.therm with starts := s.therm.starts.filter (·.1 != c.val) } })) ∧
  (∀ (s : State) (c : Fin 8), s.ao.up = true → s.ao.frozen = false → s.actState c = 5 → ∃ t,
    Sys2Proof.Machine.exec (.actCmdClear c) s = .next t ∧ t = { s with regs := t.regs, acts := t.acts } ∧
    (∀ j, j ≠ c.val → t.act j = s.act j) ∧
    (if s.faultPersists c then t.actState c = 5 ∧ t.act c = s.act c ∧
        t.reg R.actErr.off = BitVec.ofNat 32 (2 ^ 31 + (c.val * 2 ^ 16 + 4 * 2 ^ 20) + (0x34 + 0x100 * c.val))
      else t.actState c = (if s.flag (R.actChCtlEn c) then 1 else 0) ∧ t.fld (R.actChStatFault c) = 0 ∧
        t.act c = { s.act c with bridge := .highZ } ∧ (∀ o, o ≠ (R.actChStatState c).off → t.reg o = s.reg o)))

/-- For channel c, alive: within 9/8 of its budget, ACT_PHASE_END of a running profile takes its samples and charge and
begins the next phase and its bridge state at the phase's end, or after the last phase coasts; ACT_PROFILE_END with
a mean current below 10 mA after the last phase or a stop ends it: idle (or off), high impedance. ACTUATOR_FAULT at
an instant, of a channel not in fault for which a condition of R153 holds (faultCause; 1 for a sample above 1000 mA,
5, without samples and within 9/8 of its budget, for VACT outside 4.5 to 17.5 V) enters STATE 5 with the first cause
and counts it, and so for every other running channel with a condition of the supply, the total or its budget; with
none only the clock and the samples move. APOS_CHANGE with POS_EN, the balls not taken by EXTEST, moves POS once the
level has been stable for POSDEB, and only notes the samples before. SENSE_ZERO_CAL of an idle channel takes a zero
within 20 mA and 5 mA of the last and otherwise counts a refusal, the fourth in a row being fault 3.
CHARGE_BIN_ADVANCE moves the clock to the bin's end and starts a new bin, keeping 63; a running channel above 9/8 of
its budget then faults with cause 4. Up and not frozen, ACT_PHASE_WRITE stores a word that R143 allows and otherwise
only shows the offset in ACT_ERR; VACT_MEASUREMENT enters ACT_VACT. Memory stays. Readings and choices of the model
behind it: log entries 19, 71, 76. (07_actuator_drivers.md) -/
def Obligations.ActuatorProfiles : Prop :=
  (∀ (s : State) (c : Fin 8) (pk vy : Int) (q : Nat), s.calm = true → s.actState c = 4 → (s.act c).last = false → (s.act c).stopping = false →
    s.slotLen c (s.fld (R.actChStatSlot c)) ≤ 8 → 8 * (s.charge c + q) ≤ 9 * s.fld (R.actChBudget c) → ∃ t,
    Sys2Proof.Machine.exec (.actPhaseEnd (c, (pk, vy), q)) s = .next t ∧
    let w := s.fld (R.actChPhase c (s.fld (R.actChStatSlot c)) (s.fld (R.actChStatPhase c)))
    let e := (s.act c).phaseT + phDur w * 10 * 256000
    t.now = max s.now e ∧ t.actState c = 4 ∧ (t.act c).cur = (s.act c).cur + q ∧
    (t.act c).peakI = clampI (-1023) 1023 pk ∧ (t.act c).valleyI = clampI (-1023) 1023 vy ∧
    (if s.fld (R.actChStatPhase c) + 1 < s.slotLen c (s.fld (R.actChStatSlot c)) then
      t.fld (R.actChStatPhase c) = s.fld (R.actChStatPhase c) + 1 ∧ (t.act c).phaseT = e ∧
      (t.act c).bridge = s.phaseBridge c (s.fld (R.actChStatPhase c) + 1) ∧ (t.act c).last = false
    else t.fld (R.actChStatPhase c) = s.fld (R.actChStatPhase c) ∧ (t.act c).last = true ∧ (t.act c).bridge = .coast) ∧
    (∀ o, o ≠ (R.actChStatPhase c).off → o ≠ (R.actChUsed c).off → o ≠ (R.actChI c).off → t.reg o = s.reg o) ∧
    (∀ j, j ≠ c.val → t.act j = s.act j) ∧ t = { s with now := t.now, regs := t.regs, acts := t.acts }) ∧
  (∀ (s : State) (c : Fin 8) (pk vy : Int) (q u : Nat), s.calm = true → s.actState c = 4 →
    (s.act c).last = true ∨ (s.act c).stopping = true → (pk + vy).natAbs < 20 →
    8 * (s.charge c + q) ≤ 9 * s.fld (R.actChBudget c) → ∃ t,
    Sys2Proof.Machine.exec (.actProfileEnd c ((pk, vy), u) q) s = .next t ∧ t.now = max s.now u ∧
    t.actState c = (if s.flag (R.actChCtlEn c) then 1 else 0) ∧ (t.act c).lastEnd = some (max s.now u) ∧
    (t.act c).cur = (s.act c).cur + q ∧ (t.act c).last = false ∧ (t.act c).stopping = false ∧ (t.act c).bridge = .highZ ∧
    (∀ j, j < 8 → j ≠ c.val → t.act j = s.act j ∧ t.actState j = s.actState j) ∧ t.mem = s.mem) ∧
  (∀ (s : State) (c : Fin 8) (per : List (Bool × Int × Int)) (mv u : Nat) (tot : List Nat) (k : Nat), s.calm = true →
    s.actState c ≠ 5 → (s.at u).faultCause c per mv tot = some k → ∃ t,
    Sys2Proof.Machine.exec (.actuatorFault c (per, mv, tot, u)) s = .next t ∧ t.now = max s.now u ∧ t.actState c = 5 ∧
    t.fld (R.actChStatFault c) = k ∧ t.fld (R.actChFaults c) = (s.fld (R.actChFaults c) + 1) % 2 ^ 16 ∧ t.mem = s.mem ∧
    (t.act c).peakI = (match per with | x :: _ => clampI (-1023) 1023 x.2.1 | [] => (s.act c).peakI) ∧
    (∀ j, j < 8 → j ≠ c.val →
      t.actState j = if s.actState j = 4 ∧ ((s.at u).faultCause j [] mv tot).isSome then 5 else s.actState j)) ∧
  (∀ (s : State) (c : Fin 8) (per : List (Bool × Int × Int)) (mv u : Nat) (tot : List Nat), s.calm = true →
    s.actState c ≠ 5 → (s.at u).faultCause c per mv tot = none →
    (∀ j, j < 8 → j ≠ c.val → s.actState j = 4 → (s.at u).faultCause j [] mv tot = none) → ∃ t,
    Sys2Proof.Machine.exec (.actuatorFault c (per, mv, tot, u)) s = .next t ∧ (∀ j, j < 8 → t.actState j = s.actState j) ∧
    (∀ o, o ≠ (R.actChI c).off → t.reg o = s.reg o) ∧ t = { s with now := max s.now u, regs := t.regs, acts := t.acts }) ∧
  (∀ (s : State) (c : Nat) (x : Bool × Int × Int) (per : List (Bool × Int × Int)) (mv : Nat) (tot : List Nat),
    1000 < x.2.1.natAbs ∨ 1000 < x.2.2.natAbs → s.faultCause c (x :: per) mv tot = some 1) ∧
  (∀ (s : State) (c mv : Nat) (tot : List Nat), s.actState c = 4 → s.overBudget c = false → mv < 4500 ∨ 17500 < mv →
    s.faultCause c [] mv tot = some 5) ∧
  (∀ (s : State) (c : Fin 8) (high : Bool) (n : Nat), s.calm = true → s.ballsTaken = false → s.flag (R.actChCtlPosEn c) = true →
    s.flag (R.actChStatPos c) = s.posOf c → s.fld (R.actChPosdeb c) ≤ 10 * n → ∃ t,
    Sys2Proof.Machine.exec (.aposChange c (high, n)) s = .next t ∧
    t.flag (R.actChStatPos c) = (high != s.flag (R.actChCtlPosPol c)) ∧ (t.act c).posHigh = high ∧ t.mem = s.mem) ∧
  (∀ (s : State) (c : Fin 8) (high : Bool) (n : Nat), s.calm = true → s.ballsTaken = false → s.flag (R.actChCtlPosEn c) = true →
    10 * ((if (s.act c).posLvl = high then (s.act c).posRun else 0) + n) < s.fld (R.actChPosdeb c) → ∃ t,
    Sys2Proof.Machine.exec (.aposChange c (high, n)) s = .next t ∧ (t.act c).posLvl = high ∧
    (t.act c).posHigh = (s.act c).posHigh ∧ t = { s with acts := t.acts }) ∧
  (∀ (s : State) (c : Fin 8) (v : Int), s.calm = true → s.actState c = 1 → ∃ t,
    Sys2Proof.Machine.exec (.senseZeroCal c v) s = .next t ∧ t.mem = s.mem ∧
    (if v.natAbs ≤ 20 ∧ (v - (s.act c).zero).natAbs ≤ 5 then
      t.act c = { s.act c with zero := v, zeroRej := 0 } ∧ t = { s with acts := t.acts }
    else (t.act c).zero = (s.act c).zero ∧
      if 3 ≤ (s.act c).zeroRej then t.actState c = 5 ∧ t.fld (R.actChStatFault c) = 3
      else (t.act c).zeroRej = (s.act c).zeroRej + 1 ∧ t.actState c = 1)) ∧
  (∀ (s : State) (c : Fin 8) (q : Nat) (pk vy : Int), s.calm = true →
    s.actState c ≠ 4 ∨ 8 * (s.charge c + q) ≤ 9 * s.fld (R.actChBudget c) → ∃ t,
    Sys2Proof.Machine.exec (.chargeBinAdvance c q (pk, vy)) s = .next t ∧
    t.now = max s.now (s.binEnd c) ∧
    t.act c = { s.act c with
      peakI := clampI (-1023) 1023 pk, valleyI := clampI (-1023) 1023 vy,
      bridge := s.bridgeAfter c pk vy, binT := some (s.binEnd c),
      bins := (((s.act c).cur + q) :: (s.act c).bins).take 63, cur := 0 } ∧
    t.fld (R.actChUsed c) = min ((((s.act c).cur + q) :: (s.act c).bins).take 63).sum 16777215 ∧
    (∀ o, o ≠ (R.actChUsed c).off → o ≠ (R.actChI c).off → t.reg o = s.reg o) ∧
    t = { s with now := t.now, regs := t.regs, acts := t.acts }) ∧
  (∀ (s : State) (c : Fin 8) (q : Nat) (pk vy : Int), s.calm = true → s.actState c = 4 →
    9 * s.fld (R.actChBudget c) < 8 * (s.charge c + q) → ∃ t,
    Sys2Proof.Machine.exec (.chargeBinAdvance c q (pk, vy)) s = .next t ∧ t.actState c = 5 ∧ t.fld (R.actChStatFault c) = 4 ∧
    t.mem = s.mem) ∧
  (∀ (s : State) (c : Fin 8) (slot : Fin 4) (p : Fin 8) (w : BitVec 32), s.ao.up = true → s.ao.frozen = false → ∃ t,
    Sys2Proof.Machine.exec (.actPhaseWrite c slot p w) s = .next t ∧ t = { s with regs := t.regs } ∧
    (if s.phaseOk c slot w.toNat then t.fld (R.actChPhase c slot p) = w.toNat % 2 ^ 30 ∧
        (∀ o, o ≠ (R.actChPhase c slot p).off → t.reg o = s.reg o)
      else t.reg R.actErr.off =
          BitVec.ofNat 32 (2 ^ 31 + c.val * 2 ^ 16 + (0x80 + 0x100 * c.val + 0x20 * slot.val + 4 * p.val)) ∧
        (∀ o, o ≠ R.actErr.off → t.reg o = s.reg o))) ∧
  (∀ (s : State) (mv : Nat), s.ao.up = true → ∃ t, Sys2Proof.Machine.exec (.vactMeasurement mv) s = .next t ∧
    t.fld R.actVact = min mv 65535 ∧ (∀ o, o ≠ R.actVact.off → t.reg o = s.reg o) ∧ t = { s with regs := t.regs })

/-- For every engine that issues ADD, SUB, MUL, AND, OR, XOR, SHL, SHR, SRA, SLT, LI, RSHR, SAT, ENG_NOP or CSR: the
destination (unless s0, which reads zero) gets the result of the table below from A and B' as the engine held them,
the shift counts mod 32, the comparison signed or by X unsigned; CSR reads the engine number, the tile's cycles,
TICK_COUNT, the error bits or the retry count. Every other scalar register, the vector registers, accumulators and
transfers, every other engine and every register of the chip stay; the PC goes on in sequence; of memory only the
engine's own earlier stores may have become visible. (08_engine_array.md) -/
def Obligations.EngineScalarResults : Prop :=
  (∀ p ∈ ([(Instr.engAdd, 0x01, fun _ a b => BitVec.ofNat 32 (a.toNat + b.toNat)),
      (Instr.engSub, 0x02, fun _ a b => BitVec.ofInt 32 (a.toInt - b.toInt)),
      (Instr.engMul, 0x03, fun _ a b => BitVec.ofInt 32 (a.toInt * b.toInt)),
      (Instr.engAnd, 0x04, fun _ a b => a &&& b), (Instr.engOr, 0x05, fun _ a b => a ||| b),
      (Instr.engXor, 0x06, fun _ a b => a ^^^ b),
      (Instr.engShl, 0x07, fun _ a b => BitVec.ofNat 32 (a.toNat * 2 ^ (b.toNat % 32))),
      (Instr.engShr, 0x08, fun _ a b => BitVec.ofNat 32 (a.toNat / 2 ^ (b.toNat % 32))),
      (Instr.engSra, 0x09, fun _ a b => BitVec.ofInt 32 (a.toInt / (2 ^ (b.toNat % 32) : Nat))),
      (Instr.engSlt, 0x0A, fun w a b =>
        if (if iX w = 1 then a.toNat < b.toNat else a.toInt < b.toInt) then 1 else 0),
      (Instr.engLi, 0x0B, fun w _ _ => BitVec.ofNat 32 (iImm w)),
      (Instr.engRshr, 0x0C, fun _ a b => BitVec.ofInt 32 (rne a.toInt (b.toNat % 32))),
      (Instr.engSat, 0x0D, fun w a _ => BitVec.ofInt 32 (if iX w / 32 % 2 = 1
        then max 0 (min (2 ^ (iX w % 32 + 1) - 1) a.toInt)
        else max (-(2 ^ (iX w % 32 + 1))) (min (2 ^ (iX w % 32 + 1) - 1) a.toInt)))] :
      List ((Fin 192 → Instr) × Nat × (Nat → Word → Word → Word))), ∀ (s : State) (e : Fin 192), s.issues e p.2.1 → ∃ t,
    Sys2Proof.Machine.exec (p.1 e) s = .next t ∧
    ScalarIs s t e (iD (s.engWord e)) (p.2.2 (s.engWord e) ((s.eng e).s (iA (s.engWord e))) ((s.eng e).b' (s.engWord e))) ∧
    (t.eng e).vregs = (s.eng e).vregs ∧ (t.eng e).accs = (s.eng e).accs ∧ (t.eng e).xfers = (s.eng e).xfers ∧
    WentOn s t e ∧ EngIsolated s t e ∧ MemKept s t e 0 0) ∧
  (∀ (s : State) (e : Fin 192), s.issues e 0x00 → ∃ t, Sys2Proof.Machine.exec (.engNop e) s = .next t ∧
    (t.eng e).sregs = (s.eng e).sregs ∧ (t.eng e).vregs = (s.eng e).vregs ∧ (t.eng e).accs = (s.eng e).accs ∧
    WentOn s t e ∧ EngIsolated s t e ∧ MemKept s t e 0 0) ∧
  (∀ (s : State) (e : Fin 192) (i : Tile), s.issues e 0x1C → (s.eng e).cur = some i → ∃ t,
    Sys2Proof.Machine.exec (.engCsr e) s = .next t ∧
    ScalarIs s t e (iD (s.engWord e)) (BitVec.ofNat 32 (([e.val, (s.eng e).cyc, s.fld R.tickCount, (s.eng e).ue,
      i.retry] : List Nat).getD (iX (s.engWord e)) 0)) ∧
    (t.eng e).vregs = (s.eng e).vregs ∧ (t.eng e).accs = (s.eng e).accs ∧ WentOn s t e ∧ EngIsolated s t e ∧
    MemKept s t e 0 0)

/-- For an engine that issues LD, VLD, ST, VST, AMO or FENCE (its state after earlier stores drained is `issued`): a
load whose bytes engRead gives puts them, extended by X, in the destination, and without them is engine fault 2; at
a local address, with no block transfer into local memory open, engRead is the little-endian value in memory. A
store to local memory writes exactly its bytes; to shared memory it joins the pending stores; elsewhere it is fault
2. AMO on a shared word returns the old value and stores sum, signed maximum or B after all earlier stores. FENCE
makes every pending store visible. An instruction word with an uncorrectable error (shown for ENG_NOP, LD and VADD)
is fault 6 (R160, R179); in every other clause no error is in the engines' memories. Other engines, registers and
other bytes stay. Readings and choices of the model behind it: log entries 21, 84. (08_engine_array.md) -/
def Obligations.EngineMemoryAccess : Prop :=
  (∀ (s : State) (e : Fin 192) (a n : Nat), areaOf a n = .local_ → (∀ x ∈ (s.eng e).xfers, x.put = true) →
    s.engRead e a n = some (s.rd (localDev e a) n)) ∧
  (∀ (s : State) (e : Fin 192), s.issues e 0x10 → ∃ t, Sys2Proof.Machine.exec (.engLd e) s = .next t ∧
    EngIsolated s t e ∧ MemKept s t e 0 0 ∧ (t.eng e).vregs = (s.eng e).vregs ∧
    let w := s.engWord e
    (match (s.issued e).engRead e (s.engAddr e w) (2 ^ (iX w % 4)) with
      | some v => WentOn s t e ∧ ScalarIs s t e (iD w)
          (if iX w / 4 % 2 = 1 then BitVec.ofInt 32 (sext (8 * 2 ^ (iX w % 4)) v) else BitVec.ofNat 32 v)
      | none => (t.eng e).fault = some (2, 0) ∧ (t.eng e).pc = (s.eng e).pc ∧ (t.eng e).sregs = (s.eng e).sregs)) ∧
  (∀ (s : State) (e : Fin 192), s.issues e 0x28 → ∃ t, Sys2Proof.Machine.exec (.engVld e) s = .next t ∧
    EngIsolated s t e ∧ MemKept s t e 0 0 ∧ (t.eng e).sregs = (s.eng e).sregs ∧
    let w := s.engWord e
    (match (s.issued e).engRead e (s.engAddr e w) 16 with
      | some v => WentOn s t e ∧ ∀ r, (t.eng e).v r = if r = iD w then v else (s.eng e).v r
      | none => (t.eng e).fault = some (2, 0) ∧ (t.eng e).pc = (s.eng e).pc ∧ (t.eng e).vregs = (s.eng e).vregs)) ∧
  (∀ p ∈ ([(Instr.engSt, 0x11, fun x w => leBytes (2 ^ (iX w % 4)) (x.s (iB w)).toNat),
      (Instr.engVst, 0x29, fun x w => leBytes 16 (x.v (iB w)))] : List ((Fin 192 → Instr) × Nat × (Eng → Nat → List Byte))),
    ∀ (s : State) (e : Fin 192), s.issues e p.2.1 → ∃ t, Sys2Proof.Machine.exec (p.1 e) s = .next t ∧
    EngIsolated s t e ∧ (t.eng e).sregs = (s.eng e).sregs ∧ (t.eng e).vregs = (s.eng e).vregs ∧
    let a := s.engAddr e (s.engWord e)
    let bs := p.2.2 (s.eng e) (s.engWord e)
    (match areaOf a bs.length with
      | .local_ => WentOn s t e ∧ t.bytes (localDev e a) bs.length = bs ∧ MemKept s t e (localDev e a) bs.length
      | .shared => WentOn s t e ∧ MemKept s t e 0 0 ∧
          (t.eng e).stores = ((s.issued e).eng e).stores ++ [(sharedDev (e.val / 24) (a - 0x1000000), bs)]
      | _ => (t.eng e).fault = some (2, 0) ∧ (t.eng e).pc = (s.eng e).pc ∧ MemKept s t e 0 0)) ∧
  (∀ (s : State) (e : Fin 192), s.issues e 0x12 → ∃ t, Sys2Proof.Machine.exec (.engAmo e) s = .next t ∧
    EngIsolated s t e ∧
    let w := s.engWord e
    let a := s.engAddr e w
    let dev := sharedDev (e.val / 24) (a - 0x1000000)
    let old : Word := BitVec.ofNat 32 ((s.applyStores (s.eng e).stores).rd dev 4)
    let b := (s.eng e).s (iB w)
    if areaOf a 4 = .shared then WentOn s t e ∧ ScalarIs s t e (iD w) old ∧ (t.eng e).stores = [] ∧ MemKept s t e dev 4 ∧
      BitVec.ofNat 32 (t.rd dev 4) = (if iX w = 0 then old + b else if iX w = 1 then (if old.toInt < b.toInt then b else old) else b)
    else (t.eng e).fault = some (2, 0) ∧ MemKept s t e 0 0 ∧ (t.eng e).sregs = (s.eng e).sregs) ∧
  (∀ (s : State) (e : Fin 192), s.issues e 0x13 → ∃ t, Sys2Proof.Machine.exec (.engFence e) s = .next t ∧
    (t.eng e).stores = [] ∧ t.mem = (s.applyStores (s.eng e).stores).mem ∧ WentOn s t e ∧ EngIsolated s t e ∧
    (t.eng e).sregs = (s.eng e).sregs) ∧
  (∀ p ∈ ([(Instr.engNop, 0x00), (Instr.engLd, 0x10), (Instr.engVadd, 0x2A)] : List ((Fin 192 → Instr) × Nat)),
    ∀ (s : State) (e : Fin 192) (g : Nat), s.calm = true → s.engIssues e = true → iOp (s.engWord e) = p.2 →
    insLegal (s.engWord e) = true → (s.eng e).stores = [] → (g, 2) ∈ s.arr.ecc → 4 * g < progDev e (s.eng e).pc + 8 →
    progDev e (s.eng e).pc < 4 * g + 4 → ∃ t, Sys2Proof.Machine.exec (p.1 e) s = .next t ∧ (t.eng e).fault = some (6, 0) ∧
    (t.eng e).pc = (s.eng e).pc ∧ (t.eng e).sregs = (s.eng e).sregs ∧ t.mem = s.mem)

/-- For an engine that issues: BR goes to IMM when cond(A, B) holds and on in sequence otherwise; CALL stores PC + 1 and
jumps; JR jumps to A mod 2048; LOOP with count 0 skips its body, otherwise opens a loop, and as a third level is
fault 1; TRAP is fault 4 with its code; DONE with every tag free ends the tile with all stores visible, and with a
tag busy waits, its PC and tile as they were and no tile counted; BLKGET and BLKPUT with their tag busy wait,
outside their window, misaligned or writing windows 0 and 2 are fault 3, beyond the local memory (BLKGET) or the
descriptor (BLKPUT) fault 2, and otherwise start one transfer of the tag; WAIT of a free tag clears its error bit
and goes on, of a busy tag changes only visibility of stores; a word that is not legal (ILLEGAL_INSTRUCTION) is
fault 1. Other engines and registers stay (a DONE that ends its tile also counts it in its task). Readings and
choices of the model behind it: log entries 20, 21. (08_engine_array.md) -/
def Obligations.EngineControlAndTransfers : Prop :=
  (∀ (s : State) (e : Fin 192), s.issues e 0x18 → ∃ t, Sys2Proof.Machine.exec (.engBr e) s = .next t ∧ EngIsolated s t e ∧
    MemKept s t e 0 0 ∧ (t.eng e).sregs = (s.eng e).sregs ∧
    let w := s.engWord e
    let a := (s.eng e).s (iA w)
    let b := (s.eng e).s (iB w)
    if (iX w = 0 ∨ iX w = 1 ∧ a = b ∨ iX w = 2 ∧ a ≠ b ∨ iX w = 3 ∧ a.toInt < b.toInt ∨ iX w = 4 ∧ b.toInt ≤ a.toInt ∨
        iX w = 5 ∧ a.toNat < b.toNat ∨ iX w = 6 ∧ b.toNat ≤ a.toNat)
    then (t.eng e).pc = iImm w ∧ (t.eng e).loops = (s.eng e).loops else WentOn s t e) ∧
  (∀ (s : State) (e : Fin 192), s.issues e 0x19 → (s.eng e).pc < 2048 → ∃ t, Sys2Proof.Machine.exec (.engCall e) s = .next t ∧
    EngIsolated s t e ∧ MemKept s t e 0 0 ∧ (t.eng e).pc = iImm (s.engWord e) ∧
    ScalarIs s t e (iD (s.engWord e)) (BitVec.ofNat 32 ((s.eng e).pc + 1))) ∧
  (∀ (s : State) (e : Fin 192), s.issues e 0x1A → ∃ t, Sys2Proof.Machine.exec (.engJr e) s = .next t ∧ EngIsolated s t e ∧
    MemKept s t e 0 0 ∧ (t.eng e).pc = ((s.eng e).s (iA (s.engWord e))).toNat % 2048 ∧ (t.eng e).sregs = (s.eng e).sregs) ∧
  (∀ (s : State) (e : Fin 192), s.issues e 0x1B → ∃ t, Sys2Proof.Machine.exec (.engLoop e) s = .next t ∧ EngIsolated s t e ∧
    MemKept s t e 0 0 ∧ (t.eng e).sregs = (s.eng e).sregs ∧
    let w := s.engWord e
    let pc := (s.eng e).pc
    let n := if iI w then iImm w % 65536 else ((s.eng e).s (iA w)).toNat
    if n = 0 then ((t.eng e).pc, (t.eng e).loops) = seqPc (pc + iX w) (s.eng e).loops
    else if 2 ≤ (s.eng e).loops.length then (t.eng e).fault = some (1, 0) ∧ (t.eng e).pc = pc
    else (t.eng e).pc = (pc + 1) % 2048 ∧ (t.eng e).loops = (pc + 1, pc + iX w, n) :: (s.eng e).loops) ∧
  (∀ (s : State) (e : Fin 192), s.issues e 0x1E → ∃ t, Sys2Proof.Machine.exec (.engTrap e) s = .next t ∧ EngIsolated s t e ∧
    MemKept s t e 0 0 ∧ (t.eng e).fault = some (4, iImm (s.engWord e)) ∧ (t.eng e).pc = (s.eng e).pc) ∧
  (∀ (s : State) (e : Fin 192) (i : Tile), s.issues e 0x1D → (s.eng e).cur = some i → (s.eng e).xfers = [] → ∃ t,
    Sys2Proof.Machine.exec (.engDone e) s = .next t ∧ (t.eng e).cur = none ∧ (t.eng e).stores = [] ∧
    (t.eng e).ran = (s.eng e).ran + 1 ∧ t.mem = (s.applyStores (s.eng e).stores).mem ∧ t.regs = s.regs ∧
    t.arr.tasks.map (·.done) = s.arr.tasks.map (fun k => if k.idx = i.task then k.done + 1 else k.done) ∧
    (∀ g, g ≠ e.val → t.eng g = s.eng g)) ∧
  (∀ (s : State) (e : Fin 192), s.issues e 0x1D → (s.eng e).xfers ≠ [] → ∃ t,
    Sys2Proof.Machine.exec (.engDone e) s = .next t ∧ EngIsolated s t e ∧ MemKept s t e 0 0 ∧
    (t.eng e).pc = (s.eng e).pc ∧ (t.eng e).cur = (s.eng e).cur ∧ (t.eng e).ran = (s.eng e).ran ∧
    (t.eng e).sregs = (s.eng e).sregs ∧ t.arr.tasks = s.arr.tasks) ∧
  (∀ p ∈ ([(Instr.engBlkget, 0x20, false), (Instr.engBlkput, 0x21, true)] : List ((Fin 192 → Instr) × Nat × Bool)),
    ∀ (s : State) (e : Fin 192), s.issues e p.2.1 → ∃ t, Sys2Proof.Machine.exec (p.1 e) s = .next t ∧ EngIsolated s t e ∧
    MemKept s t e 0 0 ∧ (t.eng e).sregs = (s.eng e).sregs ∧
    let w := s.engWord e
    let x := s.eng e
    let win := iX w % 4
    let two := iX w / 32 % 2 = 1
    let len := if two then iImm w % 65536 else iImm w
    let n := if two then iImm w / 65536 else 1
    let str := if two then (s.issued e).winStr e win else 0
    let loc := (x.s (iA w)).toNat
    let off := (x.s (iB w)).toNat
    if x.xfers.any (·.tag == iX w / 4 % 8) then (t.eng e).pc = x.pc ∧ (t.eng e).xfers = x.xfers
    else if ¬ (16 ∣ loc ∧ 16 ∣ off ∧ 16 ∣ len ∧ 16 ∣ str) ∨ (s.issued e).winLen e win < off + (n - 1) * str + len ∨
        (p.2.2 = true ∧ (win = 0 ∨ win = 2)) then (t.eng e).fault = some (3, 0) ∧ (t.eng e).pc = x.pc
    else if (if p.2.2 = true then 0x10000 else 0xFF00) < loc + len * n then (t.eng e).fault = some (2, 0) ∧ (t.eng e).pc = x.pc
    else WentOn s t e ∧ (t.eng e).xfers = x.xfers ++ [({
      tag := iX w / 4 % 8, put := p.2.2, far := (s.issued e).winBase e win + off, len := len, lines := n, stride := str,
      loc := loc, since := s.now } : Xfer)]) ∧
  (∀ (s : State) (e : Fin 192), s.issues e 0x22 → ∃ t, Sys2Proof.Machine.exec (.engWait e) s = .next t ∧ EngIsolated s t e ∧
    MemKept s t e 0 0 ∧ (t.eng e).sregs = (s.eng e).sregs ∧
    let w := s.engWord e
    if iX w / 8 % 2 = 1 then
      (if (s.eng e).xfers = [] then WentOn s t e ∧ (t.eng e).ue = 0 else (t.eng e).pc = (s.eng e).pc ∧ (t.eng e).ue = (s.eng e).ue)
    else if (s.eng e).xfers.any (·.tag == iX w % 8) then (t.eng e).pc = (s.eng e).pc ∧ (t.eng e).ue = (s.eng e).ue
    else WentOn s t e ∧ (t.eng e).ue / 2 ^ (iX w % 8) % 2 = 0) ∧
  (∀ (s : State) (e : Fin 192), s.arr.ecc = [] → s.calm = true → s.engIssues e = true → insLegal (s.engWord e) = false → ∃ t,
    Sys2Proof.Machine.exec (.illegalInstruction e) s = .next t ∧ (t.eng e).fault = some (1, 0) ∧
    (t.eng e).pc = (s.eng e).pc ∧ EngIsolated s t e ∧ t.mem = s.mem)

/-- For an engine that issues: each lane of VADD, VSUB (wrapping or limited), VMULR (rounded product, limited), VMINMAX,
VLOGIC, VCMP is the table's function of the lanes of vA and vB, of VSH and VSPLAT of vA or of A; VRED gives the sum,
minimum or maximum; VEXT and VPERM take the named lane when the form has it; VMAC adds the exact lane products to an
accumulator of its form, wrapping at its width; VACC rounds and limits the accumulator and clears it with X[6]; with
no transfer open, VLUT looks lane-wide entries up in local memory, VHIST (with no store pending) adds 1 to a local
word per lane, and both are fault 2 outside it. Other registers, engines and bytes stay. Readings and choices of the
model behind it: log entry 21. (08_engine_array.md) -/
def Obligations.EngineVectorResults : Prop :=
  (∀ p ∈ ([(Instr.engVadd, 0x2A, fun w a b => unsx (laneW w) (if iX w = 1 then satI (laneW w) (sext (laneW w) a + sext (laneW w) b)
        else sext (laneW w) a + sext (laneW w) b)),
      (Instr.engVsub, 0x2B, fun w a b => unsx (laneW w) (if iX w = 1 then satI (laneW w) (sext (laneW w) a - sext (laneW w) b)
        else sext (laneW w) a - sext (laneW w) b)),
      (Instr.engVmulr, 0x2C, fun w a b => unsx (laneW w) (satI (laneW w) (rne (sext (laneW w) a * sext (laneW w) b) (iX w)))),
      (Instr.engVminmax, 0x2F, fun w a b =>
        let less := if iX w / 2 % 2 = 1 then decide (a < b) else decide (sext (laneW w) a < sext (laneW w) b)
        if iX w % 2 = 1 ↔ less = true then b else a),
      (Instr.engVlogic, 0x30, fun w a b => if iX w = 0 then a &&& b else if iX w = 1 then a ||| b else if iX w = 2 then a ^^^ b
        else a &&& (2 ^ laneW w - 1 - b)),
      (Instr.engVcmp, 0x31, fun w a b => if condOf (laneW w) (iX w) a b then 2 ^ laneW w - 1 else 0)] :
      List ((Fin 192 → Instr) × Nat × (Nat → Nat → Nat → Nat))), ∀ (s : State) (e : Fin 192), s.issues e p.2.1 → ∃ t,
    Sys2Proof.Machine.exec (p.1 e) s = .next t ∧ WentOn s t e ∧ EngIsolated s t e ∧ MemKept s t e 0 0 ∧
    (t.eng e).sregs = (s.eng e).sregs ∧ (t.eng e).accs = (s.eng e).accs ∧
    let w := s.engWord e
    (∀ r, r ≠ iD w → (t.eng e).v r = (s.eng e).v r) ∧
    lanes w ((t.eng e).v (iD w)) = ((lanes w ((s.eng e).v (iA w))).zip (lanes w ((s.eng e).v (iB w)))).map
      (fun q => p.2.2 w q.1 q.2 % 2 ^ laneW w)) ∧
  (∀ (s : State) (e : Fin 192), s.issues e 0x32 → ∃ t, Sys2Proof.Machine.exec (.engVsh e) s = .next t ∧ WentOn s t e ∧
    EngIsolated s t e ∧ MemKept s t e 0 0 ∧ (t.eng e).sregs = (s.eng e).sregs ∧
    let w := s.engWord e
    let k := iX w % 32
    (∀ r, r ≠ iD w → (t.eng e).v r = (s.eng e).v r) ∧
    lanes w ((t.eng e).v (iD w)) = (lanes w ((s.eng e).v (iA w))).map fun a =>
      (if iX w / 32 = 0 then a * 2 ^ k else if iX w / 32 = 1 then a / 2 ^ k
        else if iX w / 32 = 2 then unsx (laneW w) (sext (laneW w) a / (2 ^ k : Nat))
        else unsx (laneW w) (rne (sext (laneW w) a) k)) % 2 ^ laneW w) ∧
  (∀ (s : State) (e : Fin 192), s.issues e 0x33 → ∃ t, Sys2Proof.Machine.exec (.engVsplat e) s = .next t ∧ WentOn s t e ∧
    EngIsolated s t e ∧ MemKept s t e 0 0 ∧ (t.eng e).sregs = (s.eng e).sregs ∧
    let w := s.engWord e
    (∀ r, r ≠ iD w → (t.eng e).v r = (s.eng e).v r) ∧
    lanes w ((t.eng e).v (iD w)) = List.replicate (laneN w) (((s.eng e).s (iA w)).toNat % 2 ^ laneW w)) ∧
  (∀ (s : State) (e : Fin 192), s.issues e 0x34 → ∃ t, Sys2Proof.Machine.exec (.engVred e) s = .next t ∧ WentOn s t e ∧
    EngIsolated s t e ∧ MemKept s t e 0 0 ∧ (t.eng e).vregs = (s.eng e).vregs ∧ ∃ v : Int,
    ScalarIs s t e (iD (s.engWord e)) (BitVec.ofInt 32 v) ∧
    let l := lanesS (s.engWord e) ((s.eng e).v (iA (s.engWord e)))
    (if iX (s.engWord e) = 0 then v = l.sum else v ∈ l ∧ ∀ y ∈ l, if iX (s.engWord e) = 1 then v ≤ y else y ≤ v)) ∧
  (∀ (s : State) (e : Fin 192), s.issues e 0x35 → ∃ t, Sys2Proof.Machine.exec (.engVperm e) s = .next t ∧ WentOn s t e ∧
    EngIsolated s t e ∧ MemKept s t e 0 0 ∧ (t.eng e).sregs = (s.eng e).sregs ∧
    let w := s.engWord e
    (∀ r, r ≠ iD w → (t.eng e).v r = (s.eng e).v r) ∧
    ∀ (i k : Nat), (lanes w ((s.eng e).v (iB w)))[i]? = some k → k % 8 < laneN w →
      (lanes w ((t.eng e).v (iD w)))[i]? = (lanes w ((s.eng e).v (iA w)))[k % 8]?) ∧
  (∀ (s : State) (e : Fin 192), s.issues e 0x38 → ∃ t, Sys2Proof.Machine.exec (.engVext e) s = .next t ∧ WentOn s t e ∧
    EngIsolated s t e ∧ MemKept s t e 0 0 ∧ (t.eng e).vregs = (s.eng e).vregs ∧
    ∀ (a : Nat), (lanes (s.engWord e) ((s.eng e).v (iA (s.engWord e))))[iX (s.engWord e)]? = some a →
      ScalarIs s t e (iD (s.engWord e)) (BitVec.ofInt 32 (sext (laneW (s.engWord e)) a))) ∧
  (∀ (s : State) (e : Fin 192), s.issues e 0x2D → ∃ t, Sys2Proof.Machine.exec (.engVmac e) s = .next t ∧ WentOn s t e ∧
    EngIsolated s t e ∧ MemKept s t e 0 0 ∧ (t.eng e).sregs = (s.eng e).sregs ∧ (t.eng e).vregs = (s.eng e).vregs ∧
    let w := s.engWord e
    let acc := fun (x : Eng) (d : Nat) => tget (fun _ => ({} : EAcc)) x.accs d
    (∀ d, d ≠ iD w → acc (t.eng e) d = acc (s.eng e) d) ∧
    ((acc (s.eng e) (iD w)).form = iW w → (acc (s.eng e) (iD w)).lanes.length = laneN w → ∀ (i : Nat) (a x y : Int),
      (acc (s.eng e) (iD w)).lanes[i]? = some a → (lanesS w ((s.eng e).v (iA w)))[i]? = some x →
      (lanesS w ((s.eng e).v (iB w)))[i]? = some y →
      (acc (t.eng e) (iD w)).lanes[i]? = some (sext (accW w) (unsx (accW w) (a + x * y))))) ∧
  (∀ (s : State) (e : Fin 192), s.issues e 0x2E → ∃ t, Sys2Proof.Machine.exec (.engVacc e) s = .next t ∧ WentOn s t e ∧
    EngIsolated s t e ∧ MemKept s t e 0 0 ∧ (t.eng e).sregs = (s.eng e).sregs ∧
    let w := s.engWord e
    let acc := fun (x : Eng) (d : Nat) => tget (fun _ => ({} : EAcc)) x.accs d
    (∀ r, r ≠ iD w → (t.eng e).v r = (s.eng e).v r) ∧
    acc (t.eng e) (iA w) = (if iX w / 64 % 2 = 1 then {} else acc (s.eng e) (iA w)) ∧
    ((acc (s.eng e) (iA w)).form = iW w → (acc (s.eng e) (iA w)).lanes.length = laneN w →
      lanesS w ((t.eng e).v (iD w)) = (acc (s.eng e) (iA w)).lanes.map fun v => satI (laneW w) (rne v (iX w % 64)))) ∧
  (∀ (s : State) (e : Fin 192), s.issues e 0x36 → (s.eng e).xfers = [] → ∃ t,
    Sys2Proof.Machine.exec (.engVlut e) s = .next t ∧ EngIsolated s t e ∧ MemKept s t e 0 0 ∧
    (t.eng e).sregs = (s.eng e).sregs ∧
    let w := s.engWord e
    let at_ := (lanes w ((s.eng e).v (iB w))).map fun k => ((s.eng e).s (iA w)).toNat + laneW w / 8 * (k / 2 ^ iX w)
    if at_.all fun a => areaOf a (laneW w / 8) == .local_ || areaOf a (laneW w / 8) == .desc then
      WentOn s t e ∧ (∀ r, r ≠ iD w → (t.eng e).v r = (s.eng e).v r) ∧
      lanes w ((t.eng e).v (iD w)) = at_.map fun a => (s.issued e).rd (localDev e a) (laneW w / 8)
    else (t.eng e).fault = some (2, 0) ∧ (t.eng e).pc = (s.eng e).pc ∧ (t.eng e).vregs = (s.eng e).vregs) ∧
  (∀ (s : State) (e : Fin 192), s.issues e 0x37 → (s.eng e).xfers = [] → (s.eng e).stores = [] → ∃ t,
    Sys2Proof.Machine.exec (.engVhist e) s = .next t ∧ EngIsolated s t e ∧ (t.eng e).sregs = (s.eng e).sregs ∧
    (t.eng e).vregs = (s.eng e).vregs ∧
    let w := s.engWord e
    let at_ := (lanes w ((s.eng e).v (iB w))).map fun k => ((s.eng e).s (iA w)).toNat + 4 * (k / 2 ^ iX w)
    if at_.all fun a => areaOf a 4 == .local_ then
      WentOn s t e ∧ (∀ a, a % 4 = 0 → areaOf a 4 = .local_ →
        t.rd (localDev e a) 4 = (s.rd (localDev e a) 4 + at_.count a) % 2 ^ 32) ∧
      (∀ x, (∀ a ∈ at_, x < localDev e a ∨ localDev e a + 4 ≤ x) → t.byte x = s.byte x)
    else (t.eng e).fault = some (2, 0) ∧ (t.eng e).pc = (s.eng e).pc ∧ t.mem = s.mem)

/-- With the device alive: TILE_START of an idle engine writes the 256 bytes of its tile's descriptor and starts with
registers, loops and tags clear at the task's entry; BLOCK_TRANSFER_DONE of a transfer with every request served
frees the tag, and a get of one line from the array's memories brings its bytes; ENGINE_FAULT of a program fault
ends the tile and shows its cause, of cause 6 to 8 retires the engine; TASK_DROPPED after 16 faulty ticks drops the
task; ENGINE_RESTART queues the tile with RETRY 1 before the rest on the spare; GOVERNOR_BUNDLE leaves at most A
engines running (govA, R178) and shows how many are parked; ENG_CMD_REQUALIFY starts a test of a retired engine or
is refused, ENGINE_REQUALIFY_DONE makes a passing one a spare; ENGINE_BARRIER_RELEASE, when every engine is done and
no tile waits to restart, or the tick has stopped, releases and offers every result of the tick: a complete one goes
to its bound stream with its frame's number and place. Other engines' registers stay. Readings and choices of the
model behind it: log entries 17, 21, 70. (08_engine_array.md) -/
def Obligations.TilesFaultsAndSpares : Prop :=
  (∀ (s : State) (e : Fin 192) (k : Tile) (q : List Tile) (j : Task), s.calm = true → (s.eng e).queue = k :: q →
    (s.eng e).cur = none → (s.eng e).fault = none → s.engRole e ≠ 2 → s.engRole e ≠ 3 → s.task k.task = some j → ∃ t,
    Sys2Proof.Machine.exec (.tileStart e) s = .next t ∧ (t.eng e).cur = some k ∧ (t.eng e).queue = q ∧
    (∀ r, (t.eng e).s r = 0) ∧ (∀ r, (t.eng e).v r = 0) ∧ (t.eng e).accs = [] ∧ (t.eng e).xfers = [] ∧
    (t.eng e).loops = [] ∧ (t.eng e).cyc = 0 ∧ (t.eng e).budget = j.cyc ∧
    (t.eng e).pc = (s.mire (e.val / 24)).entries.getD j.entry 0 % 2048 ∧
    t.bytes (localDev e 0xFF00) 256 = ((s.tileWords e j k).map (leBytes 4)).flatten ∧
    (∀ x, x < localDev e 0xFF00 ∨ localDev e 0xFF00 + 256 ≤ x → t.byte x = s.byte x) ∧
    t = { s with mem := t.mem, engs := t.engs, arr := { s.arr with ecc := t.arr.ecc } } ∧ (∀ g, g ≠ e.val → t.eng g = s.eng g)) ∧
  (∀ (s : State) (e : Fin 192) (tag : Nat) (x : Xfer), s.calm = true → (s.eng e).xfers.find? (·.tag == tag) = some x →
    x.request = none → x.lost = false →
    (∀ b, s.msys.run0 = some b ∨ s.msys.run1 = some b → (b.eng.any fun y => y.1 == e.val && y.2.1 == tag) = false) → ∃ t,
    Sys2Proof.Machine.exec (.blockTransferDone e tag) s = .next t ∧ (t.eng e).xfers = (s.eng e).xfers.erase x ∧
    (t.eng e).sregs = (s.eng e).sregs ∧ (t.eng e).vregs = (s.eng e).vregs ∧ (t.eng e).pc = (s.eng e).pc ∧
    (∀ g, g ≠ e.val → t.eng g = s.eng g) ∧
    (s.arr.ecc = [] → x.put = false → x.touched = [] → x.lines = 1 → 16 ∣ x.len → 0x1000000000 ≤ x.far →
      (x.far + x.len ≤ localDev e x.loc ∨ localDev e x.loc + x.len ≤ x.far) →
      t.bytes (localDev e x.loc) x.len = s.bytes x.far x.len)) ∧
  (∀ (s : State) (e : Fin 192) (k : Fin 16) (c code : Nat) (i : Tile), s.calm = true → (s.eng e).fault = some (c, code) →
    c ≤ 5 → (s.eng e).cur = some i → s.engRole e ≠ 2 → ∃ t, Sys2Proof.Machine.exec (.engineFault e k) s = .next t ∧
    (t.eng e).cur = none ∧ (t.eng e).fault = none ∧ (t.eng e).queue = (s.eng e).queue ∧
    t.fld (R.engEngCause (e.val / 24) (e.val % 24)) = c ∧ t.engRole e = s.engRole e ∧ t.mem = s.mem ∧
    (∀ g, g ≠ e.val → t.eng g = s.eng g)) ∧
  (∀ (s : State) (e : Fin 192) (k : Fin 16), s.calm = true → (s.eng e).fault = none → 6 ≤ k.val → k.val ≤ 8 →
    s.engRole e ≠ 2 → ∃ t, Sys2Proof.Machine.exec (.engineFault e k) s = .next t ∧ t.engRole e = 2 ∧
    (t.eng e).cur = none ∧ (t.eng e).queue = [] ∧ t.fld (R.engEngCause (e.val / 24) (e.val % 24)) = k ∧ t.mem = s.mem ∧
    (∀ g, g ≠ e.val → t.eng g = s.eng g)) ∧
  (∀ (s : State) (i : Fin 64) (j : Task), s.calm = true → s.task i = some j → 16 ≤ j.faultRun → j.dropped = false → ∃ t,
    Sys2Proof.Machine.exec (.taskDropped i) s = .next t ∧ (t.task i).map (·.dropped) = some true ∧ t.engs = s.engs ∧
    t.mem = s.mem ∧ (s.events.length < 256 → s.logReads = true → t.events.map (·.code) = s.events.map (·.code) ++ [0x0702])) ∧
  (∀ (s : State) (e : Fin 192) (r : Restart) (k : Tile), s.calm = true → s.arr.restarts.find? (·.eng == e.val) = some r →
    r.tile = some k → s.ao.faults = [] → ∃ t, Sys2Proof.Machine.exec (.engineRestart e) s = .next t ∧
    (t.eng r.spare).queue = { k with retry := 1 } :: (r.rest ++ (s.eng r.spare).queue) ∧
    t.arr.restarts = s.arr.restarts.erase r ∧ t.fld R.faultLastKind = 2 ∧ t.mem = s.mem ∧
    (∀ g, g ≠ r.spare → t.eng g = s.eng g)) ∧
  (∀ (s : State), s.calm = true → ∃ t, Sys2Proof.Machine.exec .governorBundle s = .next t ∧ t.engs = s.engs ∧ t.mem = s.mem ∧
    t.fld R.engParked = t.arr.parkedL.length % 2 ^ R.engParked.len ∧
    ((List.range 192).filter fun e => t.engRole e != 3 && t.engRole e != 2 && (t.eng e).cur.isSome).length ≤ s.govA) ∧
  (∀ (s : State) (m : Fin 8) (j : Fin 32), s.ao.up = true → s.ao.frozen = false → ∃ t,
    Sys2Proof.Machine.exec (.engCmdRequalify m j) s = .next t ∧
    (if j.val < 24 ∧ s.engRole (24 * m + j) = 2 ∧ (s.mire m).requal.any (·.1 == j.val) = false then
      (t.mire m).requal = (s.mire m).requal ++ [(j.val, none)] ∧ t = { s with mires := t.mires }
    else t.reg (R.engMireErr m).off = BitVec.ofNat 32 (2 ^ 31 + 0x14) ∧
      (∀ o, o ≠ (R.engMireErr m).off → t.reg o = s.reg o) ∧ t = { s with regs := t.regs })) ∧
  (∀ (s : State) (e : Fin 192) (pass : Bool) (r : Nat × Option Nat), s.calm = true →
    (s.mire (e.val / 24)).requal.find? (·.1 == e.val % 24) = some r → ∃ t,
    Sys2Proof.Machine.exec (.engineRequalifyDone e pass) s = .next t ∧
    t.engRole e = (if pass then 1 else s.engRole e) ∧ (t.mire (e.val / 24)).requal = (s.mire (e.val / 24)).requal.erase r ∧
    t.engs = s.engs ∧ t.mem = s.mem) ∧
  (∀ (s : State), s.calm = true → s.arr.released = false →
    s.arr.stopped = true ∨ (s.arr.restarts = [] ∧ ∀ e, e < 192 → (s.eng e).cur = none ∧ (s.eng e).queue = []) → ∃ t,
    Sys2Proof.Machine.exec .engineBarrierRelease s = .next t ∧ t.arr.released = true ∧
    (∀ k ∈ t.arr.tasks, k.runs = true ∨ k.skip = true → k.offered = true) ∧ t.engs = s.engs ∧ t.mem = s.mem ∧
    (∀ (j : Task) (u : Stream), s.arr.tasks = [j] → j.runs = true → j.offered = false → j.stale = false → j.resNo = some j.no →
      s.streams.find? (fun u => u.head == j.head && u.kind == 7 && u.task == j.idx && u.bound && !u.ending) = some u →
      tickFrom (s.frameOf j.head j.no).tick u.tick = true → (s.backlogOf u.dq).length < 64 → ∃ o,
      t.offers = s.offers ++ [o] ∧ o.kind = 7 ∧ o.task = j.idx ∧ o.head = j.head ∧ o.no = j.no ∧
      o.addr = j.outBase + j.no % j.nslot * j.outSlot ∧ o.bytes = j.outSlot))

/-- TASK_DECLARE of up to 64 tasks sets ENG_TASK_CNT and queues the declaration, of more is refused; TASK_DECLARE_COMMIT
of a table the host does not answer for keeps the tasks and ends its command with status 7; with a first cause
(declareCause) shows it in ENG_ERR and keeps the tasks, with none holds the table for the edge, and then no engine
is given more than its budget. ENG_CMD_RELOAD begins staging (STATE 2) and queues the reload; IMAGE_STAGED, with no
poll of the flash port to wait for, holds the image read and whether its header and CRC are right (imageOk);
RELOAD_COMMIT of a good image writes its program into all 24 engines of the mire, of a bad one is refused with cause
6, of one still staging is bound anew to the next commit point and counts TICK_OVERRUN. ENG_BCAST_GO queues the
broadcast; BROADCAST_COMMIT that fits the guard copies the source (zeros where it is not in device DRAM) into every
named mire's shared memory, and otherwise is refused with cause 7 and copies nothing. Readings and choices of the
model behind it: log entries 26, 59, 64. (08_engine_array.md, 02_tick_and_time.md) -/
def Obligations.TasksImagesAndBroadcasts : Prop :=
  (∀ (s : State) (n : Fin 128), s.ao.up = true → s.ao.frozen = false → ∃ t,
    Sys2Proof.Machine.exec (.taskDeclare n) s = .next t ∧
    (if n.val ≤ 64 then t.fld R.engTaskCnt = n ∧ t.reqs.getLast? =
        some (Req.mk .taskDeclare 0 n (s.base R.engTaskBaseLo R.engTaskBaseHi) 0 none false) ∧ (∀ o, o ≠ R.engTaskCnt.off → t.reg o = s.reg o) ∧
        t = { s with regs := t.regs, reqs := t.reqs, cmds := t.cmds }
      else t.reg R.engErr.off = BitVec.ofNat 32 (2 ^ 31 + 0xC) ∧ (∀ o, o ≠ R.engErr.off → t.reg o = s.reg o) ∧
        t = { s with regs := t.regs })) ∧
  (∀ (s : State) (q : Req), s.calm = true → s.reqs.find? (fun q => q.committed && q.kind == .taskDeclare) = some q → ∃ t,
    Sys2Proof.Machine.exec .taskDeclareCommit s = .next t ∧ t.reqs = s.reqs.erase q ∧ t.arr.tasks = s.arr.tasks ∧
    t.mem = s.mem ∧
    (if (s.declTable q).2.1 = false then t.arr = s.arr ∧ t.regs = (s.declTable q).2.2.regs ∧ t.cmds = (s.finishO q.cmd 7 0 0 0).cmds
      else match (s.declTable q).2.2.declareCause (tasksOf (s.declTable q).1) with
      | some c => t.reg R.engErr.off = BitVec.ofNat 32 (2 ^ 31 + c * 2 ^ 16 + 0xC) ∧ t.arr = s.arr
      | none => t.arr.next.map (·.1) = some (s.declTable q).1 ∧ t.regs = (s.declTable q).2.2.regs)) ∧
  (∀ (s : State) (ts : List Task), s.declareCause ts = none → ∀ e, tget (fun _ => 0) (s.assign (ts.filter (·.en))).loads e ≤ s.engBudget) ∧
  (∀ (s : State) (m : Fin 8), s.ao.up = true → s.ao.frozen = false → ∃ t,
    Sys2Proof.Machine.exec (.engCmdReload m) s = .next t ∧ t.fld (R.engMireStatState m) = 2 ∧
    (t.mire m).staging = some (s.base (R.engMireImgLo m) (R.engMireImgHi m), none) ∧ (t.mire m).staged = none ∧
    t.reqs.getLast? = some { kind := .reload, obj := m, p0 := s.base (R.engMireImgLo m) (R.engMireImgHi m) } ∧
    t = { s with regs := t.regs, mires := t.mires, reqs := t.reqs, cmds := t.cmds }) ∧
  (∀ (s : State) (m : Fin 8) (a : Nat) (c : Option Nat), s.calm = true → (s.mire m).staging = some (a, c) →
    s.xipWaits a = false → ∃ t,
    Sys2Proof.Machine.exec (.imageStaged m) s = .next t ∧ (t.mire m).staging = none ∧
    (t.mire m).staged = some ((s.imageBytes m a).1.any imageOk, (s.imageBytes m a).1.getD []) ∧ t.mem = s.mem ∧
    (∀ g, g ≠ m.val → (s.mire g).staging = none → t.mire g = s.mire g)) ∧
  (∀ (s : State) (m : Fin 8) (q : Req) (img : List Byte), s.calm = true → s.committedReq .reload m = some q →
    (s.mire m).staged = some (true, img) → (img.drop 64).length ≤ 0x4000 → ∃ t,
    Sys2Proof.Machine.exec (.reloadCommit m) s = .next t ∧ t.reqs = s.reqs.erase q ∧ (t.mire m).staged = none ∧
    (∀ j, j < 24 → t.bytes (progDev (24 * m + j) 0) (img.drop 64).length = img.drop 64) ∧
    (∀ x, x < mireBase m + 0x800000 ∨ mireBase m + 0x800000 + 24 * 0x4000 ≤ x → t.byte x = s.byte x) ∧ t.regs = s.regs) ∧
  (∀ (s : State) (m : Fin 8) (q : Req) (img : List Byte), s.calm = true → s.committedReq .reload m = some q →
    (s.mire m).staged = some (false, img) → ∃ t, Sys2Proof.Machine.exec (.reloadCommit m) s = .next t ∧
    t.reqs = s.reqs.erase q ∧ (t.reg R.engErr.off).toNat / 2 ^ 12 = 2 ^ 19 + 6 * 2 ^ 4 ∧
    t.fld (R.engMireStatState m) = (if (s.mire m).staging.isSome then 2
      else if s.flag (R.engMireCtlEn m) = false ∨ (s.mire m).entries = [] then 0 else 1) ∧ t.mem = s.mem) ∧
  (∀ (s : State) (m : Fin 8) (q : Req), s.calm = true → s.committedReq .reload m = some q → (s.mire m).staged = none →
    ∃ t, Sys2Proof.Machine.exec (.reloadCommit m) s = .next t ∧ t.reqs = (s.deferReq q).reqs ∧ t.mires = s.mires ∧
    t.fld R.tickOverrun = (s.fld R.tickOverrun + 1) % 2 ^ 16 ∧ t.mem = s.mem) ∧
  (∀ (s : State) (mask : BitVec 8), s.ao.up = true → s.ao.frozen = false → ∃ t,
    Sys2Proof.Machine.exec (.engBcastGo mask) s = .next t ∧ t.reqs.getLast? =
      some (Req.mk .broadcast 0 (s.base R.engBcastSrcLo R.engBcastSrcHi) (s.fld R.engBcastOff)
        (s.fld R.engBcastLen * 256 + mask.toNat) none false) ∧ t = { s with reqs := t.reqs, cmds := t.cmds }) ∧
  (∀ (s : State) (q : Req), s.calm = true → s.committedReq .broadcast 0 = some q → ∃ t,
    Sys2Proof.Machine.exec .broadcastCommit s = .next t ∧ t.reqs = s.reqs.erase q ∧
    let ms := (List.range 8).filter fun m => q.p2 / 2 ^ m % 2 == 1
    if s.tick.guard * 1000 < bcastNs ms.length (q.p2 / 256) + 10640 then
      t.mem = s.mem ∧ t.reg R.engErr.off = BitVec.ofNat 32 (2 ^ 31 + 7 * 2 ^ 16 + 0x34)
    else (∀ m ∈ ms, ∀ i, i < q.p2 / 256 → q.p1 + i < 0x100000 →
        t.byte (sharedDev m (q.p1 + i)) = if q.p0 + i < 0x70000000 then s.byte (q.p0 + i) else 0) ∧
      (∀ x, x < 0x1000000000 → t.byte x = s.byte x))

/-- With the device alive: MEMORY_PATH_FRAME starts the oldest frame on a head's memory path (VID_CTL.EN = 1), shows its
layers that are not ready and raises one event for each; COMPOSITE_DONE of a started frame takes it off the path,
marks it composited, changes no byte outside the display slots of the frames in progress, and, where it goes to the
transmitter (the function sends), queues its packets, frame start first (above 1.5 Gb/s after a skew calibration)
and frame end last, each with (FRAME_NO mod 65535) + 1; TX_FRAME sends the next queued frame where the transmitter,
the head's TX_EN and VID_CTL.EN are 1 and the head is not in-line; INLINE_LINE sends the next line handed over, with
the frame start before the first line and the frame end after the last. With the device up and not frozen,
VID_INLINE_WRITE enters VID_CTL and queues a change where it asks for one (inlineAsks). With the device alive,
INLINE_CHANGE_APPLY puts the pending head in-line when it starts a frame and the old one has none in progress
(inPeriod); INLINE_FALLBACK at the tick after a loss takes the lowest running head with LOST_FALLBACK, and otherwise
leaves the path empty until the host names a head. Of memory, only COMPOSITE_DONE changes anything. Readings and
choices of the model behind it: log entries 75, 77. (09_video_pipeline.md) -/
def Obligations.VideoPaths : Prop :=
  (∀ (s : State) (h : Fin 4) (c : Comp) (r : List Comp), s.calm = true → s.flag R.vidCtlEn = true →
    (s.vidH h).work = c :: r → c.started = false → ∃ t, Sys2Proof.Machine.exec (.memoryPathFrame h) s = .next t ∧
    (t.vidH h).work = { c with started := true } :: r ∧ t.fld (R.vidHeadStatStale h) = c.stale % 16 ∧ t.mem = s.mem ∧
    t.heads = s.heads ∧ (∀ k, k ≠ h.val → t.vidH k = s.vidH k) ∧
    (s.events.length + 4 ≤ 256 → s.logReads = true → t.events.map (·.code) = s.events.map (·.code) ++
      List.replicate ((List.range 4).filter fun k => c.stale / 2 ^ k % 2 == 1).length 0x0804)) ∧
  (∀ (s : State) (h : Fin 4) (c : Comp) (r : List Comp), s.calm = true → (s.vidH h).work = c :: r → c.started = true → ∃ t,
    Sys2Proof.Machine.exec (.compositeDone h) s = .next t ∧ (t.vidH h).work = r ∧
    (∀ g ∈ (t.head h).frames, g.no = c.no → g.comp = 2) ∧
    (∀ a, (∀ k, k < 4 → ∀ d, (s.vidH k).work.head? = some d →
      a < s.dispAddr k d.slot ∨ s.dispAddr k d.slot + 2 * s.actW k * s.actH k ≤ a) → t.byte a = s.byte a) ∧
    (s.sends h c.no = false → (t.vidH h).txq = (s.vidH h).txq) ∧
    (s.sends h c.no = true → c.row = 0 → c.lines = [] → ∃ pk, (t.vidH h).txq = (s.vidH h).txq ++ [pk] ∧
      (1500 < s.fld R.vidTxRate → pk.head?.map (·.skew) = some true) ∧
      (pk.drop (if 1500 < s.fld R.vidTxRate then 1 else 0)).head? =
        some { di := (s.fld R.vidTxCtlVcBase + h.val) % 16 * 64, data := [(c.no % 65535 + 1) % 256, (c.no % 65535 + 1) / 256] } ∧
      pk.getLast? =
        some { di := (s.fld R.vidTxCtlVcBase + h.val) % 16 * 64 + 1, data := [(c.no % 65535 + 1) % 256, (c.no % 65535 + 1) / 256] })) ∧
  (∀ (s : State) (h : Fin 4) (pk : List Pkt) (r : List (List Pkt)), s.calm = true → (s.vidH h).txq = pk :: r → ∃ t,
    Sys2Proof.Machine.exec (.txFrame h) s = .next t ∧ (t.vidH h).txq = r ∧ t = { s with vids := t.vids, vid := t.vid } ∧
    (if s.flag R.vidCtlEn && s.flag R.vidTxCtlEn && s.flag (R.vidHeadCtlTxEn h) && s.vid.inline != some h.val then
      t.vid = { s.vid with tx := pk } else t.vid = s.vid)) ∧
  (∀ (s : State) (x : InFrame), s.calm = true → s.vid.inls.find? (fun x => !x.rows.isEmpty) = some x → ∃ t,
    Sys2Proof.Machine.exec .inlineLine s = .next t ∧ t.mem = s.mem ∧ t.heads = s.heads ∧
    t.vid.inls = (s.vid.inls.map fun z => if z.head = x.head ∧ z.no = x.no then { z with next := z.next + 1, rows := z.rows.drop 1 }
      else z).filter (fun z => decide (z.next < s.actH z.head)) ∧
    if s.flag R.vidTxCtlEn && s.flag (R.vidHeadCtlTxEn x.head) then
      ∃ pk, pk ≠ [] ∧ (t.vid.tx = pk ∨ t.vid.tx = s.vid.tx ++ pk) ∧
      (x.next = 0 → (pk.drop (if 1500 < s.fld R.vidTxRate then 1 else 0)).head?.map (·.data) =
        some [(x.no % 65535 + 1) % 256, (x.no % 65535 + 1) / 256]) ∧
      (x.next + 1 = s.actH x.head → pk.getLast?.map (·.data) = some [(x.no % 65535 + 1) % 256, (x.no % 65535 + 1) / 256])
    else t.vid.tx = s.vid.tx) ∧
  (∀ (s : State) (h : Fin 4) (en : Bool), s.ao.up = true → s.ao.frozen = false → ∃ t,
    Sys2Proof.Machine.exec (.vidInlineWrite h en) s = .next t ∧ t.fld R.vidCtlInline = h ∧ t.flag R.vidCtlInlineEn = en ∧
    (∀ o, o ≠ R.vidCtlInline.off → t.reg o = s.reg o) ∧ t = { s with regs := t.regs, reqs := t.reqs, cmds := t.cmds } ∧
    (if s.inlineAsks h en then t.reqs.getLast? = some { kind := .inlineChange, p0 := h, p1 := if en then 1 else 0 }
      else t.reqs = s.reqs)) ∧
  (∀ (s : State) (h : Fin 4) (en : Bool) (c : Option Nat), s.calm = true → s.vid.pend = some (h.val, en, c) →
    (en = true → (s.head h).due = true ∧ s.hState h = 4) → (∀ o, s.vid.inline = some o → s.inPeriod o = false) → ∃ t,
    Sys2Proof.Machine.exec .inlineChangeApply s = .next t ∧ t.vid.inline = (if en then some h.val else none) ∧
    t.vid.pend = none ∧ t.vid.lost = 0 ∧
    (∀ k, k < 4 → t.fld (R.vidHeadStatInline k) = if en = true ∧ k = h.val then 1 else 0) ∧ t.mem = s.mem) ∧
  (∀ (s : State) (h : Fin 4), s.calm = true → s.vid.lost = 3 → s.flag R.vidCtlLostFallback = true →
    s.hState h = 4 → (∀ k, k < h.val → s.hState k ≠ 4) → ∃ t,
    Sys2Proof.Machine.exec .inlineFallback s = .next t ∧ t.vid.inline = some h.val ∧ t.vid.lost = 0 ∧
    t.fld R.vidCtlInline = h ∧ t.fld (R.vidHeadStatInline h) = 1 ∧ t.mem = s.mem) ∧
  (∀ (s : State), s.calm = true → s.vid.lost = 3 →
    s.flag R.vidCtlLostFallback = false ∨ (∀ k, k < 4 → s.hState k ≠ 4) →
    Sys2Proof.Machine.exec .inlineFallback s = .next { s with vid := { s.vid with lost := 0 } })

/-- With the device up and not frozen, VID_HEAD_CTL_WRITE of an unchanged word changes nothing, one that only clears EN,
or that comes with EN = 0 and whose checks hold (vidHeadCtlOk in the state as written), enters its six bits, and
otherwise only VID_ERR changes; PALETTE_WRITE is refused while a running head with display frames selects the
palette. With the device alive RX_PACKET, with VID_CTL.EN and the receiver on, with a bad header counts and spoils
the open frame, or where none is open one that any line or frame end after it shows to be a frame, a frame start
opens one and counts a discarded one, a frame end closes it, a good line joins it; RX_FRAME_END discards a bad, open
or short frame whole (RX_DISCARD + 1, no byte changes) and puts a good one into a luma buffer that is neither the
last nor the one in use, changing no other byte; VISIBLE_TIMEOUT marks the camera absent. L3_COMMIT of an allowed
buffer queues it and begins the copy, which waits while an earlier commit's copy is complete and its edge is still
to come (a choice of the model, log entry 65); L3_COPY_DONE brings its bytes where the buffer can be reached.
Readings and choices of the model behind it: log entries 44, 75. (09_video_pipeline.md) -/
def Obligations.VideoRegistersAndCamera : Prop :=
  (∀ (s : State) (h : Fin 4) (w : BitVec 32), s.ao.up = true → s.ao.frozen = false → ∃ t,
    Sys2Proof.Machine.exec (.vidHeadCtlWrite h w) s = .next t ∧ t = { s with regs := t.regs } ∧
    let o := (R.vidHeadCtlEn h).off
    if (s.reg o).toNat = w.toNat % 64 then t = s
    else if (if (s.reg o).toNat % 2 = 1 then (s.reg o).toNat / 2 = w.toNat % 64 / 2
        else (s.setReg o (BitVec.ofNat 32 (w.toNat % 64))).vidHeadCtlOk h = true) then
      t.reg o = BitVec.ofNat 32 (w.toNat % 64) ∧
      (∀ p, p ≠ o → p ≠ R.vidLoad.off → p ≠ R.vidTxLoad.off → t.reg p = s.reg p)
    else t.reg R.vidErr.off = BitVec.ofNat 32 (2 ^ 31 + 0x100 * h.val) ∧ (∀ p, p ≠ R.vidErr.off → t.reg p = s.reg p)) ∧
  (∀ (s : State) (p : Fin 8) (i : Fin 256) (v : BitVec 32), s.ao.up = true → s.ao.frozen = false → ∃ t,
    Sys2Proof.Machine.exec (.paletteWrite p i v) s = .next t ∧ t = { s with regs := t.regs } ∧
    if ∃ h : Fin 4, s.hState h = 4 ∧ s.flag (R.vidHeadCtlEn h) = true ∧
        (s.fld (R.vidTonePal h) = p.val ∨ (s.vidH h).tone / 16 % 8 = p.val) then
      t.reg R.vidErr.off = BitVec.ofNat 32 (2 ^ 31 + (0x4000 + 0x400 * p.val + 4 * i.val)) ∧
      (∀ o, o ≠ R.vidErr.off → t.reg o = s.reg o)
    else t.reg (0x1A4000 + 0x400 * p.val + 4 * i.val) = v ∧
      (∀ o, o ≠ 0x1A4000 + 0x400 * p.val + 4 * i.val → t.reg o = s.reg o)) ∧
  (∀ (s : State) (dt vc ecc : Nat) (crc : Bool) (l : List Nat), s.calm = true → ∃ t,
    Sys2Proof.Machine.exec (.rxPacket dt vc ecc crc l) s = .next t ∧ t = { s with regs := t.regs, vid := t.vid } ∧
    if s.flag R.vidCtlEn = false ∨ s.flag R.vidRxCtlEn = false then t = s
    else if ecc = 2 then t.fld R.vidRxDrop = (s.fld R.vidRxDrop + 1) % 2 ^ 16 ∧
      t.vid.rx = some (match s.vid.rx with | some f => { f with bad := true } | none => { bad := true, doubt := true })
    else if vc ≠ s.fld R.vidRxCtlVc then t.vid = s.vid
    else if dt = 0 then t.vid.rx = some {} ∧
      t.fld R.vidRxDiscard = (if s.vid.rx.any (!·.doubt) then (s.fld R.vidRxDiscard + 1) % 2 ^ 16 else s.fld R.vidRxDiscard)
    else if dt = 1 then t.vid.rx = s.vid.rx.map (fun f => { f with ended := true, doubt := false })
    else if dt = ([0x2A, 0x2B, 0x2C, 0x2E] : List Nat).getD (s.fld R.vidRxCtlDt) 0 then
      t.vid.rx = s.vid.rx.map (fun f =>
        { f with lines := f.lines ++ [rxSamples (s.fld R.vidRxCtlDt) l], bad := f.bad || !crc, doubt := false }) ∧
      t.fld R.vidRxCrc = (if crc then s.fld R.vidRxCrc else (s.fld R.vidRxCrc + 1) % 2 ^ 16)
    else t.vid = s.vid) ∧
  (∀ (s : State) (f : RxFrame), s.calm = true → s.vid.rx = some f → f.doubt = false → ∃ t,
    Sys2Proof.Machine.exec .rxFrameEnd s = .next t ∧ t.vid.rx = none ∧
    if f.bad = true ∨ f.ended = false ∨ f.lines.length ≠ s.fld R.vidRxSize / 65536 then
      t.mem = s.mem ∧ t.vid.luma = s.vid.luma ∧ t.vid.visAge = s.vid.visAge ∧
      t.fld R.vidRxDiscard = (s.fld R.vidRxDiscard + 1) % 2 ^ 16
    else t.vid.visAge = 0 ∧ t.vid.lumaAny = true ∧
      (s.vid.lumaAny = true → s.vid.luma < 3 → s.vid.lumaEdge < 3 → t.vid.luma ≠ s.vid.luma ∧ t.vid.luma ≠ s.vid.lumaEdge) ∧
      let n := s.actW (s.fld R.vidRxFusHead) * s.actH (s.fld R.vidRxFusHead)
      let b := s.base R.vidLumaLo R.vidLumaHi + t.vid.luma * n
      (∀ a, (a < b ∨ b + n ≤ a) → t.byte a = s.byte a)) ∧
  (∀ (s : State) (f : RxFrame), s.vid.rx = some f → f.doubt = true → s.calm = true →
    Sys2Proof.Machine.exec .rxFrameEnd s = .next s) ∧
  (∀ (s : State), s.calm = true → s.flag R.vidRxCtlEn = true → s.fld R.vidRxFusTimeout ≤ s.vid.visAge →
    s.fld R.vidRxStat < 2 → ∃ t, Sys2Proof.Machine.exec .visibleTimeout s = .next t ∧
    t.fld R.vidRxStat = s.fld R.vidRxStat + 2 ∧ t.mem = s.mem ∧ t.vid = s.vid ∧
    (s.events.length < 256 → s.logReads = true → t.events.map (·.code) = s.events.map (·.code) ++ [0x0803])) ∧
  (∀ (s : State) (h : Fin 4) (hi : BitVec 32), s.ao.up = true → s.ao.frozen = false → ∃ t,
    Sys2Proof.Machine.exec (.l3Commit h hi) s = .next t ∧ t.mem = s.mem ∧
    let a := s.fld (R.vidL3Lo h) + 2 ^ 32 * hi.toNat
    if hi.toNat < 2 ^ 31 ∧ 0x70000000 < a + s.actW h * s.actH h * 4 then
      t.reg R.vidErr.off = BitVec.ofNat 32 (2 ^ 31 + (0x20 + 0x100 * h.val)) ∧ t.vids = s.vids ∧ t.reqs = s.reqs ∧
      t.base (R.vidL3Lo h) (R.vidL3Hi h) = s.base (R.vidL3Lo h) (R.vidL3Hi h)
    else t.base (R.vidL3Lo h) (R.vidL3Hi h) = a ∧ t.reqs.getLast? = some { kind := .layer3, obj := h, p0 := a } ∧
      (if s.l3Waits h = true then t.vids = s.vids
        else (t.vidH h).l3copy = some (if (s.vidH h).l3slot = some 0 then 1 else 0, a, false))) ∧
  (∀ (s : State) (h : Fin 4) (slot a : Nat), s.calm = true → (s.vidH h).l3copy = some (slot, a, false) →
    (isHost a = true → s.host.linkUp = true) → ∃ t,
    Sys2Proof.Machine.exec (.l3CopyDone h) s = .next t ∧
    let n := s.actW h * s.actH h * 4
    let d := s.base (R.vidL3StageLo h) (R.vidL3StageHi h) + slot * (ceilDiv n 4096 * 4096)
    (d + n ≤ 0x70000000 → t.bytes d n = s.bytes a n) ∧ (∀ x, (x < d ∨ d + n ≤ x) → t.byte x = s.byte x) ∧
    (if s.reqs.any (fun q => q.kind == .layer3 && q.obj == h.val) then (t.vidH h).l3copy = some (slot, a, true)
      else (t.vidH h).l3slot = some slot ∧ (t.vidH h).l3copy = none))

/-- The LFSR steps within 1 to 2^32 - 1; the winner of a draw waits for the channel, and some contender wins whenever
one waits. With the device alive and no interrupted burst on the channel, DRAM_BURST carries the winner's first
burst: a write puts exactly its bytes in memory, a read answers the bytes at its address, GRANTS counts and the
burst no longer waits; where an emergency requester cuts it, it is kept with the bytes of the units carried. A
winning mire port carries the request of the engine next round robin. An interrupted write resumes without a draw
and ends; before a command of the functional blocks (the list functional), an access of BAR4, or one of a ring or
command in DRAM, every interrupted burst has resumed and ended. An arriving burst outside DRAM is refused, counted
and answered with an error, zeros for a read; one inside it, alone, is served. STARVATION beyond the limit counts
once for each oldest burst and sets the requester's bit. REBALANCE of a starved requester by firmware at work clears
its bit, never lowers its tickets and keeps their sum over the 16. With the device up and not frozen, TICKET_WRITE,
INHERIT_WRITE and ETKT_WRITE (refused with cause 2 above 10) leave each MEM_ADMIT share equal to the share of the
tickets written. REQUESTER_RESET drops exactly the named requesters' waiting bursts. Readings and choices of the
model behind it: log entries 33, 73. (10_memory_and_arbitration.md) -/
def Obligations.MemoryArbitration : Prop :=
  (∀ l, 0 < l → l < 2 ^ 32 → 0 < lfsrStep l ∧ lfsrStep l < 2 ^ 32) ∧
  (∀ (s : State) (ch w : Nat), (s.lottery ch).1 = some w → w ∈ s.contenders ch) ∧
  (∀ (s : State) (ch : Nat), s.msys.lfsr0 < 2 ^ 32 → s.msys.lfsr1 < 2 ^ 32 → s.contenders ch ≠ [] →
    (s.lottery ch).1.isSome = true) ∧
  (∀ (s : State) (ch : Fin 2) (t i a n t0 : Nat) (wr : Bool) (d : List Byte), s.alive = true → s.runOn ch = none →
    (s.lottery ch).1 = some i → i < 8 → a + n ≤ 0x70000000 → (wr = true → d.length = n) →
    s.msys.waits.find? (fun b => b.req == i && chanOf b.addr == ch.val) =
      some { req := i, wr := wr, addr := a, len := n, data := d, since := t0 } →
    (∃ u, Sys2Proof.Machine.exec (.dramBurst ch [] none t) s = .next u ∧ u.runOn ch = none ∧
      u.msys.waits = s.msys.waits.erase { req := i, wr := wr, addr := a, len := n, data := d, since := t0 } ∧
      u.fld (R.memArbGrants i) = (s.fld (R.memArbGrants i) + 1) % 2 ^ 32 ∧ u.now = max s.now t ∧
      (if wr then u.bytes a n = d ∧ (∀ x, (x < a ∨ a + n ≤ x) → u.byte x = s.byte x)
        else u.mem = s.mem ∧ u.reply = (s.bytes a n).map (·.toNat) ∧
          u.msys.answers = [{ req := i, kind := if s.ueIn a n then 1 else 0, data := s.bytes a n }])) ∧
    (∀ k, k ≠ 0 → 64 * k - a % 64 < n → ∃ u, Sys2Proof.Machine.exec (.dramBurst ch [] (some k) t) s = .next u ∧
      (u.runOn ch).map (fun b => (b.req, b.sent)) = some (i, 64 * k - a % 64) ∧
      (∀ x, (x < a ∨ a + (64 * k - a % 64) ≤ x) → u.byte x = s.byte x))) ∧
  (∀ (s : State) (ch : Fin 2) (t i e a n : Nat) (x : Xfer), s.alive = true → s.runOn ch = none →
    (s.lottery ch).1 = some i → 8 ≤ i → s.portNext (i - 8) ch = some e → s.engRequest e = some (x, a, n) → ∃ u,
    Sys2Proof.Machine.exec (.dramBurst ch [] none t) s = .next u ∧ (u.mire (i - 8)).port = e % 24 ∧
    u.fld (R.memArbGrants i) = (s.fld (R.memArbGrants i) + 1) % 2 ^ 32 ∧
    (u.eng e).xfers = (s.eng e).xfers.map fun y =>
      if y.tag = x.tag then { y with done := y.done + n, since := max s.now t } else y) ∧
  (∀ (s : State) (ch : Fin 2) (t : Nat) (b : Burst), s.alive = true → s.runOn ch = some b → b.off = false → b.eng = none →
    b.wr = true → b.sent ≤ b.len → b.data.length = b.len → b.addr + b.len ≤ 0x70000000 → ∃ u,
    Sys2Proof.Machine.exec (.dramBurst ch [] none t) s = .next u ∧ u.runOn ch = none ∧ u.msys.waits = s.msys.waits ∧
    u.msys.lfsr0 = s.msys.lfsr0 ∧ u.msys.lfsr1 = s.msys.lfsr1 ∧
    u.bytes (b.addr + b.sent) (b.len - b.sent) = b.data.drop b.sent ∧
    (∀ x, (x < b.addr + b.sent ∨ b.addr + b.len ≤ x) → u.byte x = s.byte x)) ∧
  (∀ (s : State) (ch : Fin 2) (t a n : Nat) (i : Fin 8) (wr : Bool) (d : List Byte), s.alive = true → s.runOn ch = none →
    s.contenders ch = [] → ch.val = chanOf a → s.msys.lfsr0 < 2 ^ 32 → s.msys.lfsr1 < 2 ^ 32 → d.length = n → ∃ u,
    Sys2Proof.Machine.exec (.dramBurst ch [(i, wr, a, n, d)] none t) s = .next u ∧ u.msys.waits = s.msys.waits ∧
    (if 0x70000000 < a + n then u.mem = s.mem ∧ u.fld R.memOorCnt = (s.fld R.memOorCnt + 1) % 2 ^ 16 ∧ u.fld R.memOorReq = i ∧
        u.msys.answers = [{ req := i, kind := 2, data := if wr then [] else List.replicate n 0 }]
      else u.fld (R.memArbGrants i) = (s.fld (R.memArbGrants i) + 1) % 2 ^ 32 ∧
        if wr then u.bytes a n = d else u.mem = s.mem ∧ u.reply = (s.bytes a n).map (·.toNat))) ∧
  (∀ (s : State) (c : Instr), functional c = true → s.alive = true →
    Sys2Proof.Machine.exec c s = Sys2Proof.Machine.exec c s.runsEnded ∧ s.runsEnded.calm = true) ∧
  (∀ (s : State) (wr : Bool) (o : BitVec 28) (n : Nat) (d : List (BitVec 8)), s.alive = true → s.host.d3 = false →
    n ≤ 128 * 2 ^ s.host.mps → Sys2Proof.Machine.exec (.bar4Access wr (0, o) n d) s =
      Sys2Proof.Machine.exec (.bar4Access wr (0, o) n d) s.runsEnded) ∧
  (∀ (s : State) (a n : Nat) (bs : List Byte), s.alive = true → isHost a = false →
    s.hostRead a n = s.runsEnded.hostRead a n ∧ s.hostWrite a bs = s.runsEnded.hostWrite a bs) ∧
  (∀ (s : State) (i : Fin 16) (t t0 : Nat), s.calm = true → s.waitsSince i = some t0 →
    s.fld (R.memArbStarveLim i) ≠ 0 → s.msys.timed.contains (i.val, t0) = false →
    t0 + s.fld (R.memArbStarveLim i) * 2560 < t → ∃ u, Sys2Proof.Machine.exec (.starvation i t) s = .next u ∧
    u.fld (R.memArbStarveCnt i) = (s.fld (R.memArbStarveCnt i) + 1) % 2 ^ 16 ∧ u.fld R.memArbStarveStat / 2 ^ i.val % 2 = 1 ∧
    u.msys.timed = s.msys.timed.filter (·.1 != i.val) ++ [(i.val, t0)] ∧ u.msys.waits = s.msys.waits ∧ u.mem = s.mem) ∧
  (∀ (s : State) (i : Fin 16), s.calm = true → s.fwRuns = true → s.flag R.memCtlRebal = true → s.fld R.memArbStarveStat / 2 ^ i.val % 2 = 1 →
    ∃ u, Sys2Proof.Machine.exec (.rebalance i) s = .next u ∧ u.fld R.memArbStarveStat + 2 ^ i.val = s.fld R.memArbStarveStat ∧
    s.fld (R.memArbTickets i) ≤ u.fld (R.memArbTickets i) ∧
    ((List.range 16).map fun k => u.fld (R.memArbTickets k)).sum = ((List.range 16).map fun k => s.fld (R.memArbTickets k)).sum ∧
    u.mem = s.mem ∧ u.msys = s.msys) ∧
  (∀ (s : State) (i : Fin 16) (v : BitVec 8), s.ao.up = true → s.ao.frozen = false → ∃ u,
    Sys2Proof.Machine.exec (.ticketWrite i v) s = .next u ∧ u.fld (R.memArbTickets i) = v.toNat ∧ u.mem = s.mem ∧
    (∀ k, k < 16 → k ≠ i.val → u.fld (R.memArbTickets k) = s.fld (R.memArbTickets k)) ∧
    (∀ h, h < 4 → u.fld (R.memAdmitShare h) = u.share h % 2 ^ 16)) ∧
  (∀ (s : State) (b : Bool), s.ao.up = true → s.ao.frozen = false → ∃ u,
    Sys2Proof.Machine.exec (.inheritWrite b) s = .next u ∧ u.flag R.memCtlInherit = b ∧ u.mem = s.mem ∧
    (∀ h, h < 4 → u.fld (R.memAdmitShare h) = u.share h % 2 ^ 16)) ∧
  (∀ (s : State) (v : BitVec 4), s.ao.up = true → s.ao.frozen = false → ∃ u,
    Sys2Proof.Machine.exec (.etktWrite v) s = .next u ∧ u.mem = s.mem ∧
    (if v.toNat ≤ 10 then u.fld R.memArbEtkt = v.toNat ∧ (∀ h, h < 4 → u.fld (R.memAdmitShare h) = u.share h % 2 ^ 16)
      else u.reg R.memErr.off = BitVec.ofNat 32 (2 ^ 31 + 2 * 2 ^ 16 + 8) ∧ (∀ o, o ≠ R.memErr.off → u.reg o = s.reg o))) ∧
  (∀ (s : State) (m : BitVec 16), s.ao.up = true → s.ao.frozen = false → ∃ u,
    Sys2Proof.Machine.exec (.requesterReset m) s = .next u ∧
    u.msys.waits = s.msys.waits.filter (fun b => m.toNat / 2 ^ b.req % 2 == 0) ∧ u.mem = s.mem ∧
    (m.toNat / 2 ^ 6 % 2 = 1 → s.dma.run.isSome = true → u.flag R.dmaStatHalt = true) ∧
    (m.toNat / 2 ^ 6 % 2 = 0 → u = { s with msys := u.msys, engs := u.engs }))

/-- REFRESH sets the rate to 0 below 85 degrees C, 1 below 105 and 2 from there on, of the hotter of TS12 and TS13.
DEBUG_ACCESS writes exactly its bytes inside DRAM or answers the bytes at its address, zeros outside DRAM; each of
its bursts outside is counted; during a thermal shutdown it is held. SCRUB_BLOCK with SCRUB_EN leaves no single-bit
error in its block, changes no byte where no group is uncorrectable, and in the full pass moves to the next block,
counting a pass at the end; without SCRUB_EN nothing changes. MEM_RGN_KIND_WRITE commits an aligned entry inside
DRAM, and otherwise latches CAUSE 3 and shows the committed entry again. Readings and choices of the model behind
it: log entries 33, 74. (10_memory_and_arbitration.md) -/
def Obligations.MemoryIntegrity : Prop :=
  (∀ (s : State), s.alive = true → ∃ u, Sys2Proof.Machine.exec .refresh s = .next u ∧
    (∀ o, o ≠ R.memRefreshRate.off → u.reg o = s.reg o) ∧ u = { s with regs := u.regs } ∧
    let a := sext 13 (s.fld (R.thermTs 12))
    let b := sext 13 (s.fld (R.thermTs 13))
    u.fld R.memRefreshRate = if a < 1360 ∧ b < 1360 then 0 else if a < 1680 ∧ b < 1680 then 1 else 2) ∧
  (∀ (s : State) (wr : Bool) (a n : Nat) (d : List (BitVec 8)), s.ao.up = true → s.ao.shut = true → ∃ u,
    Sys2Proof.Machine.exec (.debugAccess wr a n d) s = .next u ∧ u = { s with msys := u.msys } ∧
    u.msys.held = s.msys.held ++ [{ req := 16, wr, addr := a, len := n, data := d }]) ∧
  (∀ (s : State) (wr : Bool) (a n : Nat) (d : List (BitVec 8)), s.ao.up = true → s.ao.shut = false → (wr = true → d.length = n) → ∃ u,
    Sys2Proof.Machine.exec (.debugAccess wr a n d) s = .next u ∧
    (if wr = true then
        (∀ i, i < n → a + i < 0x70000000 → u.byte (a + i) = d.getD i 0) ∧
        (∀ x, (x < a ∨ a + n ≤ x ∨ 0x70000000 ≤ x) → u.byte x = s.byte x)
      else u.mem = s.mem ∧ u.reply.length = n ∧
        ∀ i, i < n → u.reply.getD i 0 = if a + i < 0x70000000 then (s.byte (a + i)).toNat else 0) ∧
    (0x70000000 < a + n →
      u.fld R.memOorCnt = (s.fld R.memOorCnt + ((burstsOf a n).filter fun b => !inDram b.1 b.2).length) % 2 ^ 16)) ∧
  (∀ (s : State) (table : Bool), s.calm = true → s.flag R.memCtlScrubEn = false →
    Sys2Proof.Machine.exec (.scrubBlock table) s = .next s) ∧
  (∀ (s : State) (table : Bool) (a : Nat), s.calm = true → s.flag R.memCtlScrubEn = true →
    (if table then s.tableBlock s.msys.tscrub else some (256 * s.msys.scrub)) = some a → ∃ u,
    Sys2Proof.Machine.exec (.scrubBlock table) s = .next u ∧
    (∀ g ∈ groupsOf a 256, s.eccOf (8 * g) = 1 → u.eccOf (8 * g) = 0) ∧ (s.ueIn a 256 = false → u.mem = s.mem) ∧
    (table = false → if s.msys.scrub + 1 < 0x700000 then u.msys.scrub = s.msys.scrub + 1
      else u.msys.scrub = 0 ∧ u.fld R.memScrubPass = (s.fld R.memScrubPass + 1) % 2 ^ 16)) ∧
  (∀ (s : State) (k : Fin 32) (v : BitVec 32), s.ao.up = true → s.ao.frozen = false → ∃ u,
    Sys2Proof.Machine.exec (.memRgnKindWrite k v) s = .next u ∧ u = { s with regs := u.regs, msys := u.msys } ∧
    let kind := v.toNat % 4
    let base := s.fld (R.memRgnLo k) + 2 ^ 32 * s.fld (R.memRgnHi k)
    let len := s.fld (R.memRgnLen k)
    if kind = 0 ∨ (kind ≠ 3 ∧ 256 ∣ base ∧ 256 ∣ len ∧ base + len ≤ 0x70000000) then
      u.fld (R.memRgnKind k) = kind ∧ tget (fun _ => (0, 0, 0)) u.msys.rgns k = (base, len, kind) ∧
      (∀ j, j ≠ k.val → tget (fun _ => (0, 0, 0)) u.msys.rgns j = tget (fun _ => (0, 0, 0)) s.msys.rgns j)
    else u.msys = s.msys ∧ u.reg R.memErr.off = BitVec.ofNat 32 (2 ^ 31 + 3 * 2 ^ 16 + (0x20C + 0x10 * k.val)) ∧
      u.fld (R.memRgnLen k) = (tget (fun _ => (0, 0, 0)) s.msys.rgns k).2.1 % 2 ^ 32)

/-- With the device up and not frozen: DMA_DOORBELL (of the host: outside D3hot) of a channel that is not enabled, or by
the host of an owned one, is refused in DMA_ERR; of an idle one it arms it at its head, of an armed or running one
it sets DBPEND, of an ended one it re-reads words 12 and 13 of the last descriptor (in device DRAM, no burst
interrupted) and arms the channel at NEXT where END is 0. DMA_HEAD_WRITE of an aligned base on an idle or ended
channel takes it and makes the channel idle, otherwise it is refused and the base in effect stays. DMA_CMD_ABORT
makes a working channel idle, with code 1 and the residue of its descriptor, and of an idle or halted one is
refused; DBPEND clears either way; in the middle of a chunk of the channel it waits for the chunk's end. With the
device alive BUS_ERROR halts the engine with its cause and address and every channel (STATE 4), and firmware clears
the halt at once where a channel of its own ran; when halted it changes nothing; DMA_HALT_CLR returns them to idle.
CHANNEL_SELECT gives the free engine to an armed channel with the least PRIO. Readings and choices of the model
behind it: log entry 34. (11_sluice_dma.md, 17_register_map.md) -/
def Obligations.SluiceChannelControl : Prop :=
  (∀ (s : State) (c : Fin 16) (fw : Bool), s.ao.up = true → s.ao.frozen = false → fw = true ∨ s.host.d3 = false → ∃ t,
    Sys2Proof.Machine.exec (.dmaDoorbell c fw) s = .next t ∧
    (if (fw = false ∧ s.chOwned c = true) ∨ s.flag (R.dmaChCfgEn c) = false then
      t.reg R.dmaErr.off = BitVec.ofNat 32 (2 ^ 31 + c.val * 2 ^ 16 + (0xC + 0x40 * c.val)) ∧
      (∀ o, o ≠ R.dmaErr.off → t.reg o = s.reg o) ∧ t = { s with regs := t.regs }
    else if s.chState c = 0 then t.chState c = 1 ∧ t = { s with regs := t.regs, dma := t.dma } ∧
      (t.chan c).next = s.base (R.dmaChHeadLo c) (R.dmaChHeadHi c) ∧ (t.chan c).desc = none ∧
      (∀ k, k ≠ c.val → t.chan k = s.chan k)
    else if s.chState c = 1 ∨ s.chState c = 2 then t.fld (R.dmaChStatDbpend c) = 1 ∧ t.chState c = s.chState c ∧
      t = { s with regs := t.regs }
    else if s.chState c = 3 then s.chCur c + 56 ≤ 0x70000000 → s.msys.run0 = none → s.msys.run1 = none → t.mem = s.mem ∧
      (if s.rd (s.chCur c + 48) 8 % 2 = 1 then t.chState c = 3
        else t.chState c = 1 ∧ (t.chan c).next = s.rd (s.chCur c + 48) 8 / 64 * 64)
    else t = s)) ∧
  (∀ (s : State) (c : Fin 16) (hi : BitVec 32) (fw : Bool), s.ao.up = true → s.ao.frozen = false → ∃ t,
    Sys2Proof.Machine.exec (.dmaHeadWrite c hi fw) s = .next t ∧ t = { s with regs := t.regs, baseLo := t.baseLo } ∧
    let a := s.fld (R.dmaChHeadLo c) + 2 ^ 32 * hi.toNat
    if (fw = true ∨ s.chOwned c = false) ∧ (s.chState c = 0 ∨ s.chState c = 3) ∧ 64 ∣ a then
      t.base (R.dmaChHeadLo c) (R.dmaChHeadHi c) = a ∧ t.chState c = 0
    else t.base (R.dmaChHeadLo c) (R.dmaChHeadHi c) = s.base (R.dmaChHeadLo c) (R.dmaChHeadHi c) ∧
      t.chState c = s.chState c ∧ t.reg R.dmaErr.off = BitVec.ofNat 32 (2 ^ 31 + c.val * 2 ^ 16 + (8 + 0x40 * c.val))) ∧
  (∀ (s : State) (c : Fin 16) (fw : Bool), s.ao.up = true → s.ao.frozen = false → ∃ t,
    Sys2Proof.Machine.exec (.dmaCmdAbort c fw) s = .next t ∧
    (if (fw = false ∧ s.chOwned c = true) ∨ s.chState c = 0 ∨ s.chState c = 4 then
      t.reg R.dmaErr.off = BitVec.ofNat 32 (2 ^ 31 + c.val * 2 ^ 16 + (0x10 + 0x40 * c.val)) ∧ t = { s with regs := t.regs } ∧
      (fw = true ∨ s.chOwned c = false → t.fld (R.dmaChStatDbpend c) = 0)
    else if (s.chan c).mid.isSome then (t.chan c).mid = some true ∧ t.chState c = s.chState c ∧
      t = { s with regs := t.regs, dma := t.dma }
    else t.chState c = 0 ∧ (t.chan c).desc = none ∧ t.fld (R.dmaChStatDbpend c) = 0 ∧
      (∀ d, (s.chan c).desc = some d → t.fld (R.dmaChStatCode c) = 1 ∧
        t.fld (R.dmaChResid c) = (descN d.ws - d.pos) % 2 ^ 32 ∧
        (s.msys.run0 = none → s.msys.run1 = none →
          ∀ a, (a < d.addr + 56 ∨ d.addr + 64 ≤ a) → t.byte a = s.byte a)) ∧
      ((s.chan c).desc = none → t.mem = s.mem) ∧ (s.chState c = 2 → t.dma.run = none))) ∧
  (∀ (s : State) (k : Fin 4) (a : Nat), s.calm = true → s.flag R.dmaStatHalt = false → ∃ t,
    Sys2Proof.Machine.exec (.busError k a) s = .next t ∧
    let own := s.dma.run.any s.chOwned && s.fwRuns
    t.flag R.dmaStatHalt = !own ∧ t.fld R.dmaStatHaltCause = (if own then 0 else k.val + 1) ∧ t.fld R.dmaErrAddrLo = a % 2 ^ 32 ∧ t.fld R.dmaErrAddrHi = a / 2 ^ 32 % 2 ^ 32 ∧
    t.fld R.dmaHaltCnt = (s.fld R.dmaHaltCnt + 1) % 2 ^ 16 ∧ t.dma.run = none ∧ t.mem = s.mem ∧
    (∀ c, c < 16 → t.chState c = (if own then 0 else 4) ∧ (t.chan c).desc = none ∧ (t.chan c).cmd = none)) ∧
  (∀ (s : State) (k : Fin 4) (a : Nat), s.calm = true → s.flag R.dmaStatHalt = true →
    Sys2Proof.Machine.exec (.busError k a) s = .next s) ∧
  (∀ (s : State), s.ao.up = true → s.ao.frozen = false → s.flag R.dmaStatHalt = true → ∃ t,
    Sys2Proof.Machine.exec .dmaHaltClr s = .next t ∧ t.flag R.dmaStatHalt = false ∧ (∀ c, c < 16 → t.chState c = 0) ∧
    t = { s with regs := t.regs, dma := t.dma }) ∧
  (∀ (s : State) (c : Nat), s.calm = true → s.dma.run = none → s.flag R.dmaStatHalt = false → s.flag R.dmaCtlEn = true →
    c < 16 → s.chState c = 1 → ∃ t k, Sys2Proof.Machine.exec .channelSelect s = .next t ∧ t.dma.run = some k ∧ k < 16 ∧
    s.chState k = 1 ∧ t.chState k = 2 ∧ s.fld (R.dmaChCfgPrio k) ≤ s.fld (R.dmaChCfgPrio c) ∧ t.fld R.dmaStatBusy = 1 ∧
    t.fld R.dmaStatRunning = k ∧ t = { s with regs := t.regs, dma := t.dma })

/-- With the device alive and channel c running: DESCRIPTOR_CHECK of a readable descriptor at NEXT makes it the one in
progress at position 0 when no check of R250 fails, and otherwise ends the channel idle with code 4 and the first
cause; one that cannot be read halts the engine (firmware clears the halt of its own channels). DMA_CHUNK of a copy
inside DRAM puts the source bytes of the next chunk at the destination, of a fill the pattern's bytes, moves the
position by the chunk's length, which is at least 1, and changes no other byte; with every position done it changes
nothing. DESCRIPTOR_COMPLETE sets the code (2 poisoned, 3 mismatch, else 0), counts the descriptor, changes no byte
outside its words 11 to 15, and where END is 0 goes on at NEXT, yielding the engine with YIELD. Readings and choices
of the model behind it: log entry 34. (11_sluice_dma.md) -/
def Obligations.SluiceDescriptors : Prop :=
  (∀ (s : State) (c : Nat), s.calm = true → s.dma.run = some c → c < 16 → (s.chan c).desc = none → s.noteWaits c = false →
    (if isHost (s.chan c).next then s.host.linkUp = true else (s.chan c).next + 64 ≤ 0x70000000) → ∃ t, Sys2Proof.Machine.exec .descriptorCheck s = .next t ∧
    let ws := wordsOf 16 (s.bytes (s.chan c).next 64)
    (match s.descCause ws with
      | none => (t.chan c).desc = some { addr := (s.chan c).next, ws, xip := s.xipSize } ∧ t.dma.run = some c ∧ t.mem = s.mem
      | some k => (t.chan c).desc = none ∧ t.dma.run = none ∧ t.chState c = 0 ∧ t.fld (R.dmaChStatCode c) = 4 ∧
        t.fld (R.dmaChStatCause c) = k)) ∧
  (∀ (s : State) (c : Nat), s.calm = true → s.dma.run = some c → c < 16 → (s.chan c).desc = none → s.noteWaits c = false →
    (if isHost (s.chan c).next then s.host.linkUp = false else 0x70000000 < (s.chan c).next + 64) → ∃ t,
    Sys2Proof.Machine.exec .descriptorCheck s = .next t ∧ t.mem = s.mem ∧
    (s.flag R.dmaStatHalt = false → t.fld R.dmaHaltCnt = (s.fld R.dmaHaltCnt + 1) % 2 ^ 16 ∧ t.dma.run = none ∧
      (if s.chOwned c && s.fwRuns then t.flag R.dmaStatHalt = false ∧ t.chState c = 0
        else t.flag R.dmaStatHalt = true ∧ t.fld R.dmaStatHaltCause = 3 ∧ t.chState c = 4))) ∧
  (∀ (s : State) (c : Nat) (d : Desc), s.calm = true → s.dma.run = some c → (s.chan c).desc = some d → descN d.ws ≤ d.pos →
    Sys2Proof.Machine.exec .dmaChunk s = .next s) ∧
  (∀ (s : State) (c : Nat) (d : Desc), s.calm = true → s.dma.run = some c → c < 16 → (s.chan c).desc = some d →
    d.pos < descN d.ws → dOp d.ws < 2 → s.regionOf (dstSide d.ws).extent d.xip = some .dram →
    (dOp d.ws = 0 → s.regionOf (srcSide d.ws).extent d.xip = some .dram ∧ 0 < (srcSide d.ws).len) → 0 < (dstSide d.ws).len →
    let lo := (nextChunk d.ws d.pos).1
    let k := (nextChunk d.ws d.pos).2
    let a := (dstSide d.ws).addr lo
    let b := (srcSide d.ws).addr lo
    a + k ≤ 0x70000000 → (dOp d.ws = 0 → b + k ≤ 0x70000000) → ∃ t, Sys2Proof.Machine.exec .dmaChunk s = .next t ∧
    1 ≤ k ∧ ((t.chan c).desc.map (·.pos)) = some (d.pos + k) ∧ t.dma.run = some c ∧
    (∀ x, (x < a ∨ a + k ≤ x) → t.byte x = s.byte x) ∧
    (dOp d.ws = 0 → t.bytes a k = s.bytes b k) ∧
    (dOp d.ws = 1 → t.bytes a k = (List.range k).map fun i =>
      BitVec.ofNat 8 ((dw d.ws 2 + 2 ^ 32 * dw d.ws 3) / 256 ^ ((lo + i) % 8)))) ∧
  (∀ (s : State) (c : Nat) (d : Desc), s.calm = true → s.dma.run = some c → c < 16 → (s.chan c).desc = some d →
    descN d.ws ≤ d.pos → s.flag R.dmaStatHalt = false → ∃ t, Sys2Proof.Machine.exec .descriptorComplete s = .next t ∧ (t.chan c).desc = none ∧
    t.fld (R.dmaChStatCode c) = (if d.poison then 2 else if dOp d.ws = 2 ∧ d.cmp ≠ 0 then 3 else 0) ∧
    t.fld (R.dmaChStatCause c) = s.fld (R.dmaChStatCause c) ∧ t.fld (R.dmaChDescCnt c) = (s.fld (R.dmaChDescCnt c) + 1) % 2 ^ 32 ∧
    (∀ x, (x < d.addr + 44 ∨ d.addr + 64 ≤ x) → t.byte x = s.byte x) ∧
    (dw d.ws 12 % 2 = 0 → (t.chan c).next = (dw d.ws 12 + 2 ^ 32 * dw d.ws 13) / 64 * 64 ∧
      if dw d.ws 0 / 2 ^ 5 % 2 = 1 then t.dma.run = none ∧ t.chState c = 1
      else t.dma.run = some c ∧ t.chState c = s.chState c))

/-- With the core up and, of the memory accesses, no burst interrupted: a doorbell (outside D3hot) of another size than
a word or of a disabled ring latches CAUSE 2 at its BAR2 offset in HOST_ERR, an index beyond the ring CAUSE 1, and
otherwise its index enters the ring's register (tail for submission and buffer rings, head for completion and
delivery rings). RING_ENABLE of a well placed ring zeroes its indices and enables it, otherwise CAUSE 3.
COMMAND_FETCH of the ring whose turn it is (round robin after the ring served last, among those with an entry to
fetch) takes the entry at the head as the next command and moves the head; a failed read stops the ring with ERR; of
another ring it does nothing. COMPLETION_WRITE of a ring's oldest finished command writes its four words with the
ring's phase at the tail and drops the command; a full ring waits. Of source 10 it writes the oldest notification
for the ring, DMA bit 17 of word 1 set. EVENT_WRITE does the same for the oldest event. MSIX_COALESCE_TIMEOUT
signals the vector of a ring with an unread entry, or sets its pending bit, and starts a new count; CQ_STALL counts
a wait once; every other ring stays. Readings and choices of the model behind it: log entry 23. (12_host_rings.md,
17_register_map.md) -/
def Obligations.RingsAndCompletions : Prop :=
  (∀ p ∈ ([(Instr.sqTailDoorbell, 0), (Instr.cqHeadDoorbell, 8), (Instr.bqTailDoorbell, 16), (Instr.dqHeadDoorbell, 24)] :
      List ((Fin 8 → BitVec 32 → Bool → Instr) × Nat)), ∀ (s : State) (q : Fin 8) (w : BitVec 32) (word : Bool), s.ao.up = true →
    s.host.d3 = false →
    ∃ t, Sys2Proof.Machine.exec (p.1 q w word) s = .next t ∧
    let k := p.2 + q.val
    if word = false ∨ s.ringEn k = false ∨ s.ringSize k ≤ w.toNat % 4096 then
      t.reg R.hostErr.off = BitVec.ofNat 32
        (2 ^ 31 + (if word = false ∨ s.ringEn k = false then 2 else 1) * 2 ^ 16 + 4 * k) ∧
      (∀ o, o ≠ R.hostErr.off → t.reg o = s.reg o) ∧ t = { s with regs := t.regs }
    else if p.2 = 0 ∨ p.2 = 16 then t.ringTail k = w.toNat % 4096 ∧ t.ringHead k = s.ringHead k ∧ t = { s with regs := t.regs }
    else t.ringHead k = w.toNat % 4096 ∧ (p.2 = 8 → t.ringTail k = s.ringTail k ∧ t.mem = s.mem)) ∧
  (∀ (s : State) (k : Fin 32), s.ao.up = true → ∃ t, Sys2Proof.Machine.exec (.ringEnable k) s = .next t ∧
    t = { s with regs := t.regs, host := t.host } ∧
    (if s.ringEn k = true then t = s
    else if s.ringOk k (s.ringBase k) = true then t.ringEn k = true ∧ t.ringTail k = 0 ∧ t.ringHead k = 0
    else t.reg R.hostErr.off = BitVec.ofNat 32 (2 ^ 31 + 3 * 2 ^ 16 + (0x20 * k.val + 8)) ∧ t.ringEn k = false)) ∧
  (∀ (s : State) (k : Nat), s.nextSq = some k → k < 8 ∧ s.fetchable k = true ∧ ∀ j, j < 8 → s.fetchable j = true →
    (k + 7 - s.host.lastSq % 8) % 8 ≤ (j + 7 - s.host.lastSq % 8) % 8) ∧
  (∀ (s : State) (q : Fin 8) (r : Option (List Byte)), s.ao.up = true → s.msys.run0 = none → s.msys.run1 = none → 
    (s.hostRead (s.ringBase q + 64 * s.ringHead q) 64).1 = r → ∃ t, Sys2Proof.Machine.exec (.commandFetch q) s = .next t ∧
    t.mem = s.mem ∧
    (s.nextSq ≠ some q.val → t = s) ∧
    (s.nextSq = some q.val → t.host.lastSq = q.val ∧ match r with
      | none => t.cmds = s.cmds ∧ t.fld ⟨ringOff q 0xC, 16, 1⟩ = 1 ∧ t.ringHead q = s.ringHead q
      | some bs => t.cmds = s.cmds ++ [cmdOf s.nextUid q (wordsOf 16 bs)] ∧
        t.ringHead q = (s.ringHead q + 1) % s.ringSize q % 4096)) ∧
  (∀ (s : State) (c : Fin 8) (q : Fin 11) (k : Cmd), s.ao.up = true → s.msys.run0 = none → s.msys.run1 = none → s.hostWrites = true → q.val < 8 →
    s.cmds.find? (·.src == q.val) = some k → k.phase = 2 → s.fld (R.hostSqCfgCq q) = c.val → s.ringEn (8 + c) = true →
    s.memReady (s.ringBase (8 + c)) = true → ∃ t,
    Sys2Proof.Machine.exec (.completionWrite c q) s = .next t ∧
    let a := s.ringBase (8 + c) + 16 * s.ringTail (8 + c)
    (if s.ringRoom (8 + c) then t.cmds = s.cmds.erase k ∧
        t.ringTail (8 + c) = (s.ringTail (8 + c) + 1) % s.ringSize (8 + c) % 4096 ∧
        (∀ x, (x < a ∨ a + 16 ≤ x) → t.byte x = s.byte x) ∧
        (isHost a = true → s.host.linkUp = true → t.bytes a 16 = bytesOf [k.cid + q.val * 2 ^ 16 + s.ringHead q * 2 ^ 19,
          (k.status + k.cause % 256 * 256) % 2 ^ 31 + (if (s.ring (8 + c)).phase then 2 ^ 31 else 0), k.r0, k.r1])
      else t.cmds = s.cmds ∧ t.mem = s.mem ∧ t.regs = s.regs)) ∧
  (∀ (s : State) (c : Fin 8) (k : Cmd), s.ao.up = true → s.hostWrites = true → s.cmds.find? (·.src == 8) = some k →
    k.phase = 2 → ∃ t, Sys2Proof.Machine.exec (.completionWrite c 8) s = .next t ∧ t.cmds = s.cmds.erase k ∧
    t.fld (R.hostMbxCpl 2) = k.r0 % 2 ^ 32 ∧ t.fld (R.hostMbxCpl 3) = k.r1 % 2 ^ 32 ∧ t.fld R.hostMbxStat = 2 ∧ t.mem = s.mem) ∧
  (∀ (s : State) (c : Fin 8) (n : Note), s.ao.up = true → s.msys.run0 = none → s.msys.run1 = none → 
    s.hostWrites = true → s.dma.notes.find? (·.cq == c.val) = some n →
    s.ringEn (8 + c) = true → s.memReady (s.ringBase (8 + c)) = true → ∃ t, Sys2Proof.Machine.exec (.completionWrite c 10) s = .next t ∧
    let a := s.ringBase (8 + c) + 16 * s.ringTail (8 + c)
    (if s.ringRoom (8 + c) then t.dma.notes = s.dma.notes.erase n ∧
        t.ringTail (8 + c) = (s.ringTail (8 + c) + 1) % s.ringSize (8 + c) % 4096 ∧
        (∀ x, (x < a ∨ a + 16 ≤ x) → t.byte x = s.byte x) ∧
        (isHost a = true → s.host.linkUp = true → t.bytes a 16 = bytesOf [n.tag,
          (n.code + 2 ^ 17 + n.chan * 2 ^ 18 + (if n.full then 2 ^ 22 else 0)) % 2 ^ 31 +
            (if (s.ring (8 + c)).phase then 2 ^ 31 else 0), n.w2, n.w3])
      else t.dma = s.dma ∧ t.mem = s.mem ∧ t.regs = s.regs)) ∧
  (∀ (s : State) (e : Ev) (r : List Ev), s.ao.up = true → s.msys.run0 = none → s.msys.run1 = none → 
    s.hostWrites = true → s.ringEn 8 = true → s.memReady (s.ringBase 8) = true →
    s.ringRoom 8 = true → s.events = e :: r → s.evtLost = 0 → ∃ t, Sys2Proof.Machine.exec .eventWrite s = .next t ∧ r <+: t.events ∧
    t.ringTail 8 = (s.ringTail 8 + 1) % s.ringSize 8 % 4096 ∧
    let a := s.ringBase 8 + 16 * s.ringTail 8
    (∀ x, (x < a ∨ a + 16 ≤ x) → t.byte x = s.byte x) ∧
    (isHost a = true → t.events = r) ∧ (isHost a = true → s.host.linkUp = true → t.bytes a 16 = bytesOf [e.code + e.seq * 2 ^ 16,
      (e.obj + 2 ^ 16) % 2 ^ 31 + (if (s.ring 8).phase then 2 ^ 31 else 0), e.p0, e.p1])) ∧
  (∀ (s : State) (k : Fin 16) (t0 : Nat), s.ao.up = true →
    (s.ring (if k.val < 8 then k + 8 else k + 16)).times.head? = some t0 → ∃ t,
    Sys2Proof.Machine.exec (.msixCoalesceTimeout k) s = .next t ∧ t = { s with now := t.now, host := t.host } ∧
    let j := if k.val < 8 then k.val + 8 else k.val + 16
    let v := wbits (s.reg (ringOff j 8)) 5 6
    t.now = max s.now (t0 + wbits (s.reg (ringOff j 0xC)) 16 10 * 256000) ∧ (t.ring j).times = [] ∧
    (∀ i, ringKey i ≠ ringKey j → t.ring i = s.ring i) ∧
    (if s.host.blocked v then t.host.msix = s.host.msix ∧ t.host.pendBits.contains v = true
      else t.host.msix = s.host.msix ++ [v] ∧ t.host.pendBits = s.host.pendBits)) ∧
  (∀ (s : State) (c : Fin 8) (t0 : Nat), s.ao.up = true → (s.ring (8 + c)).full = some t0 → (s.ring (8 + c)).stalled = false →
    ∃ t, Sys2Proof.Machine.exec (.cqStall c) s = .next t ∧ t.now = max s.now (t0 + 256000000) ∧
    t.fld (R.hostCqStall c) = (s.fld (R.hostCqStall c) + 1) % 2 ^ (R.hostCqStall c).len ∧ (t.ring (8 + c)).stalled = true ∧
    (∀ i, ringKey i ≠ ringKey (8 + c) → t.ring i = s.ring i) ∧
    t = { s with now := t.now, regs := t.regs, host := t.host })

/-- FRAME_DELIVERY of the first offer of a stream (with Sluice's engine on, free and not halted, and room for the
header; else it waits) consumes the next buffer entry and the offer, changes no byte but the buffer's and one
delivery entry, and fills the buffer with the frame's bytes (seen with the delivery ring disabled); NODATA_HEADER
consumes the offer without a buffer; STREAM_BIND_COMMIT binds the stream when bindCause finds none, else leaves the
streams. PCIE_RESET disables every ring, ends streams, offers and notifications, keeps the mailbox's command and all
memory; LINK_RESTORED with a width and rate of R265 shows them. BAR4_ACCESS moves exactly its bytes at the window's
address inside DRAM, a read of poisoned data with the EP bit, and is held while the memory system stands still; of
BAR0 a word read answers the register and another is refused with zeros; in D3hot one of a BAR only sets AER's
unsupported request; of BAR2 it is the doorbell there, and of an MSI-X mask bit it masks the vector or signals it
where it pends. HOST_MBX_GO takes the mailbox's entry in, or is refused with CAUSE 4 while BUSY; a read of
HOST_MBX_CPL3 clears CPL, one of HOST_MBX_EVT3 with completion ring 0 disabled takes the oldest event. Readings and
choices of the model behind it: log entries 22, 23, 35, 83. (12_host_rings.md) -/
def Obligations.DeliveryLinkAndMailbox : Prop :=
  (∀ (s : State) (i : Nat) (torn : Bool) (o : Offer) (st : Stream) (bs : List Byte), s.calm = true → s.firstOffer i = some o →
    s.streamOf o = some st → s.copyReady = true → s.headerRoom st.dq = true → inDram o.addr o.bytes = true →
    s.ringEn (16 + st.bq) = true → s.fld ⟨ringOff (16 + st.bq) 0xC, 16, 1⟩ = 0 → s.ringHead (16 + st.bq) ≠ s.ringTail (16 + st.bq) → st.bq < 8 → st.dq < 8 →
    (s.hostRead (s.ringBase (16 + st.bq) + 32 * s.ringHead (16 + st.bq)) 32).1 = some bs → ∃ t,
    Sys2Proof.Machine.exec (.frameDelivery i torn) s = .next t ∧ t.offers = s.offers.erase o ∧
    t.ringHead (16 + st.bq) = (s.ringHead (16 + st.bq) + 1) % s.ringSize (16 + st.bq) % 4096 ∧
    let b := (wordsOf 8 bs).getD 0 0 + 2 ^ 32 * (wordsOf 8 bs).getD 1 0
    let d := s.ringBase (24 + st.dq) + 64 * s.ringTail (24 + st.dq)
    (∀ x, (x < b ∨ b + o.bytes ≤ x) → (x < d ∨ d + 64 ≤ x) → t.byte x = s.byte x) ∧
    (s.ringEn (24 + st.dq) = false → isHost b = true → 64 ∣ b → o.bytes ≤ (wordsOf 8 bs).getD 2 0 → s.host.linkUp = true →
      o.addr + o.bytes ≤ 0x70000000 → t.bytes b o.bytes = s.bytes o.addr o.bytes)) ∧
  (∀ (s : State) (i : Nat) (torn : Bool) (o : Offer) (st : Stream), s.calm = true → s.firstOffer i = some o →
    s.streamOf o = some st → s.copyReady = false ∨ s.headerRoom st.dq = false →
    Sys2Proof.Machine.exec (.frameDelivery i torn) s = .next s) ∧
  (∀ (s : State) (i : Nat) (o : Offer) (st : Stream), s.ao.up = true → s.msys.run0 = none → s.msys.run1 = none → s.firstOffer i = some o → s.streamOf o = some st →
    s.fwRuns = true → s.headerRoom st.dq = true → s.ringEn (16 + st.bq) = false ∨ s.fld ⟨ringOff (16 + st.bq) 0xC, 16, 1⟩ = 1 ∨
      s.ringHead (16 + st.bq) = s.ringTail (16 + st.bq) → st.dq < 8 → ∃ t,
    Sys2Proof.Machine.exec (.nodataHeader i) s = .next t ∧ t.offers = s.offers.erase o ∧
    t.now = max s.now (o.t + (s.slotsOf o - 1) * s.framePer o.head) ∧
    let d := s.ringBase (24 + st.dq) + 64 * s.ringTail (24 + st.dq)
    (∀ x, (x < d ∨ d + 64 ≤ x) → t.byte x = s.byte x)) ∧
  (∀ (s : State) (h : Fin 4) (q : Req), s.ao.up = true → s.committedReq .bind h = some q → ∃ t,
    Sys2Proof.Machine.exec (.streamBindCommit h) s = .next t ∧ t.reqs = s.reqs.erase q ∧ t.regs = s.regs ∧ t.mem = s.mem ∧
    (match s.bindCause h (q.p0 % 16) (q.p0 / 256) (q.p1 % 8) (q.p1 / 256) with
      | some _ => t.streams = s.streams
      | none => ∃ b, t.streams = s.streams ++ [b] ∧ b.head = h.val ∧ b.kind = q.p0 % 16 ∧ b.task = q.p0 / 256 ∧ b.dq = q.p1 % 8 ∧
          b.bq = q.p1 / 256 ∧ b.bound = true ∧ b.tick = s.fld R.tickCount ∧ b.gap = 0)) ∧
  (∀ (s : State), s.ao.up = true → ∃ t, Sys2Proof.Machine.exec .pcieReset s = .next t ∧ (∀ k, k < 32 → t.ringEn k = false) ∧
    t.streams = [] ∧ t.offers = [] ∧ t.backlog = [] ∧ t.dma.notes = [] ∧ t.host.linkUp = false ∧ t.fld R.hostLink = 0 ∧
    (t.cmds.filter fun c => c.src == 8) = s.cmds.filter (fun c => c.src == 8) ∧ t.mem = s.mem ∧ t.heads = s.heads) ∧
  (∀ (s : State) (w r : BitVec 4), s.ao.up = true → ∃ t, Sys2Proof.Machine.exec (.linkRestored w r) s = .next t ∧
    t.mem = s.mem ∧
    (if s.host.linkUp = true ∨ ¬(w.toNat ∈ [1, 2, 4] ∧ 1 ≤ r.toNat ∧ r.toNat ≤ 4) then t = s
      else t.host.linkUp = true ∧ t.fld R.hostLink = 256 + 16 * r.toNat + w.toNat ∧
      (s.events.length < 256 → s.logReads = true → t.events.map (·.code) = s.events.map (·.code) ++ [0x0B03]))) ∧
  (∀ (s : State) (wr : Bool) (x : BitVec 28) (n : Nat) (d : List (BitVec 8)), s.calm = true → n ≤ 128 * 2 ^ s.host.mps →
    s.host.d3 = false → (wr = true → d.length = n) →
    let a := s.fld R.hostBar4Win * 0x10000000 + x.toNat
    ∃ t, Sys2Proof.Machine.exec (.bar4Access wr (0, x) n d) s = .next t ∧
    (if wr = true ∧ a + n ≤ 0x70000000 then t.bytes a n = d ∧ (∀ y, (y < a ∨ a + n ≤ y) → t.byte y = s.byte y)
      else t.mem = s.mem) ∧
    (wr = false → a + n ≤ 0x70000000 → t.reply = (s.bytes a n).map (·.toNat) ∧ t.host.ep = s.ueIn a n) ∧
    (0x70000000 < a + n → t.fld R.memOorCnt =
      (s.fld R.memOorCnt + (burstsOf a n).countP fun b => !inDram b.1 b.2) % 2 ^ 16)) ∧
  (∀ (s : State) (wr : Bool) (x : BitVec 28) (n : Nat) (d : List (BitVec 8)), s.ao.up = true → s.alive = false →
    n ≤ 128 * 2 ^ s.host.mps → s.host.d3 = false → ∃ t, Sys2Proof.Machine.exec (.bar4Access wr (0, x) n d) s = .next t ∧
    t.msys.held = s.msys.held ++ [{ req := 7, wr, addr := s.fld R.hostBar4Win * 0x10000000 + x.toNat, len := n, data := d }] ∧
    t = { s with msys := t.msys }) ∧
  (∀ (s : State) (wr : Bool) (k : Fin 4) (x : BitVec 28) (n : Nat) (d : List (BitVec 8)), s.ao.up = true →
    n ≤ 128 * 2 ^ s.host.mps → s.host.d3 = true → k ≠ 2 → Sys2Proof.Machine.exec (.bar4Access wr (k, x) n d) s =
      .next { s with host := { s.host with aer := s.host.aer ||| 2 ^ 20 } }) ∧
  (∀ (s : State) (o : BitVec 24) (n : Nat), s.ao.up = true → n ≤ 128 * 2 ^ s.host.mps → s.host.d3 = false → ∃ t,
    Sys2Proof.Machine.exec (.bar4Access false (3, o.setWidth 28) n []) s = .next t ∧ t.pending = s.pending ∧
    (if n = 4 then t.reply = (leBytes 4 (s.readReg o.toNat).1).map (·.toNat) ∧ t.regs = (s.readReg o.toNat).2.2.regs
      else t.reply = List.replicate n 0 ∧ t = { s.refuse o.toNat with reply := t.reply, pending := s.pending })) ∧
  (∀ (s : State) (q : Fin 8) (w : BitVec 32), s.ao.up = true → s.host.d3 = false →
    ∀ p ∈ ([(0, .sqTailDoorbell), (0x20, .cqHeadDoorbell), (0x40, .bqTailDoorbell), (0x60, .dqHeadDoorbell)] :
      List (Nat × (Fin 8 → BitVec 32 → Bool → Instr))),
    Sys2Proof.Machine.exec (.bar4Access true (1, BitVec.ofNat 28 (p.1 + 4 * q.val)) 4 (leBytes 4 w.toNat)) s =
      Sys2Proof.Machine.exec (p.2 q w true) s) ∧
  (∀ (s : State) (e : Fin 64) (m : BitVec 8), s.ao.up = true → s.host.d3 = false → s.host.msixEn = true →
    s.host.msixMask = false → ∃ t,
    Sys2Proof.Machine.exec (.bar4Access true (1, BitVec.ofNat 28 (0x8000 + 16 * e.val + 12)) 1 [m]) s = .next t ∧
    t = { s with host := t.host } ∧ (t.host.masked.contains e.val ↔ m.toNat % 2 = 1) ∧
    (m.toNat % 2 = 0 → s.host.pendBits.contains e.val = true → e.val ∈ t.host.msix ∧ t.host.pendBits.contains e.val = false)) ∧
  (∀ (s : State), s.ao.up = true → ∃ t, Sys2Proof.Machine.exec .hostMbxGo s = .next t ∧
    (if s.host.mbxBusy then t.reg R.hostErr.off = BitVec.ofNat 32 (2 ^ 31 + 4 * 2 ^ 16 + 0x840) ∧ t = { s with regs := t.regs }
      else t.host.mbxBusy = true ∧ t.fld R.hostMbxStat % 2 = 1 ∧ t.mem = s.mem ∧
        t.cmds = s.cmds ++ [cmdOf s.nextUid 8 ((List.range 16).map fun w => s.fld (R.hostMbxSub w))])) ∧
  (∀ (s : State), s.ao.up = true → ∃ t, Sys2Proof.Machine.exec .hostMbxCpl3Read s = .next t ∧
    t.reply = [s.fld (R.hostMbxCpl 3)] ∧ t.fld R.hostMbxStat / 2 % 2 = 0 ∧ t.fld R.hostMbxStat % 2 = s.fld R.hostMbxStat % 2 ∧
    t = { s with regs := t.regs, reply := t.reply }) ∧
  (∀ (s : State) (e : Ev) (r : List Ev), s.ao.up = true → s.ringEn 8 = false → s.events = e :: r → s.evtLost = 0 → ∃ t,
    Sys2Proof.Machine.exec .hostMbxEvt3Read s = .next t ∧ t.reply = [e.p1] ∧ t.events = r ∧
    t = { s with reply := t.reply, events := t.events })

/-- With the core up and firmware at work, the command a source starts next completes or goes on as follows. An unlisted
opcode: status 5; NOP: status 0. IDENTIFY writes 256 bytes at its address or completes with 7; REG_READ answers as a
register read, status 1 when refused (cause 6 at PEAT_DATA), TICK_COUNT its value; REG_WRITE ends with the register
written (FAULT_MASK shown). TICK_SET refuses what no field holds at the register's offset, and with the generator
running waits for the next edge with the registers written. FREEZE freezes; THAW clears the latch; with nothing
frozen it ends, in a freeze without another request the blocks run again and it waits for its tick. FW_SWITCH
without a staged image is refused with cause 5, else the switch begins as a trial; FW_STAGE answers cause 1 for a
wrong length and cause 4 while a staging runs (FW_SWITCH too; causes 4 and 5 are latched in SYS_ERR, its offset
free), else erases the other slot alone, takes the flash port and goes on. With the blocks running: HEAD_CONFIG sets
the geometry as given and ends, refused while the head's link queue runs; HEAD_ATTACH answers by the head's state or
begins; HEAD_START and HEAD_DETACH make their request, HEAD_START with the need shown; HEAD_LINK starts the queue
unless the link is off (refused), the queue busy or its head not attached (status 1, cause 3). Readings and choices
of the model behind it: log entries 40, 45 to 49, 57, 58, 70. (12_host_rings.md, 02_tick_and_time.md,
03_head_ports.md, 16_power_boot_faults.md) -/
def Obligations.SystemAndHeadCommands : Prop :=
  (∀ (s : State) (src : Fin 10) (c : Cmd), s.starts src c.opc c → (opShape c.opc).isNone = true → ∃ t,
    Sys2Proof.Machine.exec (.unknownOpcode src) s = .next t ∧ t.answered c 5 0 0 0 ∧ t = { s with cmds := t.cmds }) ∧
  (∀ (s : State) (src : Fin 10) (c : Cmd), s.starts src 0x00 c → ∃ t,
    Sys2Proof.Machine.exec (.cmdNop src) s = .next t ∧ t.answered c 0 0 0 0 ∧ t = { s with cmds := t.cmds }) ∧
  (∀ (s : State) (src : Fin 10) (c : Cmd), s.starts src 0x01 c → s.memReady (c.addr 0) = true → ∃ t,
    Sys2Proof.Machine.exec (.identify src) s = .next t ∧
    (∀ x, (x < c.addr 0 ∨ c.addr 0 + 256 ≤ x) → t.byte x = s.byte x) ∧
    (if s.canWrite (c.addr 0) 256 then t.answered c 0 0 (s.fld R.sysFwVer) s.ao.slot
      else t.answered c 7 0 0 0 ∧ t = { s with cmds := t.cmds })) ∧
  (∀ (s : State) (src : Fin 10) (c : Cmd), s.starts src 0x02 c → ∃ t, Sys2Proof.Machine.exec (.regRead src) s = .next t ∧
    t.mem = s.mem ∧ (let r := (s.started c.uid).readReg (c.p 0); t.answered c (if r.2.1 then 1 else 0) (if r.2.1 ∧ c.p 0 = 0x20002C then 6 else 0) r.1 0) ∧
    (c.p 0 = 0x1001C → t.answered c 0 0 (s.fld R.tickCount) 0 ∧ t = { s with cmds := t.cmds })) ∧
  (∀ (s : State) (src : Fin 10) (c : Cmd), s.starts src 0x03 c → ∃ t, Sys2Proof.Machine.exec (.regWrite src) s = .next t ∧
    t.ended c ∧ (c.p 0 % 4 ≠ 0 → t.answered c 1 0 0 0 ∧ t.mem = s.mem) ∧
    (c.p 0 = 0x20000 → c.p 1 < 2 ^ 32 → c.p 2 = 2 ^ 32 - 1 → t.fld R.faultMask = c.p 1 % 2 ^ R.faultMask.len ∧
      (∀ o, o ≠ 0x20000 → t.reg o = s.reg o) ∧ t = { s with regs := t.regs, cmds := t.cmds })) ∧
  (∀ (s : State) (src : Fin 10) (c : Cmd), s.starts src 0x04 c → ∃ t, Sys2Proof.Machine.exec (.tickSet src) s = .next t ∧
    (2 ^ 30 ≤ c.p 1 → t.answered c 1 0 0 0 ∧ t.reg R.tickErr.off = BitVec.ofNat 32 (2 ^ 31 + 4)) ∧
    (c.p 1 < 2 ^ 30 → 256 ≤ c.p 2 → t.answered c 1 0 0 0 ∧ t.reg R.tickErr.off = BitVec.ofNat 32 (2 ^ 31 + 8)) ∧
    (nbits (s.fld R.tickStatus) 0 1 = 1 → nbits (c.p 0) 3 1 = 1 → nbits (c.p 0) 0 2 ≤ 2 →
      (∀ h : Fin 4, s.flag (R.headCtlClk h) = false) → c.p 1 < 2 ^ 30 → c.p 2 < 256 → 50 ≤ c.p 3 → c.p 3 ≤ 10000 →
      periodOk (c.p 1 * 256 + c.p 2) (c.p 3) = true →
      t.reqs.getLast? = some { kind := .tickSet, cmd := some c.uid } ∧ t.goesOn c ∧ t.fld R.tickPeriodNs = c.p 1 ∧
      t.fld R.tickPeriodFrac = c.p 2 ∧ t.fld R.tickGuardUs = c.p 3 ∧ t.fld R.tickCtlEn = 1 ∧ t.fld R.tickCtlSrc = nbits (c.p 0) 0 2 ∧
      t = { s with regs := t.regs, cmds := t.cmds, reqs := t.reqs })) ∧
  (∀ (s : State) (src : Fin 10) (c : Cmd), s.starts src 0x78 c → ∃ t, Sys2Proof.Machine.exec (.freeze src) s = .next t ∧
    t.ended c ∧ t.ao.latch = true ∧ t.ao.frozen = true) ∧
  (∀ (s : State) (src : Fin 10) (c : Cmd), s.starts src 0x79 c → s.ao.frozen = false → ∃ t,
    Sys2Proof.Machine.exec (.thaw src) s = .next t ∧ t.answered c 0 0 0 0 ∧ t = { s with cmds := t.cmds, ao := t.ao } ∧
    t.ao = { s.ao with latch := false }) ∧
  (∀ (s : State) (src : Fin 10) (c : Cmd), s.starts src 0x79 c → s.ao.frozen = true → s.ao.pin = false → s.ao.shut = false → ∃ t,
    Sys2Proof.Machine.exec (.thaw src) s = .next t ∧ t.ao.frozen = false ∧ t.ao.latch = false ∧ t.flash.polling = true ∧
    t.reqs.getLast? = some { kind := .thaw, cmd := some c.uid }) ∧
  (∀ (s : State) (src : Fin 10) (c : Cmd), s.starts src 0x71 c → ∃ t, Sys2Proof.Machine.exec (.fwSwitch src) s = .next t ∧
    (if s.ao.stage.isSome then t.answered c 1 4 0 0 ∧ t.latchedSince s 4 else match s.ao.staged with
      | none => t.answered c 1 5 0 0 ∧ t.latchedSince s 5
      | some _ => t.goesOn c ∧ t.fld R.sysStatTrial = 1 ∧ t.ao.sw = some (some c.uid) ∧
          ∀ x, (x < xipBase ∨ xipBase + 0x2000 ≤ x) → t.byte x = s.byte x)) ∧
  (∀ (s u v : State) (src : Fin 10) (fail : Bool) (c : Cmd) (head bs : List Byte), s.starts src 0x70 c → s.calm = true →
    s.flash.polling = false → s.ao.stage = none → (s.started c.uid).hostRead (c.addr 0) 256 = (some head, u) → ∃ t,
    Sys2Proof.Machine.exec (.fwStage src fail) s = .next t ∧
    (c.p 2 ≠ 256 + leNat ((head.drop 12).take 4) ∨ 0x400000 < c.p 2 → t.answered c 1 1 0 0 ∧ t.mem = s.mem) ∧
    (c.p 2 = 256 + leNat ((head.drop 12).take 4) → c.p 2 ≤ 0x400000 → u.hostRead (c.addr 0) (c.p 2) = (some bs, v) →
      s.ao.slot ≤ 1 → t.goesOn c ∧ t.ao.stage = some (c.uid, 1 - s.ao.slot, fail, bs) ∧ t.ao.staged = none ∧
      t.flash.polling = true ∧ nbits (t.fld R.spiFlStat) 3 1 = 1 ∧
      (∀ x, (x < slotBase (1 - s.ao.slot) ∨ slotBase (1 - s.ao.slot) + 0x400000 ≤ x) → t.byte x = s.byte x))) ∧
  (∀ (s : State) (src : Fin 10) (fail : Bool) (c : Cmd), s.starts src 0x70 c → s.calm = true → s.ao.stage.isSome = true → ∃ t,
    Sys2Proof.Machine.exec (.fwStage src fail) s = .next t ∧ t.answered c 1 4 0 0 ∧ t.latchedSince s 4) ∧
  (∀ (s u v : State) (src : Fin 10) (c : Cmd) (bs : List Byte), s.starts src 0x10 c → s.calm = true → c.obj < 4 →
    (s.started c.uid).hostRead (c.addr 10) 68 = (some bs, u) → ∃ t, Sys2Proof.Machine.exec (.headConfig src) s = .next t ∧
    ((s.hl c.obj).run = true → t.answered c 1 0 0 0 ∧ t.fld (R.headColsCols c.obj) = s.fld (R.headColsCols c.obj)) ∧
    ((s.hl c.obj).run = false → u.tryWords (u.configWords c (wordsOf 17 bs)) = .ok v →
      (∀ k : Fin 8, configBias c k ≤ u.fld (R.headBiasMax c.obj k)) →
      v.fld (R.headCadPhase c.obj) < v.fld (R.headCadDiv c.obj) → v.fld (R.afeGrpCtlGain c.obj) ≤ 4 →
      v.geomOk c.obj = true → v.rateOk c.obj = true → t.ended c ∧ (t.head c.obj).configured = true ∧
      t.fld (R.headColsCols c.obj) = c.p 0 % 2 ^ 11)) ∧
  (∀ (s : State) (src : Fin 10) (c : Cmd), s.starts src 0x11 c → s.calm = true → c.obj < 4 → ∃ t,
    Sys2Proof.Machine.exec (.headAttach src) s = .next t ∧
    let x := s.head c.obj
    let st := s.hState c.obj
    (if x.attachCmd.isSome then t.answered c 0x0A 0 0 0 ∧ t = { s with cmds := t.cmds }
      else if st = 0 ∨ st = 5 then t.answered c 1 1 0 0 ∧ t = { s with cmds := t.cmds }
      else if st = 4 then t.answered c 0 0 x.startTick 0 ∧ t = { s with cmds := t.cmds }
      else st = 1 → x.attach = 0 → t.goesOn c ∧ (t.head c.obj).attachCmd = some c.uid ∧
        (t.head c.obj).attach = 2 ∧ t.hState c.obj = 2 ∧ (t.head c.obj).hpen = true ∧ t.mem = s.mem)) ∧
  (∀ (s : State) (src : Fin 10) (c : Cmd), s.starts src 0x12 c → s.calm = true → c.obj < 4 → ∃ t,
    Sys2Proof.Machine.exec (.headStart src) s = .next t ∧ t.goesOn c ∧
    t.reqs.getLast? = some { kind := .headStart, obj := c.obj, cmd := some c.uid } ∧
    t.fld (R.headNeed c.obj) = min 0xFFFF (s.need c.obj) ∧ (∀ o, o ≠ (R.headNeed c.obj).off → t.reg o = s.reg o) ∧
    t = { s with regs := t.regs, cmds := t.cmds, reqs := t.reqs }) ∧
  (∀ (s : State) (src : Fin 10) (c : Cmd), s.starts src 0x13 c → s.calm = true → ∃ t,
    Sys2Proof.Machine.exec (.headDetach src) s = .next t ∧ t.goesOn c ∧
    t.reqs.getLast? = some { kind := .headDetach, obj := c.obj, cmd := some c.uid } ∧
    t = { s with cmds := t.cmds, reqs := t.reqs }) ∧
  (∀ (s : State) (src : Fin 10) (c : Cmd), s.starts src 0x14 c → s.calm = true → c.obj < 4 → s.hostGone (c.addr 0) = false → ∃ t,
    Sys2Proof.Machine.exec (.headLink src) s = .next t ∧ t.mem = s.mem ∧
    (if s.flag (R.spiHlCfgEn c.obj) = false ∨ ¬ 32 ∣ c.addr 0 ∨ c.p 2 = 0 ∨ 0xFFFF < c.p 2 then t.answered c 1 0 0 0 ∧ t.hls = s.hls
      else if (s.hl c.obj).run then t.answered c 0x0A 0 0 0 ∧ t.hls = s.hls
      else if s.hlHeadOk c.obj then t.goesOn c ∧ (t.hl c.obj).run = true ∧ (t.hl c.obj).addr = c.addr 0 ∧
          (t.hl c.obj).cnt = c.p 2 ∧ (t.hl c.obj).cmd = some c.uid ∧ (t.hl c.obj).go = (nbits (c.p 3) 0 1 == 0)
        else t.answered c 1 3 0 0 ∧ (t.hl c.obj).run = false))

/-- With the blocks and firmware at work, the command of a source that starts next: AFE_TRAIN, AFE_SWAP and
AFE_REQUALIFY are refused with the causes of R92 in order (status 0x0A for a slice at the same work already), else
the work waits in the group; TABLE_OPEN answers the inactive bank and its record base, invalid and locked from then
on, or cause 9; TABLE_CLOSE gives the bank its generation and validity, or is refused with cause 9 with the load
still open; TABLE_ACTIVATE makes its request; SHUTTER joins or makes the pending event; SHUTTER_ABORT without an
event it may end is refused with cause 8; OUTPUT_SET answers HEAD_NEED or is refused; EMISSIVITY is refused with
causes 1, 3, 2 or sets its pair and waits; ACT_SETUP sets the two basic profiles, the off time and the budget and
answers the planned times, or is refused; ACT_START at a tick makes its request, ACT_STOP of a reserved channel is
refused with cause 4 and stops a running one (an idle one drops its held starts), ACT_CLEAR clears a fault that no
longer persists; ENG_RELOAD, ENG_DECLARE, ENG_BROADCAST and TASK_WISOA make the bound request with their operands or
are refused; ENG_REQUALIFY queues the test of a retired engine or is refused. Readings and choices of the model
behind it: log entries 26, 50, 51, 69, 76. (12_host_rings.md, 04_analog_front_end.md,
05_correction_and_radiometry.md, 06_shutter_calibration.md, 07_actuator_drivers.md, 08_engine_array.md) -/
def Obligations.FrontEndToEngineCommands : Prop :=
  (∀ (s : State) (src : Fin 10) (c : Cmd), s.starts src 0x18 c → s.calm = true → c.obj < 4 → ∃ t,
    Sys2Proof.Machine.exec (.afeTrain src) s = .next t ∧ t.mem = s.mem ∧
    (if (s.group c.obj).trainKind ≠ 0 ∨ (s.group c.obj).trainReq ≠ 0 then t.answered c 1 3 0 0 ∧ t.groups = s.groups
      else if ¬ (s.hState c.obj = 3 ∨ s.hState c.obj = 4) then t.answered c 1 4 0 0 ∧ t.groups = s.groups
      else if s.afeSpares c.obj = [] then t.answered c 1 6 0 0 ∧ t.groups = s.groups
      else t.goesOn c ∧ t.group c.obj = { s.group c.obj with trainReq := 2, trainCmd := some c.uid } ∧
        t = { s with cmds := t.cmds, groups := t.groups })) ∧
  (∀ (s : State) (src : Fin 10) (c : Cmd), s.starts src 0x19 c → s.calm = true → c.obj < 4 → ∃ t,
    Sys2Proof.Machine.exec (.afeSwap src) s = .next t ∧ t.mem = s.mem ∧
    let l := c.p 0
    (if (s.group c.obj).decl.any (fun d => d.1 == l && d.2.1 == 5) ∨ (s.group c.obj).takes.any (fun t => t.failing == l && t.case == 5) then
        t.answered c 10 0 0 0 ∧ t.groups = s.groups
      else if s.afeSpares c.obj = [] then t.answered c 1 1 0 0 ∧ t.groups = s.groups
      else if 38 ≤ l ∨ s.fld (R.afeSliceCtlRole (38 * c.obj + l)) ≠ 0 ∨ (s.group c.obj).decl.any (·.1 == l) = true ∨
        (s.group c.obj).takes.any (·.failing == l) = true then t.answered c 1 2 0 0 ∧ t.groups = s.groups
      else if ¬ (s.hState c.obj = 3 ∨ s.hState c.obj = 4) then t.answered c 1 4 0 0 ∧ t.groups = s.groups
      else t.goesOn c ∧ (t.group c.obj).decl = (s.group c.obj).decl ++ [(l, 5, some c.uid)] ∧
        t = { s with cmds := t.cmds, groups := t.groups })) ∧
  (∀ (s : State) (src : Fin 10) (c : Cmd), s.starts src 0x1A c → s.calm = true → c.obj < 4 → ∃ t,
    Sys2Proof.Machine.exec (.afeRequalify src) s = .next t ∧ t.mem = s.mem ∧
    let l := c.p 0
    (if (s.group c.obj).requal.any (·.1 == l) then t.answered c 10 0 0 0 ∧ t.groups = s.groups
      else if ¬ (s.hState c.obj = 3 ∨ s.hState c.obj = 4) then t.answered c 1 4 0 0 ∧ t.groups = s.groups
      else if 38 ≤ l ∨ s.fld (R.afeSliceCtlRole (38 * c.obj + l)) ≠ 2 then
        t.answered c 1 5 0 0 ∧ t.groups = s.groups
      else t.goesOn c ∧ (t.group c.obj).requal = (s.group c.obj).requal ++ [(l, some c.uid)] ∧
        t.slice (38 * c.obj + l) = { (s.slice (38 * c.obj + l)).restart with train := true, rqThr := false, rqN := 0, meas := 0 } ∧
        (∀ k, k ≠ 38 * c.obj + l → t.slice k = s.slice k) ∧
        t = { s with cmds := t.cmds, groups := t.groups, slices := t.slices })) ∧
  (∀ (s : State) (src : Fin 10) (c : Cmd), s.starts src 0x20 c → s.calm = true → c.obj < 4 → ∃ t,
    Sys2Proof.Machine.exec (.tableOpen src) s = .next t ∧ t.mem = s.mem ∧
    let b := s.inactive c.obj
    (if s.openRefused c.obj b then t.answered c 1 9 0 0 ∧ t.cals = s.cals ∧
        t.reg (R.calErr c.obj).off = BitVec.ofNat 32 (2 ^ 31 + 9 * 2 ^ 16 + 0x50)
      else t.answered c 0 0 b (s.recBase c.obj b) ∧ t.flag (bankValid c.obj b) = false ∧ t.flag (R.calStatusLock c.obj) = true ∧
        (t.cal c.obj).lockBank = b)) ∧
  (∀ (s : State) (src : Fin 10) (c : Cmd), s.starts src 0x21 c → s.calm = true → c.obj < 4 → (s.cal c.obj).lockBank < 2 → ∃ t,
    Sys2Proof.Machine.exec (.tableClose src) s = .next t ∧ t.mem = s.mem ∧
    let b := (s.cal c.obj).lockBank
    (if s.flag (R.calStatusLock c.obj) = false ∨ s.genRefused c.obj (c.p 0 % 65536) = true then t.answered c 1 9 0 0 ∧
        t.flag (R.calStatusLock c.obj) = s.flag (R.calStatusLock c.obj) ∧ t.fld (R.corrBankGen c.obj b) = s.fld (R.corrBankGen c.obj b)
      else t.answered c 0 0 b (c.p 0 % 65536) ∧ t.flag (R.calStatusLock c.obj) = false ∧ t.flag (bankValid c.obj b) = true ∧
        t.fld (R.corrBankGen c.obj b) = c.p 0 % 65536 ∧ t.fld (R.corrBankTcal c.obj b) = c.p 1 % 2 ^ 20)) ∧
  (∀ (s : State) (src : Fin 10) (c : Cmd), s.starts src 0x22 c → s.calm = true → ∃ t,
    Sys2Proof.Machine.exec (.tableActivate src) s = .next t ∧ t.goesOn c ∧ t.regs = s.regs ∧ t.mem = s.mem ∧
    t.reqs.getLast? = some { kind := .activation, obj := c.obj, p0 := c.p 0 % 2, p1 := c.p 1 % 65536, cmd := some c.uid }) ∧
  (∀ (s : State) (src : Fin 10) (c : Cmd), s.starts src 0x23 c → s.calm = true → c.obj < 4 → ∃ t,
    Sys2Proof.Machine.exec (.shutter src) s = .next t ∧ t.goesOn c ∧ t.mem = s.mem ∧
    (t.cal c.obj).reqCmds = (s.cal c.obj).reqCmds ++ [c.uid] ∧
    (s.calRuns c.obj = true → t.regs = s.regs ∧ t.reqs = s.reqs) ∧
    (s.calRuns c.obj = false → t.flag (R.calStatusPending c.obj) = true ∧
      (s.flag (R.calStatusPending c.obj) = false → t.reqs = s.reqs ++ [{ kind := .shutter, obj := c.obj }] ∧
        (t.cal c.obj).reqSrc = 3))) ∧
  (∀ (s : State) (src : Fin 10) (c : Cmd), s.starts src 0x24 c → s.calm = true → c.obj < 4 → ∃ t,
    Sys2Proof.Machine.exec (.shutterAbort src) s = .next t ∧ t.ended c ∧
    (if s.calRuns c.obj = true ∧ (s.cal c.obj).lDone = false ∧ (s.cal c.obj).abandoned = false then
        t.fld (R.calStatusLastResult c.obj) = 10 ∧ (if (s.cal c.obj).accepted then t.calState c.obj = 0
          else (t.cal c.obj).abandoned = true ∧ t.calState c.obj ≠ 0)
      else t.answered c 1 8 0 0 ∧ t.cals = s.cals ∧ t.reg (R.calErr c.obj).off = BitVec.ofNat 32 (2 ^ 31 + 8 * 2 ^ 16 + 0x50))) ∧
  (∀ (s : State) (src : Fin 10) (c : Cmd), s.starts src 0x28 c → s.calm = true → c.obj < 4 → ∃ t,
    Sys2Proof.Machine.exec (.outputSet src) s = .next t ∧ t.mem = s.mem ∧
    (match (s.started c.uid).tryWords [(0xC0000 + 0x10000 * c.obj + 4, c.p 0 % 2 ^ 13), (0xC0000 + 0x10000 * c.obj, c.p 1 % 8)] with
      | .error _ => t.answered c 1 0 0 0
      | .ok u => if u.ringsOk c.obj then t.answered c 0 0 (t.fld (R.headNeed c.obj)) 0 ∧
            t.fld (R.headNeed c.obj) = min 0xFFFF (u.need c.obj) ∧ t.fld (R.corrFmtEn c.obj) = c.p 0 % 2 ^ (R.corrFmtEn c.obj).len
          else t.answered c 1 0 0 0 ∧ t.fld (R.corrFmtEn c.obj) = s.fld (R.corrFmtEn c.obj))) ∧
  (∀ (s : State) (src : Fin 10) (c : Cmd), s.starts src 0x29 c → s.calm = true → c.obj < 4 → ∃ t,
    Sys2Proof.Machine.exec (.emissivity src) s = .next t ∧ t.mem = s.mem ∧
    (if c.p 0 < 656 ∨ 65536 < c.p 0 then t.answered c 1 1 0 0 ∧ t.regs = s.regs
      else match (s.pipe c.obj).active with
        | none => t.answered c 1 3 0 0 ∧ t.regs = s.regs
        | some b => match radianceFor ((s.pipe c.obj).lut b) (c.p 1) with
          | none => t.answered c 1 2 0 0 ∧ t.regs = s.regs
          | some l => t.goesOn c ∧ c.uid ∈ (t.pipe c.obj).emisCmds ∧
              t.fld (R.corrInvEps c.obj) = (rdiv (2 ^ 32) (c.p 0)).toNat % 2 ^ 24 ∧
              t.fld (R.corrLoff c.obj) = (rdiv ((65536 - c.p 0) * l) 65536).toNat % 2 ^ 24 ∧
              t.fld (R.corrRadCtlEmap c.obj) = c.p 2 % 2)) ∧
  (∀ (s : State) (src : Fin 10) (c : Cmd), s.starts src 0x30 c → s.calm = true → c.obj < 8 → ∃ t,
    Sys2Proof.Machine.exec (.actSetup src) s = .next t ∧ t.mem = s.mem ∧
    let k := c.obj
    let lim := s.fld (R.actChIlim k)
    (lim < c.p 0 ∨ c.p 1 = 0 ∨ 65535 < c.p 1 ∨ lim < c.p 2 ∨ s.slotHeld k 0 = true ∨ s.slotHeld k 1 = true ∨ 60000 < c.p 3 ∨ c.p 4 = 0 ∨ 8000000 < c.p 4 →
      t.answered c 1 0 0 0 ∧ (∀ o, o ≠ R.actErr.off → t.reg o = s.reg o)) ∧
    (c.p 0 ≤ lim → c.p 1 ≠ 0 → c.p 1 ≤ 65535 → c.p 2 ≤ lim → s.slotHeld k 0 = false → s.slotHeld k 1 = false → c.p 3 ≤ 60000 →
      c.p 4 ≠ 0 → c.p 4 ≤ 8000000 → t.answered c 0 0 (t.planned k 0) (t.planned k 1) ∧
      t.fld (R.actChPhase k 0 0) = phaseWord (c.p 0) 100 4 % 2 ^ 30 ∧ t.fld (R.actChPhase k 1 0) = phaseWord (-c.p 0) 100 4 % 2 ^ 30 ∧
      t.fld (R.actChPhase k 0 1) = phaseWord (c.p 0) (c.p 1) 1 % 2 ^ 30 ∧ t.fld (R.actChPhase k 0 3) = phaseWord 0 100 2 % 2 ^ 30 ∧
      t.fld (R.actChSlotlen k) % 256 = 0x44 ∧ t.fld (R.actChMinoff k) = c.p 3 ∧ t.fld (R.actChBudget k) = c.p 4 ∧
      t.flag (R.actChCtlEn k) = true)) ∧
  (∀ (s : State) (src : Fin 10) (c : Cmd), s.starts src 0x31 c → s.calm = true → ∃ t,
    Sys2Proof.Machine.exec (.actStart src) s = .next t ∧
    (nbits (c.p 0) 8 1 = 1 → t.goesOn c ∧ t.reqs.getLast? = some { kind := .actStart, obj := c.obj, p0 := c.p 0 % 4, cmd := some c.uid } ∧
      t = { s with cmds := t.cmds, reqs := t.reqs }) ∧
    (nbits (c.p 0) 8 1 = 0 →
      t = { (s.started c.uid).actStart c.obj (c.p 0 % 4) .host (some c.uid) with pending := s.pending })) ∧
  (∀ (s : State) (src : Fin 10) (c : Cmd), s.starts src 0x32 c → s.calm = true → c.obj < 8 → ∃ t,
    Sys2Proof.Machine.exec (.actStop src) s = .next t ∧ t.ended c ∧ t.mem = s.mem ∧
    (if s.reserved c.obj then t.answered c 1 4 0 0 ∧ t.acts = s.acts
      else if s.actState c.obj = 4 then t.answered c 0 0 0 0 ∧ (t.act c.obj).stopping = true ∧ t.regs = s.regs
      else if s.actState c.obj = 2 ∨ s.actState c.obj = 3 then t.actState c.obj = (if s.flag (R.actChCtlEn c.obj) then 1 else 0)
      else t.answered c 0 0 0 0 ∧
        t = { s with cmds := t.cmds, therm := { s.therm with starts := s.therm.starts.filter (·.1 != c.obj) } })) ∧
  (∀ (s : State) (src : Fin 10) (c : Cmd), s.starts src 0x33 c → s.calm = true → c.obj < 8 → ∃ t,
    Sys2Proof.Machine.exec (.actClear src) s = .next t ∧ t.mem = s.mem ∧
    (if s.actState c.obj ≠ 5 then t.answered c 0 0 0 0 ∧ t = { s with cmds := t.cmds }
      else if s.faultPersists c.obj then t.answered c 1 4 0 0 ∧ t.actState c.obj = 5
      else t.answered c 0 0 0 0 ∧ t.fld (R.actChStatFault c.obj) = 0 ∧
        t.actState c.obj = (if s.flag (R.actChCtlEn c.obj) then 1 else 0))) ∧
  (∀ (s : State) (src : Fin 10) (c : Cmd), s.starts src 0x38 c → s.calm = true → c.obj < 8 → ∃ t,
    Sys2Proof.Machine.exec (.engReload src) s = .next t ∧ t.goesOn c ∧ t.mem = s.mem ∧
    t.reqs.getLast? = some { kind := .reload, obj := c.obj, p0 := c.addr 0, cmd := some c.uid } ∧
    (t.mire c.obj).staging = some (c.addr 0, some c.uid) ∧ t.fld (R.engMireStatState c.obj) = 2) ∧
  (∀ (s : State) (src : Fin 10) (c : Cmd), s.starts src 0x39 c → s.calm = true → ∃ t,
    Sys2Proof.Machine.exec (.engDeclare src) s = .next t ∧ t.mem = s.mem ∧
    (if ¬ 64 ∣ c.addr 0 ∨ 64 < c.p 2 then t.answered c 1 0 0 0 ∧ t.reqs = s.reqs ∧
        t.reg R.engErr.off = BitVec.ofNat 32 (2 ^ 31 + (if ¬ 64 ∣ c.addr 0 then 8 else 0xC))
      else if s.hostGone (c.addr 0) then t.answered c 7 0 0 0 ∧ t = { s with cmds := t.cmds }
      else t.goesOn c ∧ t.fld R.engTaskCnt = c.p 2 ∧
        t.reqs.getLast? = some { kind := .taskDeclare, p0 := c.p 2, p1 := c.addr 0, cmd := some c.uid })) ∧
  (∀ (s : State) (src : Fin 10) (c : Cmd), s.starts src 0x3A c → s.calm = true → c.obj < 8 → ∃ t,
    Sys2Proof.Machine.exec (.engRequalify src) s = .next t ∧ t.mem = s.mem ∧
    (if c.p 0 < 24 ∧ s.engRole (24 * c.obj + c.p 0) = 2 ∧ (s.mire c.obj).requal.any (·.1 == c.p 0) = false then
        t.goesOn c ∧ (t.mire c.obj).requal = (s.mire c.obj).requal ++ [(c.p 0, some c.uid)] ∧ t.regs = s.regs
      else t.answered c (if (s.mire c.obj).requal.any (·.1 == c.p 0) then 10 else 1) 0 0 0 ∧ t.mires = s.mires)) ∧
  (∀ (s : State) (src : Fin 10) (c : Cmd), s.starts src 0x3B c → s.calm = true → ∃ t,
    Sys2Proof.Machine.exec (.engBroadcast src) s = .next t ∧ t.mem = s.mem ∧
    (if 2 ^ 20 ≤ c.p 2 ∨ ¬ 16 ∣ c.p 2 ∨ 2 ^ 21 ≤ c.p 3 ∨ rangeOk 0x128030 (c.p 3) = false then t.answered c 1 0 0 0 ∧ t.reqs = s.reqs
      else t.goesOn c ∧ t.reqs.getLast? = some
        { kind := .broadcast, p0 := c.addr 0, p1 := c.p 2, p2 := c.p 3 * 256 + c.p 4 % 256, cmd := some c.uid })) ∧
  (∀ (s : State) (src : Fin 10) (c : Cmd), s.starts src 0x3C c → s.calm = true → ∃ t,
    Sys2Proof.Machine.exec (.taskWisoa src) s = .next t ∧ t.mem = s.mem ∧ t.regs = s.regs ∧
    (if 128 ≤ c.p 0 then t.answered c 1 1 0 0 ∧ t.reqs = s.reqs
      else if s.hostGone (c.addr 1) then t.answered c 7 0 0 0 ∧ t.reqs = s.reqs
      else t.goesOn c ∧ t.reqs.getLast? = some
        { kind := .taskDeclare, p0 := c.obj, p1 := c.p 0, p2 := c.addr 1 + 1, cmd := some c.uid }))

/-- With the blocks and firmware at work, the command of a source that starts next: VID_INLINE, VID_TONE, VID_LAYERS and
VID_L3 write their registers and make the request bound to a tick, or are refused as their registers are; VID_L3 in
host memory without a link completes with 7; its copy begins unless an earlier one's waits for its edge (log entry
65). VID_OUT and VID_RX set their registers and complete, VID_OUT with both loads, or are refused; VID_OUT may
always clear EN alone. MEM_TICKETS sets the sixteen tickets and answers the deficit. DMA_COPY of a channel owned by
Wisoa completes with 9, without a link with 7, of a busy channel or misaligned chain refused with cause 1, else the
channel fetches from its head; DMA_ABORT is refused where there is nothing to end, else the channel is idle.
STREAM_BIND of kinds 8 and up is refused with cause 1, else bound to a tick; STREAM_UNBIND of no stream is refused
with cause 4, else the stream is ending. THERM_CAP sets the ceiling or is refused with cause 1. PEAT_READ and
PEAT_WRITE answer the causes of R344 in their order, else PEAT_READ writes only the bytes asked for and PEAT_WRITE
puts the data into the SRAM and begins the store that answers it (cause 5 where that store is refused), or waits for
a running store to end. Readings and choices of the model behind it: log entries 52 to 54, 58. (12_host_rings.md,
09_video_pipeline.md, 10_memory_and_arbitration.md, 11_sluice_dma.md, 14_thermal_and_references.md,
15_peat_store.md) -/
def Obligations.VideoToPeatCommands : Prop :=
  (∀ (s : State) (src : Fin 10) (c : Cmd), s.starts src 0x40 c → s.calm = true → ∃ t,
    Sys2Proof.Machine.exec (.vidInline src) s = .next t ∧ t.goesOn c ∧ t.mem = s.mem ∧
    t.fld R.vidCtlInline = c.obj % 2 ^ R.vidCtlInline.len ∧ t.flag R.vidCtlInlineEn = (nbits (c.p 0) 0 1 == 1) ∧
    t.reqs.getLast? = some { kind := .inlineChange, p0 := c.obj, p1 := nbits (c.p 0) 0 1, cmd := some c.uid }) ∧
  (∀ (s : State) (src : Fin 10) (c : Cmd), s.starts src 0x41 c → s.calm = true → c.obj < 4 → ∃ t,
    Sys2Proof.Machine.exec (.vidTone src) s = .next t ∧ t.mem = s.mem ∧
    let o := 0x1A0000 + 0x100 * c.obj
    (match (s.started c.uid).tryWords [(o + 4, c.p 0), (o + 8, c.p 1)] with
      | .error _ => t.answered c 1 0 0 0 ∧ t.reqs = s.reqs
      | .ok u => if u.fld (R.vidToneMode c.obj) = 3 ∨ (u.fld (R.vidToneMode c.obj) ≠ 0 ∧ s.fld (R.vidHeadCtlInput c.obj) ≠ 0) ∨
            c.p 1 / 65536 ≤ c.p 1 % 65536 then t.answered c 1 0 0 0 ∧ t.reqs = s.reqs ∧ t.reg (o + 4) = s.reg (o + 4)
          else t.goesOn c ∧ t.regs = u.regs ∧ t.reqs.getLast? = some { kind := .tone, obj := c.obj, cmd := some c.uid })) ∧
  (∀ (s : State) (src : Fin 10) (c : Cmd), s.starts src 0x42 c → s.calm = true → c.obj < 4 → ∃ t,
    Sys2Proof.Machine.exec (.vidLayers src) s = .next t ∧ t.mem = s.mem ∧
    (match (s.started c.uid).tryWords [(0x1A0014 + 0x100 * c.obj, c.p 0)] with
      | .error _ => t.answered c 1 0 0 0 ∧ t.reqs = s.reqs
      | .ok u => t.goesOn c ∧ t.regs = u.regs ∧ t.reqs.getLast? = some { kind := .layers, obj := c.obj, cmd := some c.uid })) ∧
  (∀ (s : State) (src : Fin 10) (c : Cmd), s.starts src 0x43 c → s.calm = true → c.obj < 4 → ∃ t,
    Sys2Proof.Machine.exec (.vidL3 src) s = .next t ∧ t.mem = s.mem ∧
    let a := c.addr 0
    (if s.hostGone a then t.answered c 7 0 0 0 ∧ t = { s with cmds := t.cmds }
      else if isHost a = false ∧ inDram a (s.actW c.obj * s.actH c.obj * 4) = false then t.answered c 1 0 0 0 ∧ t.vidH c.obj = s.vidH c.obj
      else t.goesOn c ∧ t.reqs.getLast? = some { kind := .layer3, obj := c.obj, p0 := a, cmd := some c.uid } ∧
        (if s.l3Waits c.obj = true then t.vids = s.vids
          else ∃ k, k < 2 ∧ (t.vidH c.obj).l3copy = some (k, a, false) ∧ (s.vidH c.obj).l3slot ≠ some k))) ∧
  (∀ (s : State) (src : Fin 10) (c : Cmd), s.starts src 0x44 c → s.calm = true → c.obj < 4 → ∃ t,
    Sys2Proof.Machine.exec (.vidOut src) s = .next t ∧ t.mem = s.mem ∧
    let o := 0x1A0000 + 0x100 * c.obj
    let u := (s.setReg o (BitVec.ofNat 32 (c.p 0 % 64))).setFld R.vidTxRate (c.p 1)
    let free := s.fld R.vidTxRate = c.p 1 ∧ s.vidCtlFree c.obj (c.p 0 % 64) = true
    (if rangeOk o (c.p 0 % 64) = false ∨ 2 ^ 12 ≤ c.p 1 ∨ rangeOk 0x1A0A04 (c.p 1) = false ∨ (¬ free ∧ u.vidHeadCtlOk c.obj = false) then
        t.answered c 1 0 0 0 ∧ (∀ p, p ≠ R.vidErr.off → t.reg p = s.reg p)
      else t.answered c 0 0 (t.fld R.vidLoad) (t.fld R.vidTxLoad) ∧ t.reg o = BitVec.ofNat 32 (c.p 0 % 64) ∧
        t.fld R.vidTxRate = c.p 1)) ∧
  (∀ (s : State) (src : Fin 10) (c : Cmd), s.starts src 0x45 c → s.calm = true → ∃ t,
    Sys2Proof.Machine.exec (.vidRx src) s = .next t ∧ t.mem = s.mem ∧
    (if rangeOk 0x1A0900 (c.p 0) = false ∨ rxCtlOk (nbits (c.p 0) 10 3) (nbits (c.p 0) 13 4) = false ∨ rxSizeOk (c.p 1) = false ∨
        2 ^ 12 ≤ c.p 2 ∨ rangeOk 0x1A0908 (c.p 2) = false then
        t.answered c 1 0 0 0 ∧ (∀ p, p ≠ R.vidErr.off → t.reg p = s.reg p)
      else t.answered c 0 0 0 0 ∧ t.reg 0x1A0900 = BitVec.ofNat 32 (c.p 0 % 2 ^ 17) ∧
        t.fld R.vidRxSize = nbits (c.p 1) 0 13 + nbits (c.p 1) 16 13 * 65536 ∧ t.fld R.vidRxRate = c.p 2)) ∧
  (∀ (s : State) (src : Fin 10) (c : Cmd), s.starts src 0x48 c → s.calm = true → ∃ t,
    Sys2Proof.Machine.exec (.memTickets src) s = .next t ∧ t.answered c 0 0 (t.fld R.memArbDeficit) 0 ∧ t.mem = s.mem ∧
    ∀ i, i < 16 → t.fld (R.memArbTickets i) = c.p (i / 4) / 2 ^ (8 * (i % 4)) % 256) ∧
  (∀ (s : State) (src : Fin 10) (c : Cmd), s.starts src 0x50 c → s.calm = true → c.obj < 16 → ∃ t,
    Sys2Proof.Machine.exec (.dmaCopy src) s = .next t ∧ t.mem = s.mem ∧
    (if s.chOwned c.obj then t.answered c 9 0 0 0 ∧ t = { s with cmds := t.cmds }
      else if s.hostGone (c.addr 0) then t.answered c 7 0 0 0 ∧ t = { s with cmds := t.cmds }
      else if s.chState c.obj ≠ 0 ∨ ¬ 64 ∣ c.addr 0 then t.answered c 1 1 0 0 ∧ t = { s with cmds := t.cmds }
      else t.goesOn c ∧ t.chState c.obj = 1 ∧ t.flag (R.dmaChCfgEn c.obj) = true ∧
        (t.chan c.obj).next = c.addr 0 % 2 ^ 64 ∧ (t.chan c.obj).cmd = some c.uid)) ∧
  (∀ (s : State) (src : Fin 10) (c : Cmd), s.starts src 0x51 c → s.calm = true → c.obj < 16 → ∃ t,
    Sys2Proof.Machine.exec (.dmaAbort src) s = .next t ∧ t.ended c ∧
    (if s.chOwned c.obj then t.answered c 9 0 0 0 ∧ t = { s with cmds := t.cmds }
      else if s.chState c.obj = 0 ∨ s.chState c.obj = 4 then t.answered c 1 0 0 0 ∧ t.chan c.obj = s.chan c.obj
      else t.chState c.obj = 0 ∧ (t.chan c.obj).desc = none ∧ (t.chan c.obj).cmd = none)) ∧
  (∀ (s : State) (src : Fin 10) (c : Cmd), s.starts src 0x58 c → s.calm = true → ∃ t,
    Sys2Proof.Machine.exec (.streamBind src) s = .next t ∧ t.mem = s.mem ∧ t.regs = s.regs ∧ t.streams = s.streams ∧
    let kind := c.p 0 % 16
    (if 8 ≤ kind then t.answered c 1 1 0 0 ∧ t.reqs = s.reqs
      else t.goesOn c ∧ t.reqs.getLast? = some (Req.mk .bind c.obj
        (kind + (if kind = 7 then nbits (c.p 0) 8 6 else 0) * 256) (c.p 1 % 8 + nbits (c.p 1) 8 3 * 256) 0 (some c.uid) false))) ∧
  (∀ (s : State) (src : Fin 10) (c : Cmd), s.starts src 0x59 c → ∃ t,
    Sys2Proof.Machine.exec (.streamUnbind src) s = .next t ∧ t.mem = s.mem ∧ t.regs = s.regs ∧
    let kind := c.p 0 % 16
    let task := if kind = 7 then nbits (c.p 0) 8 6 else 0
    ((∀ x ∈ s.streams, ¬ (x.head = c.obj ∧ x.kind = kind ∧ x.task = task ∧ x.ending = false)) →
      t.answered c 1 4 0 0 ∧ t = { s with cmds := t.cmds }) ∧
    (∀ x ∈ t.streams, x.head = c.obj → x.kind = kind → x.task = task → x.ending = true)) ∧
  (∀ (s : State) (src : Fin 10) (c : Cmd), s.starts src 0x60 c → ∃ t,
    Sys2Proof.Machine.exec (.thermCap src) s = .next t ∧ t.mem = s.mem ∧
    (if ¬ 500 ∣ c.p 0 ∨ c.p 0 < 500 ∨ 8000 < c.p 0 then t.answered c 1 1 0 0 ∧ t.fld R.thermCap = s.fld R.thermCap ∧
        t.fld R.thermCapHost = s.fld R.thermCapHost
      else t.answered c 0 0 0 0 ∧ t.fld R.thermCapHost = c.p 0 ∧ t.fld R.thermCap = min (c.p 0) (s.fld R.thermCap))) ∧
  (∀ (s : State) (src : Fin 10) (c : Cmd), s.starts src 0x68 c → s.memReady (c.addr 3) = true → ∃ t,
    Sys2Proof.Machine.exec (.peatRead src) s = .next t ∧
    (∀ x, (x < c.addr 3 ∨ c.addr 3 + c.p 2 ≤ x) → t.byte x = s.byte x) ∧
    (if s.hostGone (c.addr 3) then t.answered c 7 0 0 0 ∧ t = { s with cmds := t.cmds }
      else match ((s.started c.uid).peatRingCause (c.p 0) (c.p 1) (c.p 2) (c.addr 5) false).1 with
        | some k => t.answered c 1 k 0 0 ∧ t.mem = s.mem
        | none => if s.canWrite (c.addr 3) (c.p 2) then t.answered c 0 0 0 0 else t.answered c 7 0 0 0 ∧ t.mem = s.mem)) ∧
  (∀ (s u v : State) (src : Fin 10) (c : Cmd) (bs : List Byte), s.starts src 0x69 c → s.memReady (c.addr 3) = true →
    s.hostGone (c.addr 3) = false → ∃ t, Sys2Proof.Machine.exec (.peatWrite src) s = .next t ∧ t.mem = s.mem ∧
    (∀ k, (s.started c.uid).peatRingCause (c.p 0) (c.p 1) (c.p 2) (c.addr 5) true = (some k, u) → t.answered c 1 k 0 0) ∧
    ((s.started c.uid).peatRingCause (c.p 0) (c.p 1) (c.p 2) (c.addr 5) true = (none, u) →
      u.hostRead (c.addr 3) (c.p 2) = (some bs, v) → v.peat.storing = true →
      t = { v with peat := { v.peat with waits := v.peat.waits ++ [.write (partOff (c.p 0) + c.p 1) bs (some c.uid)] }, pending := s.pending }) ∧
    ((s.started c.uid).peatRingCause (c.p 0) (c.p 1) (c.p 2) (c.addr 5) true = (none, u) →
      u.hostRead (c.addr 3) (c.p 2) = (some bs, v) → v.peat.storing = false →
      (∀ i, i < c.p 2 → peatByte t.peat (partOff (c.p 0) + c.p 1 + i) = bs.getD i 0) ∧
      (if v.peat.vhold < v.fld R.peatHoldMin then t.answered c 1 5 0 0 ∧ t.peat.storing = false
        else t.goesOn c ∧ t.peat.store.map (·.cmds) = some [c.uid])))

/-- With VIO33 present, and for the port no EXTEST: a frame after a timed-out one, before MSEL_N has been high, changes
nothing. Otherwise a frame's first sent byte is the status byte and a read of n words sends 4(n+1) more: zeros with
ERR while the core cannot serve it and for words after a freeze in the frame, else a zero word and then the words
read, most significant byte first; a word not ready in time goes out as zero with LATE and ERR, and a timeout after
a sent word keeps its effect (AO words 5 and 31). The command byte's OP and INDEX name these commands. A write that
meets a freeze is not applied and latched in SYS_ERR; one of more than 256 bytes, or of an incomplete last word with
RELMODE 0, is rejected and counted and writes nothing; a good one writes its register. A page frame of one word
below 2^16 at index 0 sets the page, any other is rejected. OP 3 reads always-on words; it writes words 7 and 3 in
their ranges, and answers ERR outside them and for every other word but 2. A timed-out frame makes the port deaf and
sets SELLOW with an event; SELLOW_CLEAR ends both. The debug register answers a register or DRAM word with status 0,
writes exactly the four bytes of a DRAM word, and answers status 2 where it reaches nothing and to operation 3, to
operation 0 what was shifted in, 1 for DRAM during a thermal shutdown. Readings and choices of the model behind it:
log entries 42, 56. (13_serial_ports.md, 16_power_boot_faults.md) -/
def Obligations.ManagementPortAndDebug : Prop :=
  (∀ (s : State) (idx : Fin 64) (n b : Nat) (late : List Nat) (tmo : Bool), s.ao.step ≠ .off → s.ballsTaken = false → ∃ t,
    Sys2Proof.Machine.exec (.mgmtRead idx (n, late, tmo, b)) s = .next t ∧
    t.mem = s.mem ∧ (if s.mgmtDeaf then t = s
      else t.mgmt.miso.length = 1 + 4 * (n + 1) ∧ t.mgmt.miso.head? = some s.mgmtStatus ∧ t.mgmt.deaf = tmo ∧
        (tmo = true → s.ao.up = true → t.flag R.spiMgmtStatSellow = true) ∧
        (s.mgmtReady = false →
          t.mgmt.miso = s.mgmtStatus :: List.replicate (4 * (n + 1)) 0 ∧ t.mgmt.err = true) ∧
        (s.mgmtReady = true → n = 1 → late = [] → b = 0 → let r := s.readReg (s.fld R.spiMgmtPage * 256 + 4 * idx.val)
          t.mgmt.miso = s.mgmtStatus :: 0 :: 0 :: 0 :: 0 :: msBytes r.1 ∧ t.mgmt.err = (r.2.1 || tmo) ∧
          (tmo = false → ∀ o, o ∉ [R.spiMgmtFrames.off, R.spiMgmtStat.off] → t.reg o = r.2.2.reg o)) ∧
        (s.mgmtReady = true → n = 1 → b = 1 → t.mgmt.miso = s.mgmtStatus :: List.replicate 8 0 ∧ t.mgmt.err = true) ∧
        (s.mgmtReady = true → n = 1 → late = [0] → b = 0 → t.mgmt.miso = s.mgmtStatus :: List.replicate 8 0 ∧ t.mgmt.err = true ∧
          nbits (t.fld R.spiMgmtStat) 3 1 = 1))) ∧
  (∀ (s : State) (c : BitVec 8) (d : List (BitVec 8)) (k : List Nat × Bool × Nat) (z : Bool), s.ao.step ≠ .off → s.ballsTaken = false →
    let go := fun x => Host.Outcome.next (mgmtFrame c d x s)
    let whole := ([], false, if z then 1 else 0)
    (∀ x : Fin 64, c.toNat = x.val → Sys2Proof.Machine.exec (.mgmtRead x (d.length / 4 - 1, k)) s = go k) ∧
    (∀ x : Fin 64, c.toNat = 64 + x.val → Sys2Proof.Machine.exec (.mgmtWrite x (d, z)) s = go whole) ∧
    (∀ x : Fin 64, c.toNat = 128 + x.val → Sys2Proof.Machine.exec (.mgmtPageSet x (d, z)) s = go whole) ∧
    (∀ w : Fin 32, c.toNat = 192 + w.val → Sys2Proof.Machine.exec (.mgmtAoRead w (d.length / 4 - 1, k)) s = go k) ∧
    (∀ w : Fin 32, c.toNat = 224 + w.val → Sys2Proof.Machine.exec (.mgmtAoWrite w d) s = go k)) ∧
  (∀ (s : State) (idx : Fin 64) (d : List (BitVec 8)) (z : Bool), s.ao.step ≠ .off → s.ballsTaken = false → ∃ t,
    Sys2Proof.Machine.exec (.mgmtWrite idx (d, z)) s = .next t ∧
    (if s.mgmtDeaf then t = s
      else t.mgmt.miso = s.mgmtStatus :: List.replicate d.length 0 ∧
        (s.mgmtReady = false ∨ z = true → t.mgmt.err = true ∧ t.mem = s.mem ∧
          (∀ o, o ∉ [R.sysErr.off, R.spiMgmtFrames.off] → t.reg o = s.reg o) ∧
          let o := s.fld R.spiMgmtPage * 256 + 4 * idx.val
          (s.ao.up = true → d.length = 4 → (locate o).any (·.blk.freezes) = true →
            t.reg R.sysErr.off = BitVec.ofNat 32 (2 ^ 31 + 2 ^ 16 + o % 2 ^ 12))) ∧
        (s.mgmtReady = true → z = false → 256 < d.length ∨ d.length % 4 ≠ 0 ∧ s.fld R.spiMgmtCfgRelmode = 0 →
          t.mgmt.err = true ∧ t.fld R.spiMgmtRej = (s.fld R.spiMgmtRej + 1) % 2 ^ 16 ∧ t.fld R.spiMgmtStat % 2 = 1 ∧
          (∀ o, o ∉ [R.spiMgmtStat.off, R.spiMgmtRej.off, R.spiMgmtFrames.off] → t.reg o = s.reg o) ∧ t.mem = s.mem) ∧
        (s.mgmtReady = true → z = false → s.fld R.spiMgmtPage = 0x200 → idx.val = 0 → ∀ a b c e, d = [a, b, c, e] →
          t.mgmt.err = false ∧ t.fld R.faultMask = (c.toNat * 256 + e.toNat) % 2 ^ R.faultMask.len ∧
          (∀ o, o ∉ [R.faultMask.off, R.spiMgmtFrames.off] → t.reg o = s.reg o) ∧ t.mem = s.mem))) ∧
  (∀ (s : State) (idx : Fin 64) (d : List (BitVec 8)) (z : Bool), s.ao.step ≠ .off → s.ballsTaken = false → ∃ t,
    Sys2Proof.Machine.exec (.mgmtPageSet idx (d, z)) s = .next t ∧ t.mem = s.mem ∧
    (if s.mgmtDeaf then t = s
      else (s.mgmtReady = true → z = false → idx.val = 0 → ∀ a b, d = [0, 0, a, b] →
          t.fld R.spiMgmtPage = a.toNat * 256 + b.toNat ∧ t.mgmt.err = false) ∧
        (s.mgmtReady = false ∨ z = true ∨ idx.val ≠ 0 ∨ d.length ≠ 4 ∨ d.take 2 ≠ [0, 0] →
          t.fld R.spiMgmtPage = s.fld R.spiMgmtPage ∧ t.mgmt.err = true))) ∧
  (∀ (s : State) (w : Fin 32), s.ao.step ≠ .off → s.ballsTaken = false → ∃ t, Sys2Proof.Machine.exec (.mgmtAoRead w (1, [], false, 0)) s = .next t ∧ t.mem = s.mem ∧
    (if s.mgmtDeaf then t = s
      else t.mgmt.miso = s.mgmtStatus :: 0 :: 0 :: 0 :: 0 :: msBytes (s.aoWord w) ∧ t.mgmt.err = false)) ∧
  (∀ (s : State) (w : Fin 32) (f : Nat × List Nat × Bool × Nat), s.ao.step ≠ .off → s.ballsTaken = false → s.mgmtDeaf = false → ∃ t,
    Sys2Proof.Machine.exec (.mgmtAoRead w f) s = .next t ∧ t.mgmt.miso.length = 1 + 4 * (f.1 + 1) ∧ t.mgmt.deaf = f.2.2.1 ∧
    (f.1 = 1 → f.2.1 = [] →
      t.ao = if w.val = 5 then { s.ao with nsHi := s.poweredNs / 2 ^ 32 }
        else if w.val = 31 then { s.ao with snapAddr := if s.ao.snapAddr + 64 < 0x1800000 then s.ao.snapAddr + 64 else 0 }
        else s.ao)) ∧
  (∀ (s : State) (w : Fin 32) (a b c d : BitVec 8), s.ao.step ≠ .off → s.ballsTaken = false → ∃ t,
    Sys2Proof.Machine.exec (.mgmtAoWrite w [a, b, c, d]) s = .next t ∧
    let v := ((a.toNat * 256 + b.toNat) * 256 + c.toNat) * 256 + d.toNat
    (if s.mgmtDeaf then t = s
      else if w.val = 7 then (if 64 ∣ v % 2 ^ 25 ∧ v % 2 ^ 25 < 0x1800000 then t.ao = { s.ao with snapAddr := v % 2 ^ 25 } ∧
          t.mgmt.err = false else t.ao = s.ao ∧ t.mgmt.err = true)
      else if w.val = 3 then (if d = 0 ∨ b.toNat < 5 then t.ao = s.ao ∧ t.mgmt.err = true
        else t.ao = { s.ao with pgTo := d.toNat, settleMs := c.toNat, xtalTo := b.toNat } ∧ t.mgmt.err = false)
      else w.val ≠ 2 → t.ao = s.ao ∧ t.mgmt.err = true)) ∧
  (∀ (s : State), s.ao.step ≠ .off → s.ballsTaken = false → s.mgmtDeaf = false → ∃ t, Sys2Proof.Machine.exec .mgmtTimeout s = .next t ∧
    t.mgmt = { err := true, miso := [], deaf := true } ∧ t.mem = s.mem ∧ (s.ao.up = true → t.flag R.spiMgmtStatSellow = true ∧
      t.fld R.spiMgmtTimeouts = (s.fld R.spiMgmtTimeouts + 1) % 2 ^ 16 ∧
      (s.events.length < 256 → s.logReads = true → t.events.map (·.code) = s.events.map (·.code) ++ [0x0F01]))) ∧
  (∀ (s : State), s.ao.step ≠ .off → s.ballsTaken = false → ∃ t, Sys2Proof.Machine.exec .mgmtSellowClear s = .next t ∧ t.mgmtDeaf = false ∧
    (s.ao.up = true → t.flag R.spiMgmtStatSellow = false) ∧ t.fld R.spiMgmtStat = s.fld R.spiMgmtStat ∧
    (∀ o, o ≠ R.spiMgmtStat.off → t.reg o = s.reg o) ∧ t = { s with regs := t.regs, mgmt := { s.mgmt with deaf := false } }) ∧
  (∀ (s : State) (a : BitVec 64), s.ao.step ≠ .off → ∃ t, Sys2Proof.Machine.exec (.debugReadWord (a, none)) s = .next t ∧
    t.mem = s.mem ∧ t.ao.ir = 0x21 ∧
    let x := a.toNat
    (s.ao.up = false → t.ao.debug = x + 2 ^ 96 + 2 ^ 99 ∧ t.regs = s.regs) ∧
    (s.ao.up = true → 0x2000000000 ≤ x → x < 0x2001000000 → let r := s.readReg (x % 2 ^ 24)
      t.reply = [r.1] ∧ t.ao.debug = x + 2 ^ 64 * r.1 + 2 ^ 96 + 2 ^ 98 * (if badRead (x % 2 ^ 24) then 2 else 0)) ∧
    (s.ao.up = true → 4 ∣ x → x < 0x1000000000 → s.ao.shut = true → t.ao.debug = x + 2 ^ 96 + 2 ^ 98 ∧
      t.msys.held = s.msys.held ++ [{ req := 17, wr := false, addr := x, len := 4, data := leBytes 4 0 }]) ∧
    (s.ao.up = true → s.ao.shut = false → 4 ∣ x → x + 4 ≤ 0x70000000 → t.reply = [s.rd x 4] ∧ t.ao.debug = x + 2 ^ 64 * s.rd x 4 + 2 ^ 96) ∧
    (s.ao.up = true → x < 0x2000000000 ∨ 0x2001000000 ≤ x → ¬ 4 ∣ x → t.reply = [0] ∧ t.ao.debug = x + 2 ^ 96 + 2 ^ 99 ∧
      t.regs = s.regs)) ∧
  (∀ (s : State) (a : BitVec 64) (v : BitVec 32) (z : Bool), s.ao.step ≠ .off → ∃ t,
    Sys2Proof.Machine.exec (.debugReadWord (a, some (v, z))) s = .next t ∧ t.ao.ir = 0x21 ∧
    t.ao.debug = a.toNat + 2 ^ 64 * v.toNat + (if z then 2 ^ 96 * 3 + 2 ^ 99 else 0) ∧
    t = { s with ao := { s.ao with ir := t.ao.ir, debug := t.ao.debug } }) ∧
  (∀ (s : State) (a : BitVec 64) (v : BitVec 32), s.ao.step ≠ .off → ∃ t,
    Sys2Proof.Machine.exec (.debugWriteWord a v) s = .next t ∧ t.ao.ir = 0x21 ∧
    let x := a.toNat
    (s.ao.up = true → 4 ∣ x → x < 0x1000000000 → s.ao.shut = true → t.mem = s.mem ∧
      t.ao.debug = x + 2 ^ 64 * v.toNat + 2 ^ 97 + 2 ^ 98) ∧
    (s.ao.up = true → s.ao.shut = false → 4 ∣ x → x + 4 ≤ 0x70000000 → t.bytes x 4 = leBytes 4 v.toNat ∧
      (∀ y, (y < x ∨ x + 4 ≤ y) → t.byte y = s.byte y) ∧ t.ao.debug = x + 2 ^ 64 * v.toNat + 2 ^ 97) ∧
    (s.ao.up = false ∨ ((x < 0x2000000000 ∨ 0x2001000000 ≤ x) ∧ ¬ 4 ∣ x) → t.mem = s.mem ∧ t.regs = s.regs ∧
      t.ao.debug = x + 2 ^ 64 * v.toNat + 2 ^ 97 + 2 ^ 99))

/-- A write of SPI_HLn_QGO starts the queue of a link that is on and idle with its address and count, at once or at a
tick, when its head is attached, else it stops with cause 3; a link that is off is refused in SPI_ERR; a frozen
device refuses it in SYS_ERR. An entry that cannot be read stops the queue with cause 2, a bad one with cause 1, one
whose wait is not over stays; a good one starts once the DELAY before it is over and moves the queue on (a stop in
it leaves it its first words), counts its words, sent with HPEN high, and stores exactly its received words; with
HPEN low nothing is driven, else its select is asserted around each word, or once with CONT, at the level of its
polarity, with LEAD, LAG and, between words, IDLE + GAP periods. The queue is idle after its last entry. FLASH_GO is
refused with its causes 1 to 3 (3 also while a frame runs), else sends its frame, fills the buffer with the bytes
read and begins a poll when asked; a poll ends at the level asked for or at its timeout with cause 4. An XIP read
answers the flash bytes, cause 5 beyond the flash, nothing while XIP is off, and waits while a poll or a freeze
lasts; the end of a poll also ends the staging of a firmware image (R362), for which firmware must be at work; its
failure is latched in SYS_ERR. Readings and choices of the model behind it: log entries 28, 57, 70, 83.
(13_serial_ports.md) -/
def Obligations.SerialMasters : Prop :=
  (∀ (s : State) (n : Fin 4) (w : BitVec 2), s.ao.up = true → ∃ t, Sys2Proof.Machine.exec (.spiHlQgo n w) s = .next t ∧
    t.mem = s.mem ∧
    (if s.ao.frozen then t = { s.setReg R.sysErr.off (t.reg R.sysErr.off) with pending := s.pending } ∧
        nbits (t.reg R.sysErr.off).toNat 31 1 = 1
      else if w.getLsbD 0 = false then t = s
      else if s.flag (R.spiHlCfgEn n) = false then t.hls = s.hls ∧
        t.reg R.spiErr.off = BitVec.ofNat 32 (2 ^ 31 + (n.val + 1) * 2 ^ 16 + (0x11C + 0x40 * n.val))
      else if (s.hl n).run then t = s
      else if s.hlHeadOk n then t.hl n =
          { run := true, addr := s.base (R.spiHlQaddrLo n) (R.spiHlQaddrHi n), cnt := s.fld (R.spiHlQcnt n), go := !(w.getLsbD 1), selEnd := (s.hl n).selEnd, freeAt := (s.hl n).selEnd } ∧
        t.fld (R.spiHlStatState n) = (if w.getLsbD 1 then 1 else 2) ∧
        t.reqs = (if w.getLsbD 1 then s.reqs ++ [{ kind := .hlQueue, obj := n }] else s.reqs)
      else (t.hl n).run = false ∧ t.fld (R.spiHlStatState n) = 3 ∧ t.fld (R.spiHlStatCause n) = 3)) ∧
  (∀ (s : State) (n : Fin 4) (rx : List (BitVec 32)) (stop : Option (Nat × Bool)), s.calm = true → (s.hl n).run = true →
    (s.hl n).go = true → (s.hl n).idx < (s.hl n).cnt → (s.hl n).idx < 65536 → ∃ t,
    Sys2Proof.Machine.exec (.hlEntry n (rx, stop)) s = .next t ∧
    let x := s.hl n
    let u := s.setFld (R.spiHlStatEntry n) x.idx
    ((u.hostRead (x.addr + 32 * x.idx) 32).1 = none → (t.hl n).run = false ∧ t.fld (R.spiHlStatCause n) = 2 ∧
      t.fld (R.spiHlStatState n) = 3 ∧ t.fld (R.spiHlStatEntry n) = x.idx ∧ t.mem = s.mem) ∧
    (∀ bs, (u.hostRead (x.addr + 32 * x.idx) 32).1 = some bs →
      let w := (wordsOf 8 bs).getD 0 0
      let dst := (wordsOf 8 bs).getD 4 0 + 2 ^ 32 * (wordsOf 8 bs).getD 5 0
      let cnt := nbits w 16 16
      (hlEntryOk (wordsOf 8 bs) = false → (t.hl n).run = false ∧ t.fld (R.spiHlStatCause n) = 1 ∧ t.mem = s.mem) ∧
      (hlEntryOk (wordsOf 8 bs) = true → s.hlHeadOk n = true →
        (nbits w 10 2 = 1 → x.sawTick = false → (t.hl n).idx = x.idx ∧ (t.hl n).run = true ∧ t.mem = s.mem) ∧
        (nbits w 10 2 = 0 → nbits w 8 1 = 0 → nbits w 9 1 = 0 → ∀ k c, stop = some (k, c) → (t.hl n).idx = x.idx ∧
          (t.hl n).run = true ∧ (t.hl n).sent.length = min k cnt ∧ (t.hl n).cut = c ∧
          t.fld (R.spiHlWords n) = (s.fld (R.spiHlWords n) + if (s.head n).hpen then min k cnt else 0) % 2 ^ 32) ∧
        (nbits w 10 2 = 0 → nbits w 8 1 = 0 → nbits w 9 1 = 0 → stop = none → (s.head n).hpen = false → (t.hl n).idx = x.idx + 1 ∧
          (t.hl n).sent = List.replicate cnt 0 ∧ (t.hl n).sels = [] ∧ t.now = max s.now x.freeAt ∧
          t.fld (R.spiHlWords n) = s.fld (R.spiHlWords n)) ∧
        (nbits w 10 2 = 0 → nbits w 8 1 = 0 → nbits w 9 1 = 0 → stop = none → (s.head n).hpen = true →
          (t.hl n).idx = x.idx + 1 ∧ (t.hl n).run = true ∧ t.now = max s.now x.freeAt ∧
          (t.hl n).freeAt = t.now + s.hlTime n (nbits w 0 6) (t.hl n).sels + (wordsOf 8 bs).getD 1 0 / 2 ^ 16 * 256000 ∧
          (t.hl n).sent = List.replicate cnt 0 ∧
          (∀ a ∈ (t.hl n).sels, a.idleHigh = decide (2 ≤ s.fld (R.spiHlCfgMode n)) ∧ a.trailing = (s.fld (R.spiHlCfgMode n) % 2 == 1) ∧ a.line = nbits w 6 1 ∧ a.high = (nbits (s.fld (R.spiHlCfgSelPol n)) (nbits w 6 1) 1 == 1) ∧
            a.lead = s.fld (R.spiHlCfgLead n) ∧ a.lag = s.fld (R.spiHlCfgLag n) ∧ a.inner = (wordsOf 8 bs).getD 1 0 % 2 ^ 16) ∧
          (t.hl n).sels.map (·.words) = (if nbits w 7 1 = 1 then [cnt] else List.replicate cnt 1) ∧
          (∀ a ∈ (t.hl n).sels.drop 1, a.gap = s.fld (R.spiHlCfgIdle n) + (wordsOf 8 bs).getD 1 0 % 2 ^ 16) ∧
          t.fld (R.spiHlWords n) = (s.fld (R.spiHlWords n) + cnt) % 2 ^ 32 ∧ t.mem = s.mem) ∧
        (nbits w 10 2 = 0 → nbits w 8 1 = 0 → nbits w 9 1 = 1 → stop = none → rx.length = cnt → isHost dst = true → s.host.linkUp = true →
          (t.hl n).idx = x.idx + 1 ∧ t.bytes dst (4 * cnt) = bytesOf (rx.map fun r => r.toNat % 2 ^ nbits w 0 6) ∧
          ∀ y, (y < dst ∨ dst + 4 * cnt ≤ y) → t.byte y = s.byte y)))) ∧
  (∀ (s : State) (n : Fin 4), s.ao.up = true → s.ao.frozen = false → ∃ t, Sys2Proof.Machine.exec (.hlQueueDone n) s = .next t ∧ t.mem = s.mem ∧
    (if (s.hl n).run = true ∧ (s.hl n).go = true ∧ (s.hl n).cnt ≤ (s.hl n).idx then (t.hl n).run = false ∧
        (t.hl n).cmd = none ∧ t.fld (R.spiHlStatState n) = 0 ∧
        t.now = max s.now (s.hl n).freeAt ∧
        ((s.hl n).attach = false → t = { s with now := t.now, regs := t.regs, hls := t.hls, cmds := t.cmds })
      else t = s)) ∧
  (∀ (s : State) (w : BitVec 2) (rx : List (BitVec 8)) (i : Nat) (cut : Option Nat), s.ao.up = true → s.ao.frozen = false → ∃ t,
    Sys2Proof.Machine.exec (.flashGo w (rx, i, cut)) s = .next t ∧ t.mem = s.mem ∧ t.now = max s.now i ∧
    let f := s.fld R.spiFlFmt
    let busy := s.flash.polling = true ∨ t.now < s.flash.busyTo ∨ nbits (s.fld R.spiFlStat) 3 1 = 1
    let c := if flFmtOk f = false ∨ (w.getLsbD 1 = true ∧ flFmtOk (s.fld R.spiFlPollFmt) = false) then 1
      else if 256 < s.fld R.spiFlLen then 2 else if busy then 3 else 0
    (if w.getLsbD 0 = false then t = s.at i
      else if s.flag R.spiFlCfgEn = false then t.flash = s.flash ∧
        t.reg R.spiErr.off = BitVec.ofNat 32 (2 ^ 31 + 5 * 2 ^ 16 + 0x820)
      else t.fld R.spiFlStatCause = c ∧ (c ≠ 0 → t.flash = s.flash ∧
          t.reg R.spiErr.off = BitVec.ofNat 32 (2 ^ 31 + 5 * 2 ^ 16 + c * 2 ^ 20 + 0x820)) ∧
        (c = 0 → t.flash.polling = w.getLsbD 1 ∧
          (let d := if nbits f 18 1 = 1
              then (List.range (s.fld R.spiFlLen)).map (fun k => nbits (s.fld (R.spiFlBuf (k / 4))) (8 * (k % 4)) 8) else []
            let n := if nbits f 18 1 = 1 then 0 else s.fld R.spiFlLen
            let k := min (s.fld R.spiFlLen) (cut.getD (s.fld R.spiFlLen))
            let x := flFrame f (s.fld R.spiFlCmd) (s.fld R.spiFlAddr) false none
            t.flash.frames.getLast? = some { x d n with cut := cut.isSome } ∧
            t.flash.busyTo = t.now + (x (d.take k) (min n k)).clocks * s.fld R.spiFlCfgDiv * 1280) ∧
          (nbits f 18 1 = 0 → cut = none → rx.length = s.fld R.spiFlLen →
            ∀ k, k < rx.length → t.fld ⟨0x1E0900 + k / 4 * 4, 8 * (k % 4), 8⟩ = (rx.getD k 0).toNat)))) ∧
  (∀ (s : State) (b : BitVec 8), s.ao.up = true → s.ao.frozen = false → s.flash.waits = [] → s.ao.stage = none →
    (∀ h, h < 4 → (s.cal h).builds = []) → ∃ t,
    Sys2Proof.Machine.exec (.flashPoll b) s = .next t ∧ t.mem = s.mem ∧
    (if s.flash.polling = false then t = s
      else (t.flash.polling = true ↔ nbits b.toNat (nbits (s.fld R.spiFlPoll) 16 3) 1 = nbits (s.fld R.spiFlPoll) 19 1) ∧
        (t.flash.polling = false → nbits (t.fld R.spiFlStat) 1 1 = 0) ∧
        t.flash.frames.map (·.read) = [1] ∧ (∀ h, t.cal h = s.cal h) ∧
        t = { s with regs := t.regs, flash := t.flash, cals := t.cals, freeCtr := t.freeCtr })) ∧
  (∀ (s : State), s.ao.up = true → s.ao.frozen = false → s.flash.waits = [] → s.ao.stage = none →
    (∀ h, h < 4 → (s.cal h).builds = []) → ∃ t,
    Sys2Proof.Machine.exec .flashPollTimeout s = .next t ∧ t.mem = s.mem ∧
    (if s.flash.polling then t.flash.polling = false ∧ t.fld R.spiFlStatCause = 4 ∧
        t.now = max s.now (s.flash.pollT + nbits (s.fld R.spiFlPoll) 20 12 * 256000000) else t = s)) ∧
  (∀ (s : State) (b : BitVec 8) (u k : Nat) (fail tmo : Bool) (bs : List (BitVec 8)) (c : Cmd), s.ao.up = true → s.ao.frozen = false →
    s.fwRuns = true → (∀ h, h < 4 → (s.cal h).builds = []) → s.flash.waits = [] → s.flash.polling = true → s.ao.stage = some (u, k, fail, bs) → c.uid = u → (∃ d ∈ s.cmds, d.uid = u) →
    nbits b.toNat (nbits (s.fld R.spiFlPoll) 16 3) 1 ≠ nbits (s.fld R.spiFlPoll) 19 1 → ∃ t,
    Sys2Proof.Machine.exec (if tmo then .flashPollTimeout else .flashPoll b) s = .next t ∧ t.ao.stage = none ∧
    (∀ x, (x < slotBase k ∨ slotBase k + 0x400000 ≤ x) → bs.length ≤ 0x400000 → t.byte x = s.byte x) ∧
    (if fail || tmo then t.answered c 1 3 0 0 ∧ t.ao.staged = s.ao.staged ∧ nbits (t.reg R.sysErr.off).toNat 16 8 = 3
      else t.bytes (slotBase k) bs.length = bs ∧ if t.slotCheck k = 0 then t.answered c 0 0 k 0 ∧ t.ao.staged = some k
        else t.answered c 1 2 0 (t.slotCheck k) ∧ t.ao.staged = s.ao.staged ∧ nbits (t.reg R.sysErr.off).toNat 16 8 = 2)) ∧
  (∀ (s : State) (b : BitVec 8), s.ao.stage.isSome = true → s.fwRuns = false → Sys2Proof.Machine.exec (.flashPoll b) s = .next s ∧
    Sys2Proof.Machine.exec .flashPollTimeout s = .next s) ∧
  (∀ (s : State) (ctrl : Bool) (a n : Nat), s.ao.up = true → s.flash.polling = true ∨ s.ao.frozen = true → ∃ t,
    Sys2Proof.Machine.exec (.xipRead ctrl a n) s = .next t ∧ t.flash.waits = s.flash.waits ++ [(ctrl, a, n)] ∧
    t = { s with flash := t.flash }) ∧
  (∀ (s : State) (ctrl : Bool) (a n : Nat), s.ao.up = true → s.ao.frozen = false → s.flash.polling = false → ∃ t,
    Sys2Proof.Machine.exec (.xipRead ctrl a n) s = .next t ∧ t.mem = s.mem ∧
    (if s.flag R.spiFlCfgEn = false ∨ s.flag R.spiFlCfgXipEn = false then t.reply = [] ∧ t.regs = s.regs
      else if s.xipSize < a + n then t.reply = [] ∧ t.fld R.spiFlStatCause = 5
      else t.reply = (s.bytes (0x3000000000 + a) n).map (·.toNat) ∧ t.flash.polling = false))

/-- With the core up: a plausible sample of a working sensor becomes its reading and its last raw value, an implausible
one leaves the reading and marks the sensor failed, a reading above the warning limit sets the warning; a failed
sensor recovers at its second. THROTTLE_STEP lowers the cap by 500 mW, not below 500, while throttling, except at
the instant of a lowering by the host; CAP_RECOVER_STEP raises it by 500, not above the host's ceiling, when not; a
rise episode ends with its flag cleared; a host ceiling of 500 to 8000 in steps of 500 is taken and lowers the cap,
any other is refused with cause 1 in THERM_ERR. A raw reading of 150 degrees C shuts the blocks down once, is
counted, and leaves no head running; while they are down it does nothing. The restart ends it with the cap at 500,
and firmware at work asks a start of every head that ran, but those whose detach is asked for. A compensation update
moves the trim of its table by at most one and no other; an update brings into force the entries a GO took;
THERM_CMP_GO takes the entries of exactly the named tables whose entries are in range; OSC_LEARN moves only the
entry nearest the temperature, within -4096 to 4095, or reports an error beyond 2000 ppm. Readings and choices of
the model behind it: log entries 36 to 38. (14_thermal_and_references.md, 12_host_rings.md) -/
def Obligations.ThermalManagement : Prop :=
  (∀ (s : State) (k : Fin 16) (v : Int) (t : Nat), s.ao.up = true → ∃ u, Sys2Proof.Machine.exec (.thermSample k v t) s = .next u ∧
    u.now = max s.now t ∧ u.mem = s.mem ∧ u.rawOf k = some v ∧
    let bad := v < -960 ∨ 3200 < v ∨ ∃ p, s.rawOf k = some p ∧ (320 < v - p ∨ 320 < p - v)
    (bad → u.tsFailed k = true ∧ u.ts k = s.ts k) ∧
    (¬ bad → s.tsFailed k = false → u.ts k = v ∧ u.tsFailed k = false ∧ (s.warnAt < v → u.thermFlag 0 = true))) ∧
  (∀ (s : State) (k : Fin 16), s.ao.up = true → s.tsFailed k = true → tget (fun _ => 0) s.therm.okT k ≠ 0 → ∃ t,
    Sys2Proof.Machine.exec (.sensorRecovered k) s = .next t ∧ t.tsFailed k = false ∧
    t.now = max s.now (tget (fun _ => 0) s.therm.okT k - 1 + 256000000000) ∧ (∀ j, j < 16 → j ≠ k.val → t.tsFailed j = s.tsFailed j) ∧
    (∀ o, o ≠ R.thermFail.off → t.reg o = s.reg o)) ∧
  (∀ (s : State) (t0 : Nat), s.ao.up = true → s.therm.stepT = some t0 → s.throttles = true →
    (∀ c, s.therm.capWas ≠ some (max s.now (t0 + s.fld R.thermTimeStepMs * 256000000), c)) → ∃ t,
    Sys2Proof.Machine.exec .throttleStep s = .next t ∧ t.now = max s.now (t0 + s.fld R.thermTimeStepMs * 256000000) ∧ t.mem = s.mem ∧
    t.fld R.thermCap = (if s.fld R.thermCap ≤ 500 then s.fld R.thermCap else max 500 (s.fld R.thermCap - 500)) ∧
    t.fld R.thermCapHost = s.fld R.thermCapHost) ∧
  (∀ (s : State) (t0 : Nat), s.ao.up = true → s.therm.belowT = some t0 → s.throttles = false →
    s.fld R.thermCap < s.fld R.thermCapHost → ∃ t, Sys2Proof.Machine.exec .capRecoverStep s = .next t ∧ t.mem = s.mem ∧
    t.now = max s.now (t0 + s.fld R.thermTimeRecovMs * 256000000) ∧
    t.fld R.thermCap = min (s.fld R.thermCapHost) (s.fld R.thermCap + 500)) ∧
  (∀ (s : State) (t0 : Nat), s.ao.up = true → s.therm.riseOk = some t0 → s.thermFlag 2 = true → ∃ t,
    Sys2Proof.Machine.exec .riseEpisodeEnd s = .next t ∧ t.thermFlag 2 = false ∧ t.thermFlag 1 = s.thermFlag 1 ∧
    t.now = max s.now (t0 + 256000000000) ∧ (∀ o, o ≠ R.thermStat.off → t.reg o = s.reg o) ∧ t.mem = s.mem) ∧
  (∀ (s : State) (v : BitVec 14), s.ao.up = true → ∃ t, Sys2Proof.Machine.exec (.thermCapHostWrite v) s = .next t ∧
    t = { s with regs := t.regs } ∧
    (if 500 ∣ v.toNat ∧ 500 ≤ v.toNat ∧ v.toNat ≤ 8000 then t.fld R.thermCapHost = v.toNat ∧
        t.fld R.thermCap = min v.toNat (s.fld R.thermCap)
      else t.reg R.thermErr.off = BitVec.ofNat 32 (2 ^ 31 + 2 ^ 16 + 0x1C) ∧ ∀ o, o ≠ R.thermErr.off → t.reg o = s.reg o)) ∧
  (∀ (s : State), s.ao.up = true → s.ao.shut = false → (∃ e ∈ s.therm.raw, 2400 ≤ e.2) → ∃ t,
    Sys2Proof.Machine.exec .hwShutdown s = .next t ∧ t.ao.shut = true ∧ t.alive = false ∧ t.thermFlag 4 = true ∧
    t.fld R.thermShutdowns = (s.fld R.thermShutdowns + 1) % 2 ^ 16 ∧ (∀ h : Fin 4, s.hState h = 4 → h.val ∈ t.therm.downHeads) ∧
    (∀ h : Fin 4, t.hState h ≠ 4) ∧ nbits (t.fld R.faultStat) 0 1 = 1) ∧
  (∀ (s : State), s.ao.shut = true → Sys2Proof.Machine.exec .hwShutdown s = .next s) ∧
  (∀ (s : State), (∀ e ∈ s.therm.raw, e.2 < 2400) → Sys2Proof.Machine.exec .hwShutdown s = .next s) ∧
  (∀ (s : State) (t0 : Nat), s.ao.up = true → s.ao.shut = true → s.therm.coolT = some t0 → ∃ t,
    Sys2Proof.Machine.exec .shutdownRestart s = .next t ∧ t.ao.shut = false ∧ t.thermFlag 4 = false ∧ t.fld R.thermCap = 500 ∧
    t.now = max s.now (t0 + 256000000000) ∧
    (if s.fwRuns = true then t.therm.downHeads = [] ∧ ∀ h ∈ s.therm.downHeads,
        (∀ q ∈ s.reqs, ¬ (q.kind = .headDetach ∧ q.obj = h)) → (∀ c ∈ s.cmds, ¬ (c.phase = 0 ∧ c.opc = 0x13 ∧ c.obj = h)) →
        ∃ q ∈ t.reqs, q.kind = .headStart ∧ q.obj = h
      else t.therm.downHeads = s.therm.downHeads)) ∧
  (∀ (s : State) (osc : Bool), s.ao.up = true → ∃ t, Sys2Proof.Machine.exec (.compUpdate osc) s = .next t ∧ t.regs = s.regs ∧
    t.mem = s.mem ∧ let i := if osc then 5 else 0
    let a : Int := tget (fun _ => 0) s.therm.trim i
    let b : Int := tget (fun _ => 0) t.therm.trim i
    a - 1 ≤ b ∧ b ≤ a + 1 ∧ t.cmpNamed i = false ∧
    (∀ e, e < 9 → t.cmpEntry i e = if s.cmpNamed i = true then (tget (fun _ => []) s.therm.pend i).getD e (s.cmpEntry i e) else s.cmpEntry i e) ∧
    (∀ j, j ≠ i → tget (fun _ => 0) t.therm.trim j = tget (fun _ => 0) s.therm.trim j)) ∧
  (∀ (s : State) (w : BitVec 6), s.ao.up = true → ∃ t, Sys2Proof.Machine.exec (.thermCmpGo w) s = .next t ∧
    t.therm.tab = s.therm.tab ∧ (∀ o, o ≠ R.thermErr.off → t.reg o = s.reg o) ∧
    (∀ i, i < 6 → tget (fun _ => []) t.therm.pend i =
      if w.getLsbD i = true ∧ ∀ e ∈ s.cmpWritten i, -4096 ≤ e ∧ e ≤ 4095 then s.cmpWritten i
      else tget (fun _ => []) s.therm.pend i) ∧
    (∀ i, i < 6 → w.getLsbD i = true → (∃ e ∈ s.cmpWritten i, e < -4096 ∨ 4095 < e) →
      t.reg R.thermErr.off = BitVec.ofNat 32 (2 ^ 31 + 2 * 2 ^ 16 + 0x280))) ∧
  (∀ (s : State) (e : Int), s.ao.up = true → s.ao.xtal = true → s.flag R.thermCtlLearn = true → ∃ t,
    Sys2Proof.Machine.exec (.oscLearn e) s = .next t ∧ t.mem = s.mem ∧
    (-2000 ≤ e → e ≤ 2000 → ∃ i, i < 9 ∧
      (let u := (clampI (-960) 2880 (s.ts 10) + 960).toNat; 480 * i ≤ u + 240 ∧ u ≤ 480 * i + 240) ∧
      t.cmpEntry 5 i = clampI (-4096) 4095 (s.cmpEntry 5 i + rdiv e 80) ∧ sext 16 (t.fld (R.thermCmpOsc i)) = t.cmpEntry 5 i ∧
      (∀ k j, j < 16 → (k, j) ≠ (5, i) → t.cmpEntry k j = s.cmpEntry k j)) ∧
    (e < -2000 ∨ 2000 < e → t.therm = s.therm ∧
      (s.events.length < 256 → s.logReads = true → t.events.map (·.code) = s.events.map (·.code) ++ [0x0C08])))

/-- A store begins when none runs and VHOLD is high enough: for PEAT_CMD, for the timer once its minutes are set, and
for a fall of PFAIL_N while enabled and unlocked; below the limit it is refused, latched and counted; while one runs
it is merged. Its completion writes the snapshot with its mark into the copy it names and ends the commands that
wait. A fall while enabled locks, a rise shows the level, 10 ms high unlocks, a long low is reported once. With the
password accepted, SET_PASSWORD changes only that password, CLEAR_LOG zeroes exactly the log, UNLOCK opens exactly
its bit; with a wrong one or a locked partition they change nothing (the 8th wrong one makes its event's log entry)
and latch the cause; LOCK closes its bit. PEAT_DATA moves the word at PEAT_ADDR and adds 4 where unlocked, is
refused with cause 6 where not, 4 where the host may not write. A lockout ends; the life counter rises each powered
second; VHOLD is shown. Readings and choices of the model behind it: log entry 32. (15_peat_store.md,
12_host_rings.md) -/
def Obligations.PeatStore : Prop :=
  (∀ (s : State), s.ao.up = true → ∃ t, Sys2Proof.Machine.exec .peatCmdStore s = .next t ∧ t.mem = s.mem ∧
    (s.peat.storing = true → t.peat.store = s.peat.store ∧ ∃ r, t.peat.pend = some r ∧ nbits (t.fld R.peatStat) 1 1 = 1) ∧
    (s.peat.storing = false → s.fld R.peatHoldMin ≤ s.peat.vhold → t.peat.storing = true ∧ nbits (t.fld R.peatStat) 0 1 = 1 ∧
      ∃ p, t.peat.store = some p ∧ p.trig = 0 ∧ p.cmds = [] ∧ p.pws = s.peat.pws) ∧
    (s.peat.storing = false → s.peat.vhold < s.fld R.peatHoldMin → t.peat.storing = false ∧
      t.fld R.peatRefused = (s.fld R.peatRefused + 1) % 2 ^ 16 ∧
      t.reg R.peatErr.off = BitVec.ofNat 32 (2 ^ 31 + 5 * 2 ^ 16 + 0x14))) ∧
  (∀ (s : State) (p : Fin 4) (wr : Bool), s.ao.up = true → ∃ t, Sys2Proof.Machine.exec (.peatCmdSetPassword p wr) s = .next t ∧
    t.mem = s.mem ∧ let i := 2 * p.val + if wr then 1 else 0
    (match (s.present p 1 s.peatKey).1 with
      | some k => t.peat.pws = s.peat.pws ∧ t.reg R.peatErr.off = BitVec.ofNat 32 (2 ^ 31 + k * 2 ^ 16 + 0x14)
      | none => tget (fun _ => 0) t.peat.pws i = s.fld R.peatPwnewLo + 2 ^ 32 * s.fld R.peatPwnewHi ∧
        ∀ j, j ≠ i → tget (fun _ => 0) t.peat.pws j = tget (fun _ => 0) s.peat.pws j)) ∧
  (∀ (s : State), s.ao.up = true → s.peat.storing = false → ∃ t, Sys2Proof.Machine.exec .peatCmdClearLog s = .next t ∧
    t.mem = s.mem ∧ (match (s.present 2 1 s.peatKey).1 with
      | some k => t.reg R.peatErr.off = BitVec.ofNat 32 (2 ^ 31 + k * 2 ^ 16 + 0x14) ∧
        (k = 3 ∨ tget (fun _ => 0) s.peat.wrong 2 < 7 → ∀ o, peatByte t.peat o = peatByte s.peat o) ∧
        (s.logReads = true → let e := 0x5000 + 32 * (peatWord s.peat 0x4014 % 1024)
          ∀ o, (o < 0x4014 ∨ 0x4018 ≤ o) → (o < e ∨ e + 32 ≤ o) → peatByte t.peat o = peatByte s.peat o)
      | none => ∀ o, peatByte t.peat o = if 0x5000 ≤ o ∧ o < 0xD000 then 0 else peatByte s.peat o)) ∧
  (∀ (s : State) (p : Fin 4) (wr : Bool), s.ao.up = true → ∃ t, Sys2Proof.Machine.exec (.peatCmdUnlock p wr) s = .next t ∧
    t.mem = s.mem ∧ (match (s.present p (if wr then 1 else 0) s.peatKey).1 with
      | some k => t.fld R.peatUnlock = s.fld R.peatUnlock ∧ t.reg R.peatErr.off = BitVec.ofNat 32 (2 ^ 31 + k * 2 ^ 16 + 0x14)
      | none => ∀ j, j < 8 → nbits (t.fld R.peatUnlock) j 1 =
          if j = (if wr then 4 else 0) + p.val then 1 else nbits (s.fld R.peatUnlock) j 1)) ∧
  (∀ (s : State) (p : Fin 4) (k pw : Nat), (s.peatLocked p = true → (s.present p k pw).1 = some 3) ∧
    (s.peatLocked p = false → (s.present p k pw).1 =
      if tget (fun _ => 0) s.peat.pws (2 * p + k) = 0 ∨ tget (fun _ => 0) s.peat.pws (2 * p + k) = pw then none else some 2)) ∧
  (∀ (s : State) (p : Fin 4) (wr : Bool), s.ao.up = true → ∃ t, Sys2Proof.Machine.exec (.peatCmdLock p wr) s = .next t ∧
    (∀ j, j < 8 → nbits (t.fld R.peatUnlock) j 1 =
      if j = (if wr then 4 else 0) + p.val then 0 else nbits (s.fld R.peatUnlock) j 1) ∧
    (∀ o, o ≠ R.peatUnlock.off → t.reg o = s.reg o) ∧ t = { s with regs := t.regs }) ∧
  (∀ (s : State) (t0 : Nat) (st : PStore), s.peat.store = some st → s.ao.step ≠ .off → s.peat.pend = none → s.peat.waits = [] → ∃ t,
    Sys2Proof.Machine.exec (.storeComplete t0) s = .next t ∧ t.now = max s.now t0 ∧ t.mem = s.mem ∧ t.peat.storing = false ∧
    t.peat.store = none ∧ t.peat.pwsNv = st.pws ∧ t.peat.pwsEcc = [] ∧ nbits (t.fld R.peatStat) 0 1 = 0 ∧
    (let c : PCopy := { bytes := st.bytes, ecc := st.ecc, mark := some st.count }
      if st.toB then t.peat.copyB = c ∧ t.peat.copyA = s.peat.copyA else t.peat.copyA = c ∧ t.peat.copyB = s.peat.copyB) ∧
    (∀ d ∈ t.cmds, d.uid ∈ st.cmds → 2 ≤ d.phase)) ∧
  (∀ (s : State), s.ao.step ≠ .off → ∃ t, Sys2Proof.Machine.exec .autostoreTimer s = .next t ∧ t.mem = s.mem ∧
    (if s.fld R.peatAuto = 0 then t = s
      else t.now = max s.now (s.peat.lastStore + (s.peat.autoN + 1) * s.fld R.peatAuto * 60 * 256000000000) ∧
        (s.peat.storing = false → s.fld R.peatHoldMin ≤ s.peat.vhold → t.peat.storing = true ∧
          ∃ p, t.peat.store = some p ∧ p.trig = 2))) ∧
  (∀ (s : State) (t0 : Nat), s.ao.step ≠ .off → s.ballsTaken = false → ∃ t, Sys2Proof.Machine.exec (.pfailNFall t0) s = .next t ∧ t.mem = s.mem ∧
    t.now = max s.now t0 ∧ t.peat.pfailLow = true ∧
    (nbits (t.fld R.peatStat) 6 1 = 0 ∧ (s.flag R.peatCtlPfailEn = true → nbits (s.fld R.peatStat) 2 1 = 0 →
      nbits (t.fld R.peatStat) 2 1 = 1 ∧ (s.peat.storing = false → s.fld R.peatHoldMin ≤ s.peat.vhold → t.peat.storing = true ∧
        ∃ p, t.peat.store = some p ∧ p.trig = 1)))) ∧
  (∀ (s : State) (t0 : Nat) (ten : Bool), s.ao.step ≠ .off → s.ballsTaken = false → ∃ t, Sys2Proof.Machine.exec (.pfailUnlock (t0, ten)) s = .next t ∧
    t.peat.pfailLow = false ∧ nbits (t.fld R.peatStat) 6 1 = 1 ∧
    nbits (t.fld R.peatStat) 2 1 = (if ten then 0 else nbits (s.fld R.peatStat) 2 1) ∧
    (∀ o, o ≠ R.peatStat.off → t.reg o = s.reg o) ∧ t.mem = s.mem) ∧
  (∀ (s : State), s.ao.step ≠ .off → ∃ t, Sys2Proof.Machine.exec .pfailHeld s = .next t ∧ t.mem = s.mem ∧
    (if s.peat.pfailLow = true ∧ nbits (s.fld R.peatStat) 2 1 = 1 ∧ s.peat.heldSent = false then t.peat.heldSent = true ∧
        t.now = max s.now (s.peat.pfailT + 100 * 256000000) ∧
        (s.events.length < 256 → s.logReads = true → t.events.map (·.code) = s.events.map (·.code) ++ [0x0D04])
      else t = s)) ∧
  (∀ (s : State) (wr : Bool) (v : BitVec 32), s.ao.up = true → ∃ t, Sys2Proof.Machine.exec (.peatDataAccess wr v) s = .next t ∧
    t.mem = s.mem ∧ let a := s.fld R.peatAddr
    (if nbits (s.fld R.peatUnlock) (partOf a + if wr then 4 else 0) 1 = 0 then t.reply = [0] ∧ t.peat = s.peat ∧
        t.reg R.peatErr.off = BitVec.ofNat 32 (2 ^ 31 + 6 * 2 ^ 16 + 0x2C)
      else if wr = true ∧ hostMayWrite a 4 = false then t.peat = s.peat ∧
        t.reg R.peatErr.off = BitVec.ofNat 32 (2 ^ 31 + 4 * 2 ^ 16 + 0x2C)
      else t.fld R.peatAddr = (a + 4) % 2 ^ R.peatAddr.len ∧
        (wr = false → tget (fun _ => 0) s.peat.ecc (a / 4) ≠ 2 → t.reply = [leNat ((List.range 4).map fun i => peatByte s.peat (a + i))]) ∧
        (wr = true → s.peat.storing = false → ∀ o, peatByte t.peat o =
          if a ≤ o ∧ o < a + 4 then (leBytes 4 v.toNat).getD (o - a) 0 else peatByte s.peat o))) ∧
  (∀ (s : State) (p : Fin 4) (l : Nat × Nat), s.ao.step ≠ .off → s.peat.locks.find? (·.1 == p.val) = some l → ∃ t,
    Sys2Proof.Machine.exec (.peatLockoutEnd p) s = .next t ∧ t.peat.locks = s.peat.locks.erase l ∧ t.now = max s.now l.2 ∧
    t.regs = s.regs ∧ t.mem = s.mem) ∧
  (∀ (s : State), s.ao.step ≠ .off → ∃ t, Sys2Proof.Machine.exec .lifeSecond s = .next t ∧ t.mem = s.mem ∧
    t.now = (s.now / 256000000000 + 1) * 256000000000 ∧ (s.peat.storing = false → tget (fun _ => 0) s.peat.ecc 0x1000 ≠ 2 →
      let n := peatWord s.peat 0x4000
      peatWord t.peat 0x4000 = (if n + 1 < 2 ^ 32 then n + 1 else n) ∧
      ∀ o, (o < 0x4000 ∨ 0x4004 ≤ o) → peatByte t.peat o = peatByte s.peat o)) ∧
  (∀ (s : State) (mv : Nat), s.ao.step ≠ .off → ∃ t, Sys2Proof.Machine.exec (.vholdMeasurement mv) s = .next t ∧
    t.peat = { s.peat with vhold := mv % 8192 } ∧ t.fld R.peatVhold = mv % 8192 ∧
    (∀ o, o ≠ R.peatVhold.off → t.reg o = s.reg o))

/-- VIO33 rising starts the clock at 0, with TICK_STATUS at HOLDOVER, and the first attempt, or waits for RESET_N; DRAM
is lost, flash and host memory stay. Each PGOOD in turn settles, the next group follows, after group 3 the crystal
is counted; the second good window in a row confirms it and boot follows. A missing PGOOD names its group and fails
the attempt with code 2, the crystal with 3; the fourth failure holds, the others back off 100 ms, 400 ms or 1.6 s
after 3 ms. Boot runs the preferred image that passes its check, else the other one with FALLBACK, else fails with
code 4 and the check's answer; a directory that cannot be read answers 7, none valid 1. RESET_N low takes the core
down, keeping flash, host memory and the registers the rule names, every other at its reset word but TICK_STATUS,
which shows HOLDOVER; its release, and AO_CMD 1 while it is high, start attempt 1. A PGOOD that rises is shown at
any step; PGOOD_LOST is shown and reported. A switch that reports ready runs the staged slot, one that times out the
old one, with SYS_ERR cause 2 (with no header waiting, memory outside the directory stays); both end the trial.
Readings and choices of the model behind it: log entries 29 to 31, 39, 70. (16_power_boot_faults.md,
15_peat_store.md) -/
def Obligations.PowerUpAndBoot : Prop :=
  (∀ (s : State), s.ao.step = .off → ∃ t, Sys2Proof.Machine.exec .vio33Rise s = .next t ∧ t.now = 0 ∧
    (if s.ao.rstLow then t.ao.step = .reset else t.ao.step = .waitPg 0 ∧ t.ao.pen = 1) ∧ t.ao.up = false ∧ t.fld R.tickStatus = 4 ∧
    (∀ x, t.byte x = if isHost x = true ∨ (0x3000000000 ≤ x ∧ x < 0x3000000000 + 2 ^ 29) then s.byte x else memDefault x)) ∧
  (∀ (s : State), s.ao.step ≠ .off → Sys2Proof.Machine.exec .vio33Rise s = .next s) ∧
  (∀ (s : State), ∃ t, Sys2Proof.Machine.exec .vio33Por s = .next t ∧ t.ao.step = .off ∧ t.ao.up = false ∧ t.regs = [] ∧
    (∀ x, isHost x = true ∨ (0x3000000000 ≤ x ∧ x < 0x3000000000 + 2 ^ 29) → t.byte x = s.byte x)) ∧
  (∀ (s : State) (g : Fin 4) (t0 : Nat), ∃ t, Sys2Proof.Machine.exec (.pgoodRise g t0) s = .next t ∧
    (if s.ao.step = .off then t = s else t.now = max s.now t0 ∧ nbits t.ao.pgood g 1 = 1 ∧ t = { s with now := t.now, ao := t.ao } ∧
      if s.ao.step = .waitPg g then t.ao.step = .settle g ∧ t.ao.t0 = max s.now t0
      else t.ao = { s.ao with pgood := t.ao.pgood })) ∧
  (∀ (s : State) (g : Nat), s.ao.step = .settle g → ∃ t, Sys2Proof.Machine.exec .penSettleElapsed s = .next t ∧
    t.now = max s.now (s.ao.t0 + s.ao.seqIn.2.1 * 256000000) ∧ t = { s with now := t.now, ao := t.ao } ∧
    (if g < 3 then t.ao.step = .waitPg (g + 1) ∧ nbits t.ao.pen (g + 1) 1 = 1 else t.ao.step = .crystal)) ∧
  (∀ (s : State) (g : Nat), s.ao.step = .waitPg g → ∃ t, Sys2Proof.Machine.exec .pgoodTimeout s = .next t ∧
    t.now = max s.now (s.ao.t0 + s.ao.seqIn.1 * 256000000) ∧ t.ao.stat = 2 ∧ t.ao.holdGroup = 2 ^ g ∧ t.ao.up = false ∧
    t.ao.tries = min 3 (s.ao.tries + 1) ∧ t.ao.step = (if s.ao.tries = 3 then .held else .backoff)) ∧
  (∀ (s : State), s.ao.step = .backoff → ∃ t, Sys2Proof.Machine.exec .backoffElapsed s = .next t ∧ t.ao.step = .waitPg 0 ∧
    t.ao.pen = 1 ∧ t.now = max s.now (s.ao.t0 +
      (3 + if s.ao.tries = 1 then 100 else if s.ao.tries = 2 then 400 else 1600) * 256000000)) ∧
  (∀ (s : State) (n : Nat), s.ao.step = .crystal → ∃ t, Sys2Proof.Machine.exec (.crystalWindow n) s = .next t ∧
    t.now = s.now + 256000000 ∧ (n < 22500 ∨ 27500 < n → t.ao.step = .crystal ∧ t.ao.xtalOk = 0) ∧
    (22500 ≤ n → n ≤ 27500 → (s.ao.xtalOk = 0 → t.ao.step = .crystal ∧ t.ao.xtalOk = 1) ∧
      (1 ≤ s.ao.xtalOk → t.ao.step = .boot ∧ t.ao.xtal = true ∧ t.ao.recalled = true))) ∧
  (∀ (s : State), s.ao.step = .crystal → ∃ t, Sys2Proof.Machine.exec .xtalTimeout s = .next t ∧ t.ao.stat = 3 ∧
    t.now = max s.now (s.ao.pgT + s.ao.seqIn.2.2 * 256000000) ∧ t.ao.step = (if s.ao.tries = 3 then .held else .backoff)) ∧
  (∀ (s : State) (eD eA eB : Bool) (x : List (BitVec 8)), s.ao.step = .boot → ∃ t,
    Sys2Proof.Machine.exec (.boot eD eA eB x) s = .next t ∧
    (eD = true → t.ao.stat = 4 ∧ t.ao.holdBoot = 7 ∧ t.ao.up = false) ∧
    (eD = false → s.dirInUse = none → t.ao.stat = 4 ∧ t.ao.holdBoot = 1 ∧ t.ao.up = false) ∧
    (∀ c, eD = false → s.dirInUse = some c → nbits (s.dirWord c 1) 1 1 = 0 →
      let p := nbits (s.dirWord c 1) 0 1
      let k (i : Nat) : Nat := if (i = 0 ∧ eA = true) ∨ (i = 1 ∧ eB = true) then 7 else s.slotCheck i
      (k p = 0 → t.ao.up = true ∧ t.ao.step = .running ∧ t.ao.slot = p ∧ t.fld R.sysBootSlot = p ∧ t.flag R.sysBootFallback = false) ∧
      (k p ≠ 0 → k (1 - p) = 0 → t.ao.up = true ∧ t.ao.slot = 1 - p ∧ t.fld R.sysBootSlot = 1 - p ∧
        t.flag R.sysBootFallback = true) ∧
      (k p ≠ 0 → k (1 - p) ≠ 0 → t.ao.up = false ∧ t.ao.stat = 4 ∧ t.ao.holdBoot = k (1 - p)))) ∧
  (∀ (s : State) (t0 : Nat), ∃ t, Sys2Proof.Machine.exec (.resetNLow t0) s = .next t ∧ t.ao.rstLow = true ∧
    (s.ao.step = .off → t = { s with ao := t.ao }) ∧
    (s.ao.step ≠ .off → t.ao.step = .reset ∧ t.ao.up = false ∧ t.ao.tries = 0 ∧ t.ao.rstCause = (if s.ao.failed then 3 else 1) ∧
      t.fld R.tickStatus = 4 ∧ (∀ o, o ≠ R.tickStatus.off → t.reg o = if keptReg o then s.reg o else resetWord o) ∧
      (∀ x, isHost x = true ∨ (0x3000000000 ≤ x ∧ x < 0x3000000000 + 2 ^ 29) → t.byte x = s.byte x))) ∧
  (∀ (s : State) (t0 : Nat), ∃ t, Sys2Proof.Machine.exec (.resetNRelease t0) s = .next t ∧ t.ao.rstLow = false ∧
    t.now = max s.now t0 ∧ (if s.ao.step = .reset then t.ao.step = .waitPg 0 else t.ao.step = s.ao.step)) ∧
  (∀ (s : State), s.ao.step ≠ .off → ∃ t, Sys2Proof.Machine.exec .aoCmdRestart s = .next t ∧
    (if s.ao.rstLow then t = s else t.ao.step = .waitPg 0 ∧ t.ao.tries = 0 ∧ t.ao.rstCause = (if s.ao.failed then 3 else 2) ∧
      t.fld R.tickStatus = 4 ∧ ∀ o, o ≠ R.tickStatus.off → t.reg o = if keptReg o then s.reg o else resetWord o)) ∧
  (∀ (s : State) (m : BitVec 4), s.ao.up = true → ∃ t, Sys2Proof.Machine.exec (.pgoodLost m) s = .next t ∧ t.mem = s.mem ∧
    t.fld R.sysPgoodLost = (s.fld R.sysPgoodLost ||| m.toNat) ∧ t.ao = { s.ao with pgood := s.ao.pgood - (s.ao.pgood &&& m.toNat) } ∧
    nbits (t.fld R.faultStat) 7 1 = 1 ∧ (s.events.length < 256 → s.logReads = true → t.events.map (·.code) = s.events.map (·.code) ++ [0x0E01])) ∧
  (∀ (s : State) (c : Option Nat) (k : Nat), s.ao.up = true → s.ao.sw = some c → s.ao.staged = some k → k < 2 → ∃ t,
    Sys2Proof.Machine.exec .fwSwitchReady s = .next t ∧ t.ao.sw = none ∧ t.ao.staged = none ∧ t.ao.slot = k ∧
    t.fld R.sysBootSlot = k ∧ t.fld R.sysStatTrial = 0 ∧ s.ao.svnMin ≤ t.ao.svnMin ∧
    (∀ u, c = some u → ∀ d ∈ t.cmds, d.uid = u → 2 ≤ d.phase)) ∧
  (∀ (s : State) (c : Option Nat), s.ao.up = true → s.ao.sw = some c → s.backlog = [] → ∃ t,
    Sys2Proof.Machine.exec .fwSwitchTimeout s = .next t ∧ t.ao = { s.ao with sw := none } ∧ t.fld R.sysStatTrial = 0 ∧
    nbits (t.reg R.sysErr.off).toNat 16 8 = 2 ∧
    (∀ u, c = some u → ∀ d ∈ t.cmds, d.uid = u → 2 ≤ d.phase) ∧
    (∀ x, (x < 0x3000000000 ∨ 0x3000002000 ≤ x) → t.byte x = s.byte x))

/-- With the core up (the crystal and the pin from power-up on): a compare mismatch stops the pair and shows fault bit
1, or fails it when it is the fourth within 60 s; the restart, with no header and no earlier fault waiting, ends the
stop and counts it. An engine, a record or the pair waits while a fault detected earlier is open. Crystal loss gives
holdover with fault bit 6 and is handled as kind 7; the return waits for the next tick edge while one runs, else is
at once. The tenth alike sample of a FAULT_N not driven sets EXT, of one driven but high STUCK. FREEZE_N low, the
register and the always-on command freeze a core that is up; the freeze ends when no request is present and no
shutdown holds. Each JTAG instruction is recorded; IDCODE answers 0x1514494B, SNAPSHOT as many bytes as clocked,
zeros unless frozen and, while frozen, the engines' memories, the directory and the register images it lists;
reading the snapshot words moves the address by 64 and wraps at its end; the always-on POWERED_NS word answers the
low half and latches the upper. Readings and choices of the model behind it: log entries 27, 40 to 43.
(16_power_boot_faults.md) -/
def Obligations.FaultsFreezeAndJtag : Prop :=
  (∀ (s : State) (t0 : Nat), s.ao.up = true → ∃ t, Sys2Proof.Machine.exec (.lockstepMismatch t0) s = .next t ∧ t.mem = s.mem ∧
    t.now = max s.now t0 ∧
    (if s.ao.failed = true ∨ s.ao.lsStop.isSome = true then t = { s with now := t.now }
      else t.ao.lsStop = some t.now ∧ (if lsFourth t.now (s.ao.lsT.take 3) then t.ao.failed = true
        else t.ao.failed = false ∧ nbits (t.fld R.faultStat) 1 1 = 1))) ∧
  (∀ (s : State) (t0 u : Nat), s.ao.up = true → s.ao.lsStop = some u → s.ao.failed = false → s.backlog = [] →
    s.ao.faults = [] → ∃ t,
    Sys2Proof.Machine.exec (.lockstepRestartDone t0) s = .next t ∧ t.ao = { s.ao with lsStop := none } ∧ t.mem = s.mem ∧
    t.fld R.faultLsCnt = (s.fld R.faultLsCnt + 1) % 2 ^ 16 ∧ t.fld R.faultLastKind = 6 ∧
    t.fld R.faultLastStall = min ((max s.now t0 - u) / 256000) 0xFFFF) ∧
  (∀ (s : State) (e : Fin 192) (h : Fin 4) (b : Fin 2) (i t0 : Nat), s.calm = true →
    (s.faultTurn 2 e = false → Sys2Proof.Machine.exec (.engineRestart e) s = .next s) ∧
    (s.faultTurn 4 (h * 2 ^ 32 + b * 2 ^ 31 + i) = false → Sys2Proof.Machine.exec (.tableRepair h b i) s = .next s) ∧
    (s.faultTurn 6 0 = false → Sys2Proof.Machine.exec (.lockstepRestartDone t0) s = .next s)) ∧
  (∀ (s : State), s.ao.step ≠ .off → s.ao.xtal = true → ∃ t, Sys2Proof.Machine.exec .crystalLoss s = .next t ∧ t.mem = s.mem ∧
    t.ao = { s.ao with xtal := false, xtalBack := false } ∧ nbits (t.fld R.tickStatus) 2 1 = 1 ∧
    t.fld R.tickStatus % 4 = s.fld R.tickStatus % 4 ∧ nbits (t.fld R.faultStat) 6 1 = 1 ∧ t.fld R.faultLastKind = 7) ∧
  (∀ (s : State), s.ao.step ≠ .off → s.ao.up = true ∨ s.ao.step = .boot → s.ao.xtal = false → ∃ t,
    Sys2Proof.Machine.exec .crystalReturn s = .next t ∧ t.mem = s.mem ∧
    (if s.fld R.tickStatus % 2 = 1 then t = { s with ao := { s.ao with xtalBack := true } }
      else t.ao = { s.ao with xtal := true, xtalBack := false } ∧ nbits (t.fld R.tickStatus) 2 1 = 0)) ∧
  (∀ (s : State) (high : Bool), s.ao.step ≠ .off → s.ballsTaken = false → ∃ t, Sys2Proof.Machine.exec (.faultPinSample high) s = .next t ∧ t.mem = s.mem ∧
    t.ao.pinWas = (high, s.drivesFault) ∧ (s.ao.pinWas ≠ (high, s.drivesFault) → t.ao.pinRun = 1 ∧ t.regs = s.regs) ∧
    (s.ao.pinWas = (high, s.drivesFault) → s.ao.pinRun = 9 → t.ao.pinRun = 10 ∧ t.ao.pinLvl = high ∧
      (high = false → s.drivesFault = false → t.flag R.faultPinExt = true) ∧
      (high = true → s.drivesFault = true → t.flag R.faultPinStuck = true))) ∧
  (∀ c ∈ [Instr.freezeNLow, .freezeNHigh, .faultPinSample true, .faultPinSample false], ∀ (s : State), s.ballsTaken = true →
    Sys2Proof.Machine.exec c s = .next s) ∧
  (∀ (s : State), s.ballsTaken = false → ∃ t, Sys2Proof.Machine.exec .freezeNLow s = .next t ∧ t.ao.pin = true ∧ t.ao.latch = s.ao.latch ∧
    t.ao.frozen = (s.ao.frozen || s.ao.up)) ∧
  (∀ (s : State), s.ballsTaken = false → ∃ t, Sys2Proof.Machine.exec .freezeNHigh s = .next t ∧ t.ao.pin = false ∧ t.ao.latch = s.ao.latch ∧
    t.ao.frozen = (s.ao.frozen && (s.ao.latch || s.ao.shut)) ∧
    (s.ao.frozen = true → s.ao.latch = false → s.ao.shut = false → t.flash.polling = true)) ∧
  (∀ c ∈ [Instr.sysFreezeReq, Instr.aoCmdFreeze], ∀ (s : State), s.ao.up = true → s.ao.step ≠ .off → ∃ t,
    Sys2Proof.Machine.exec c s = .next t ∧ t.ao.latch = true ∧ t.ao.frozen = true ∧ t.ao.pin = s.ao.pin) ∧
  (∀ c ∈ [Instr.sysFreezeThaw, Instr.aoCmdThaw], ∀ (s : State), s.ao.up = true → s.ao.step ≠ .off → ∃ t,
    Sys2Proof.Machine.exec c s = .next t ∧ t.ao.latch = false ∧ t.ao.pin = s.ao.pin ∧
    t.ao.frozen = (s.ao.frozen && (s.ao.pin || s.ao.shut))) ∧
  (∀ p ∈ ([(Instr.extest, 0), (Instr.bypass, 0xFF), (Instr.testLogicReset, 2)] : List (Instr × Nat)), ∀ (s : State),
    s.ao.step ≠ .off → Sys2Proof.Machine.exec p.1 s = .next { s with ao := { s.ao with ir := p.2 } }) ∧
  (∀ (s : State) (n : Nat), s.ao.step ≠ .off → Sys2Proof.Machine.exec (.samplePreload n) s =
    .next { s with ao := { s.ao with ir := 1, chain := n }, reply := [n] }) ∧
  (∀ (s : State), s.ao.step ≠ .off → Sys2Proof.Machine.exec .idcode s =
    .next { s with ao := { s.ao with ir := 2 }, reply := [0x1514494B] }) ∧
  (∀ (s : State) (n : Nat), s.ao.step ≠ .off → ∃ t, Sys2Proof.Machine.exec (.snapshot n) s = .next t ∧
    t = { s with ao := { s.ao with ir := 0x20 }, reply := t.reply } ∧ t.reply.length = n ∧
    (s.ao.frozen = false → t.reply = List.replicate n 0) ∧
    (s.ao.frozen = true → ∀ i, i < n → s.ao.snapAddr + i < 0xC00000 → t.reply.getD i 0 =
      (s.byte (localDev ((s.ao.snapAddr + i) / 0x10000) ((s.ao.snapAddr + i) % 0x10000))).toNat) ∧
    (s.ao.frozen = true → ∀ i, i < n → let o := s.ao.snapAddr + i
      (0x17A8000 ≤ o → o < 0x17A8400 → t.reply.getD i 0 =
        snapDir ((o - 0x17A8000) / 16) ((o - 0x17A8000) / 4 % 4) / 256 ^ ((o - 0x17A8000) % 4) % 256) ∧
      (∀ k r j, snapImages[k]? = some r → j < r.2 → o = snapAt k + j → t.reply.getD i 0 =
        (s.reg ((r.1 + j) / 4 * 4)).toNat / 256 ^ ((r.1 + j) % 4) % 256))) ∧
  (∀ (s : State), s.ao.step ≠ .off → Sys2Proof.Machine.exec .aoSnapDataRead s = .next { s with ao := { s.ao with
    snapAddr := if s.ao.snapAddr + 64 < 0x1800000 then s.ao.snapAddr + 64 else 0 } }) ∧
  (∀ (s : State), s.ao.step ≠ .off → Sys2Proof.Machine.exec .aoPoweredNsLoRead s =
    .next { s with ao := { s.ao with nsHi := s.poweredNs / 2 ^ 32 }, reply := [s.poweredNs % 2 ^ 32] })
end

