-- ==== Sys2Proof/Laws/Table.lean ====
section
/-!
SUPPORT. Sparse tables: reading after writing, and that every write keeps the canonical form.
-/
namespace Sys2Proof.Machine

variable {α : Type} [DecidableEq α] (d : Nat → α)

omit [DecidableEq α] in
theorem tget_tput (k j : Nat) (v : α) (t : Tbl α) : tget d (tput k v t) j = if j = k then v else tget d t j := by
  induction t with
  | nil => simp [tput, tget]
  | cons p t ih =>
    obtain ⟨k', v'⟩ := p
    simp only [tput]
    split
    · simp [tget]
    · split
      · next h => subst h; by_cases hj : j = k <;> simp [tget, hj]
      · simp only [tget, ih]
        by_cases hj : j = k' <;> by_cases hk : j = k <;> simp_all

omit [DecidableEq α] in
/-- Keys strictly rise from a bound. -/
def trise : Nat → Tbl α → Prop
  | _, [] => True
  | b, (k, _) :: t => b ≤ k ∧ trise (k + 1) t

omit [DecidableEq α] in
theorem trise_mono {b c : Nat} (h : b ≤ c) : ∀ {t : Tbl α}, trise c t → trise b t
  | [], _ => trivial
  | (_, _) :: _, ⟨h1, h2⟩ => ⟨Nat.le_trans h h1, h2⟩

omit [DecidableEq α] in
theorem tget_below {b j : Nat} (hj : j < b) : ∀ {t : Tbl α}, trise b t → tget d t j = d j
  | [], _ => rfl
  | (k, v) :: t, ⟨h1, h2⟩ => by
    have : j ≠ k := by omega
    simp only [tget, this, if_false]
    exact tget_below (by omega) h2

omit [DecidableEq α] in
theorem tget_tdel (k j : Nat) : ∀ (t : Tbl α), tget d (tdel k t) j = if j = k then d k else tget d t j
  | [] => by by_cases h : j = k <;> simp [tdel, tget, h]
  | (k', v') :: t => by
    simp only [tdel]
    split
    · next h =>
      subst h
      rw [tget_tdel k j t]
      by_cases hj : j = k <;> simp [tget, hj]
    · next h =>
      simp only [tget, tget_tdel k j t]
      by_cases hj : j = k' <;> by_cases hk : j = k <;> simp_all

/-- A read after a write: the value written at its key, the old value elsewhere. -/
theorem tget_tset (k j : Nat) (v : α) (t : Tbl α) :
    tget d (tset d k v t) j = if j = k then v else tget d t j := by
  unfold tset
  split
  · next h => rw [tget_tdel, h]
  · exact tget_tput d k j v t

@[simp] theorem tget_tset_same (k : Nat) (v : α) (t : Tbl α) : tget d (tset d k v t) k = v := by simp [tget_tset]

theorem tget_tset_other {k j : Nat} (h : j ≠ k) (v : α) (t : Tbl α) : tget d (tset d k v t) j = tget d t j := by
  simp [tget_tset, h]

/-- The canonical form as a bound on the keys and a condition on every entry. -/
def tcanon (b : Nat) (t : Tbl α) : Prop := trise b t ∧ ∀ p ∈ t, p.2 ≠ d p.1

theorem twf_cons (p q : Nat × α) (t : Tbl α) :
    twf d (p :: q :: t) = (decide (p.2 ≠ d p.1) && decide (p.1 < q.1) && twf d (q :: t)) := rfl

theorem twf_iff_tcanon : ∀ (t : Tbl α), twf d t = true ↔ tcanon d 0 t
  | [] => by simp [twf, tcanon, trise]
  | [(k, v)] => by simp [twf, tcanon, trise]
  | (k, v) :: (k', v') :: t => by
    have ih := twf_iff_tcanon ((k', v') :: t)
    rw [twf_cons]
    simp only [Bool.and_eq_true, decide_eq_true_eq, ih, tcanon, trise, List.forall_mem_cons, Nat.zero_le, true_and]
    constructor
    · rintro ⟨⟨h1, h2⟩, h3, h4⟩
      exact ⟨⟨h2, h3⟩, h1, h4⟩
    · rintro ⟨⟨h2, h3⟩, h1, h4⟩
      exact ⟨⟨h1, h2⟩, h3, h4⟩

omit [DecidableEq α] in
theorem trise_tput {k : Nat} {v : α} : ∀ {b : Nat} {t : Tbl α}, b ≤ k → trise b t → trise b (tput k v t)
  | b, [], hb, _ => ⟨hb, trivial⟩
  | b, (k', v') :: t, hb, ⟨h1, h2⟩ => by
    simp only [tput]
    split
    · next h => exact ⟨hb, by exact h, h2⟩
    · split
      · next h => subst h; exact ⟨hb, h2⟩
      · next h1' h2' => exact ⟨h1, trise_tput (by omega) h2⟩

omit [DecidableEq α] in
theorem trise_tdel {k : Nat} : ∀ {b : Nat} {t : Tbl α}, trise b t → trise b (tdel k t)
  | _, [], _ => trivial
  | b, (k', v') :: t, ⟨h1, h2⟩ => by
    simp only [tdel]
    split
    · exact trise_mono (by omega) (trise_tdel h2)
    · exact ⟨h1, trise_tdel h2⟩

omit [DecidableEq α] in
theorem mem_tput {k : Nat} {v : α} : ∀ {t : Tbl α} {p : Nat × α}, p ∈ tput k v t → p = (k, v) ∨ p ∈ t
  | [], p, h => by simp [tput] at h; exact .inl h
  | (k', v') :: t, p, h => by
    simp only [tput] at h
    split at h
    · simpa using h
    · split at h
      · rcases List.mem_cons.1 h with h | h
        · exact .inl h
        · exact .inr (List.mem_cons_of_mem _ h)
      · rcases List.mem_cons.1 h with h | h
        · exact .inr (by simp [h])
        · exact (mem_tput h).imp id (List.mem_cons_of_mem _)

omit [DecidableEq α] in
theorem mem_tdel {k : Nat} : ∀ {t : Tbl α} {p : Nat × α}, p ∈ tdel k t → p ∈ t
  | [], _, h => h
  | (k', v') :: t, p, h => by
    simp only [tdel] at h
    split at h
    · exact List.mem_cons_of_mem _ (mem_tdel h)
    · rcases List.mem_cons.1 h with h | h
      · simp [h]
      · exact List.mem_cons_of_mem _ (mem_tdel h)

/-- Every write keeps the canonical form. -/
theorem twf_tset (k : Nat) (v : α) {t : Tbl α} (h : twf d t = true) : twf d (tset d k v t) = true := by
  rw [twf_iff_tcanon] at *
  obtain ⟨h1, h2⟩ := h
  unfold tset
  split
  · exact ⟨trise_tdel h1, fun p hp => h2 p (mem_tdel hp)⟩
  · next hv =>
    refine ⟨trise_tput (Nat.zero_le k) h1, fun p hp => ?_⟩
    rcases mem_tput hp with rfl | hp
    · exact hv
    · exact h2 p hp

/-- Leaving out entries keeps the canonical form. -/
theorem twf_filter (f : Nat × α → Bool) {t : Tbl α} (h : twf d t = true) : twf d (t.filter f) = true := by
  rw [twf_iff_tcanon] at *
  obtain ⟨h1, h2⟩ := h
  refine ⟨?_, fun p hp => h2 p (List.mem_filter.1 hp).1⟩
  clear h2
  generalize (0 : Nat) = b at h1 ⊢
  induction t generalizing b with
  | nil => trivial
  | cons q t ih =>
    obtain ⟨g1, g2⟩ := h1
    simp only [List.filter]
    split
    · exact ⟨g1, ih _ g2⟩
    · exact trise_mono (by omega) (ih _ g2)

end Sys2Proof.Machine
end

