-- ==== Sys2Proof/Laws/State.lean ====
section
/-!
SUPPORT. What each update of the state leaves as it was: one theorem per update, one clause per field, so that no later
proof unfolds a record update; and what the updated table reads as.
-/
namespace Sys2Proof.Machine

@[simp] theorem State.setReg_frame (s : State) (o : Nat) (w : Word) :
    (s.setReg o w).now = s.now ∧ (s.setReg o w).baseLo = s.baseLo ∧ (s.setReg o w).mem = s.mem ∧
    (s.setReg o w).ecc = s.ecc ∧ (s.setReg o w).tick = s.tick ∧ (s.setReg o w).heads = s.heads ∧
    (s.setReg o w).slices = s.slices ∧ (s.setReg o w).groups = s.groups ∧ (s.setReg o w).pipes = s.pipes ∧
    (s.setReg o w).cals = s.cals ∧ (s.setReg o w).acts = s.acts ∧ (s.setReg o w).actQ = s.actQ ∧
    (s.setReg o w).engs = s.engs ∧ (s.setReg o w).mires = s.mires ∧ (s.setReg o w).arr = s.arr ∧
    (s.setReg o w).vids = s.vids ∧ (s.setReg o w).vid = s.vid ∧ (s.setReg o w).msys = s.msys ∧
    (s.setReg o w).dma = s.dma ∧ (s.setReg o w).host = s.host ∧ (s.setReg o w).streams = s.streams ∧
    (s.setReg o w).backlog = s.backlog ∧ (s.setReg o w).hls = s.hls ∧ (s.setReg o w).flash = s.flash ∧
    (s.setReg o w).mgmt = s.mgmt ∧ (s.setReg o w).therm = s.therm ∧ (s.setReg o w).ao = s.ao ∧
    (s.setReg o w).peat = s.peat ∧ (s.setReg o w).events = s.events ∧ (s.setReg o w).evtLost = s.evtLost ∧
    (s.setReg o w).cmds = s.cmds ∧ (s.setReg o w).reqs = s.reqs ∧ (s.setReg o w).offers = s.offers ∧
    (s.setReg o w).freeCtr = s.freeCtr ∧ (s.setReg o w).reply = s.reply ∧ (s.setReg o w).nextUid = s.nextUid ∧
    (s.setReg o w).pending = s.pending :=
  ⟨rfl, rfl, rfl, rfl, rfl, rfl, rfl, rfl, rfl, rfl, rfl, rfl, rfl, rfl, rfl, rfl, rfl, rfl, rfl, rfl,
   rfl, rfl, rfl, rfl, rfl, rfl, rfl, rfl, rfl, rfl, rfl, rfl, rfl, rfl, rfl, rfl, rfl⟩

@[simp] theorem State.setFld_frame (s : State) (f : Fld) (v : Nat) :
    (s.setFld f v).now = s.now ∧ (s.setFld f v).baseLo = s.baseLo ∧ (s.setFld f v).mem = s.mem ∧
    (s.setFld f v).ecc = s.ecc ∧ (s.setFld f v).tick = s.tick ∧ (s.setFld f v).heads = s.heads ∧
    (s.setFld f v).slices = s.slices ∧ (s.setFld f v).groups = s.groups ∧ (s.setFld f v).pipes = s.pipes ∧
    (s.setFld f v).cals = s.cals ∧ (s.setFld f v).acts = s.acts ∧ (s.setFld f v).actQ = s.actQ ∧
    (s.setFld f v).engs = s.engs ∧ (s.setFld f v).mires = s.mires ∧ (s.setFld f v).arr = s.arr ∧
    (s.setFld f v).vids = s.vids ∧ (s.setFld f v).vid = s.vid ∧ (s.setFld f v).msys = s.msys ∧
    (s.setFld f v).dma = s.dma ∧ (s.setFld f v).host = s.host ∧ (s.setFld f v).streams = s.streams ∧
    (s.setFld f v).backlog = s.backlog ∧ (s.setFld f v).hls = s.hls ∧ (s.setFld f v).flash = s.flash ∧
    (s.setFld f v).mgmt = s.mgmt ∧ (s.setFld f v).therm = s.therm ∧ (s.setFld f v).ao = s.ao ∧
    (s.setFld f v).peat = s.peat ∧ (s.setFld f v).events = s.events ∧ (s.setFld f v).evtLost = s.evtLost ∧
    (s.setFld f v).cmds = s.cmds ∧ (s.setFld f v).reqs = s.reqs ∧ (s.setFld f v).offers = s.offers ∧
    (s.setFld f v).freeCtr = s.freeCtr ∧ (s.setFld f v).reply = s.reply ∧ (s.setFld f v).nextUid = s.nextUid ∧
    (s.setFld f v).pending = s.pending :=
  ⟨rfl, rfl, rfl, rfl, rfl, rfl, rfl, rfl, rfl, rfl, rfl, rfl, rfl, rfl, rfl, rfl, rfl, rfl, rfl, rfl,
   rfl, rfl, rfl, rfl, rfl, rfl, rfl, rfl, rfl, rfl, rfl, rfl, rfl, rfl, rfl, rfl, rfl⟩

@[simp] theorem State.setFlag_frame (s : State) (f : Fld) (b : Bool) :
    (s.setFlag f b).now = s.now ∧ (s.setFlag f b).baseLo = s.baseLo ∧ (s.setFlag f b).mem = s.mem ∧
    (s.setFlag f b).ecc = s.ecc ∧ (s.setFlag f b).tick = s.tick ∧ (s.setFlag f b).heads = s.heads ∧
    (s.setFlag f b).slices = s.slices ∧ (s.setFlag f b).groups = s.groups ∧ (s.setFlag f b).pipes = s.pipes ∧
    (s.setFlag f b).cals = s.cals ∧ (s.setFlag f b).acts = s.acts ∧ (s.setFlag f b).actQ = s.actQ ∧
    (s.setFlag f b).engs = s.engs ∧ (s.setFlag f b).mires = s.mires ∧ (s.setFlag f b).arr = s.arr ∧
    (s.setFlag f b).vids = s.vids ∧ (s.setFlag f b).vid = s.vid ∧ (s.setFlag f b).msys = s.msys ∧
    (s.setFlag f b).dma = s.dma ∧ (s.setFlag f b).host = s.host ∧ (s.setFlag f b).streams = s.streams ∧
    (s.setFlag f b).backlog = s.backlog ∧ (s.setFlag f b).hls = s.hls ∧ (s.setFlag f b).flash = s.flash ∧
    (s.setFlag f b).mgmt = s.mgmt ∧ (s.setFlag f b).therm = s.therm ∧ (s.setFlag f b).ao = s.ao ∧
    (s.setFlag f b).peat = s.peat ∧ (s.setFlag f b).events = s.events ∧ (s.setFlag f b).evtLost = s.evtLost ∧
    (s.setFlag f b).cmds = s.cmds ∧ (s.setFlag f b).reqs = s.reqs ∧ (s.setFlag f b).offers = s.offers ∧
    (s.setFlag f b).freeCtr = s.freeCtr ∧ (s.setFlag f b).reply = s.reply ∧ (s.setFlag f b).nextUid = s.nextUid ∧
    (s.setFlag f b).pending = s.pending :=
  ⟨rfl, rfl, rfl, rfl, rfl, rfl, rfl, rfl, rfl, rfl, rfl, rfl, rfl, rfl, rfl, rfl, rfl, rfl, rfl, rfl,
   rfl, rfl, rfl, rfl, rfl, rfl, rfl, rfl, rfl, rfl, rfl, rfl, rfl, rfl, rfl, rfl, rfl⟩

@[simp] theorem State.bump_frame (s : State) (f : Fld) (n : Nat) :
    (s.bump f n).now = s.now ∧ (s.bump f n).baseLo = s.baseLo ∧ (s.bump f n).mem = s.mem ∧ (s.bump f n).ecc = s.ecc ∧
    (s.bump f n).tick = s.tick ∧ (s.bump f n).heads = s.heads ∧ (s.bump f n).slices = s.slices ∧
    (s.bump f n).groups = s.groups ∧ (s.bump f n).pipes = s.pipes ∧ (s.bump f n).cals = s.cals ∧
    (s.bump f n).acts = s.acts ∧ (s.bump f n).actQ = s.actQ ∧ (s.bump f n).engs = s.engs ∧
    (s.bump f n).mires = s.mires ∧ (s.bump f n).arr = s.arr ∧ (s.bump f n).vids = s.vids ∧ (s.bump f n).vid = s.vid ∧
    (s.bump f n).msys = s.msys ∧ (s.bump f n).dma = s.dma ∧ (s.bump f n).host = s.host ∧
    (s.bump f n).streams = s.streams ∧ (s.bump f n).backlog = s.backlog ∧ (s.bump f n).hls = s.hls ∧
    (s.bump f n).flash = s.flash ∧ (s.bump f n).mgmt = s.mgmt ∧ (s.bump f n).therm = s.therm ∧
    (s.bump f n).ao = s.ao ∧ (s.bump f n).peat = s.peat ∧ (s.bump f n).events = s.events ∧
    (s.bump f n).evtLost = s.evtLost ∧ (s.bump f n).cmds = s.cmds ∧ (s.bump f n).reqs = s.reqs ∧
    (s.bump f n).offers = s.offers ∧ (s.bump f n).freeCtr = s.freeCtr ∧ (s.bump f n).reply = s.reply ∧
    (s.bump f n).nextUid = s.nextUid ∧ (s.bump f n).pending = s.pending :=
  ⟨rfl, rfl, rfl, rfl, rfl, rfl, rfl, rfl, rfl, rfl, rfl, rfl, rfl, rfl, rfl, rfl, rfl, rfl, rfl, rfl,
   rfl, rfl, rfl, rfl, rfl, rfl, rfl, rfl, rfl, rfl, rfl, rfl, rfl, rfl, rfl, rfl, rfl⟩

@[simp] theorem State.set64_frame (s : State) (lo hi : Fld) (v : Nat) :
    (s.set64 lo hi v).now = s.now ∧ (s.set64 lo hi v).baseLo = s.baseLo ∧ (s.set64 lo hi v).mem = s.mem ∧
    (s.set64 lo hi v).ecc = s.ecc ∧ (s.set64 lo hi v).tick = s.tick ∧ (s.set64 lo hi v).heads = s.heads ∧
    (s.set64 lo hi v).slices = s.slices ∧ (s.set64 lo hi v).groups = s.groups ∧ (s.set64 lo hi v).pipes = s.pipes ∧
    (s.set64 lo hi v).cals = s.cals ∧ (s.set64 lo hi v).acts = s.acts ∧ (s.set64 lo hi v).actQ = s.actQ ∧
    (s.set64 lo hi v).engs = s.engs ∧ (s.set64 lo hi v).mires = s.mires ∧ (s.set64 lo hi v).arr = s.arr ∧
    (s.set64 lo hi v).vids = s.vids ∧ (s.set64 lo hi v).vid = s.vid ∧ (s.set64 lo hi v).msys = s.msys ∧
    (s.set64 lo hi v).dma = s.dma ∧ (s.set64 lo hi v).host = s.host ∧ (s.set64 lo hi v).streams = s.streams ∧
    (s.set64 lo hi v).backlog = s.backlog ∧ (s.set64 lo hi v).hls = s.hls ∧ (s.set64 lo hi v).flash = s.flash ∧
    (s.set64 lo hi v).mgmt = s.mgmt ∧ (s.set64 lo hi v).therm = s.therm ∧ (s.set64 lo hi v).ao = s.ao ∧
    (s.set64 lo hi v).peat = s.peat ∧ (s.set64 lo hi v).events = s.events ∧ (s.set64 lo hi v).evtLost = s.evtLost ∧
    (s.set64 lo hi v).cmds = s.cmds ∧ (s.set64 lo hi v).reqs = s.reqs ∧ (s.set64 lo hi v).offers = s.offers ∧
    (s.set64 lo hi v).freeCtr = s.freeCtr ∧ (s.set64 lo hi v).reply = s.reply ∧
    (s.set64 lo hi v).nextUid = s.nextUid ∧ (s.set64 lo hi v).pending = s.pending :=
  ⟨rfl, rfl, rfl, rfl, rfl, rfl, rfl, rfl, rfl, rfl, rfl, rfl, rfl, rfl, rfl, rfl, rfl, rfl, rfl, rfl,
   rfl, rfl, rfl, rfl, rfl, rfl, rfl, rfl, rfl, rfl, rfl, rfl, rfl, rfl, rfl, rfl, rfl⟩

@[simp] theorem State.setBase_frame (s : State) (lo hi : Fld) (v : Nat) :
    (s.setBase lo hi v).now = s.now ∧ (s.setBase lo hi v).mem = s.mem ∧ (s.setBase lo hi v).ecc = s.ecc ∧
    (s.setBase lo hi v).tick = s.tick ∧ (s.setBase lo hi v).heads = s.heads ∧ (s.setBase lo hi v).slices = s.slices ∧
    (s.setBase lo hi v).groups = s.groups ∧ (s.setBase lo hi v).pipes = s.pipes ∧ (s.setBase lo hi v).cals = s.cals ∧
    (s.setBase lo hi v).acts = s.acts ∧ (s.setBase lo hi v).actQ = s.actQ ∧ (s.setBase lo hi v).engs = s.engs ∧
    (s.setBase lo hi v).mires = s.mires ∧ (s.setBase lo hi v).arr = s.arr ∧ (s.setBase lo hi v).vids = s.vids ∧
    (s.setBase lo hi v).vid = s.vid ∧ (s.setBase lo hi v).msys = s.msys ∧ (s.setBase lo hi v).dma = s.dma ∧
    (s.setBase lo hi v).host = s.host ∧ (s.setBase lo hi v).streams = s.streams ∧
    (s.setBase lo hi v).backlog = s.backlog ∧ (s.setBase lo hi v).hls = s.hls ∧ (s.setBase lo hi v).flash = s.flash ∧
    (s.setBase lo hi v).mgmt = s.mgmt ∧ (s.setBase lo hi v).therm = s.therm ∧ (s.setBase lo hi v).ao = s.ao ∧
    (s.setBase lo hi v).peat = s.peat ∧ (s.setBase lo hi v).events = s.events ∧
    (s.setBase lo hi v).evtLost = s.evtLost ∧ (s.setBase lo hi v).cmds = s.cmds ∧ (s.setBase lo hi v).reqs = s.reqs ∧
    (s.setBase lo hi v).offers = s.offers ∧ (s.setBase lo hi v).freeCtr = s.freeCtr ∧
    (s.setBase lo hi v).reply = s.reply ∧ (s.setBase lo hi v).nextUid = s.nextUid ∧
    (s.setBase lo hi v).pending = s.pending :=
  ⟨rfl, rfl, rfl, rfl, rfl, rfl, rfl, rfl, rfl, rfl, rfl, rfl, rfl, rfl, rfl, rfl, rfl, rfl, rfl, rfl,
   rfl, rfl, rfl, rfl, rfl, rfl, rfl, rfl, rfl, rfl, rfl, rfl, rfl, rfl, rfl, rfl⟩

@[simp] theorem State.latch_frame (s : State) (e : Fld) (w rel x : Nat) :
    (s.latch e w rel x).now = s.now ∧ (s.latch e w rel x).baseLo = s.baseLo ∧ (s.latch e w rel x).mem = s.mem ∧
    (s.latch e w rel x).ecc = s.ecc ∧ (s.latch e w rel x).tick = s.tick ∧ (s.latch e w rel x).heads = s.heads ∧
    (s.latch e w rel x).slices = s.slices ∧ (s.latch e w rel x).groups = s.groups ∧
    (s.latch e w rel x).pipes = s.pipes ∧ (s.latch e w rel x).cals = s.cals ∧ (s.latch e w rel x).acts = s.acts ∧
    (s.latch e w rel x).actQ = s.actQ ∧ (s.latch e w rel x).engs = s.engs ∧ (s.latch e w rel x).mires = s.mires ∧
    (s.latch e w rel x).arr = s.arr ∧ (s.latch e w rel x).vids = s.vids ∧ (s.latch e w rel x).vid = s.vid ∧
    (s.latch e w rel x).msys = s.msys ∧ (s.latch e w rel x).dma = s.dma ∧ (s.latch e w rel x).host = s.host ∧
    (s.latch e w rel x).streams = s.streams ∧ (s.latch e w rel x).backlog = s.backlog ∧
    (s.latch e w rel x).hls = s.hls ∧ (s.latch e w rel x).flash = s.flash ∧ (s.latch e w rel x).mgmt = s.mgmt ∧
    (s.latch e w rel x).therm = s.therm ∧ (s.latch e w rel x).ao = s.ao ∧ (s.latch e w rel x).peat = s.peat ∧
    (s.latch e w rel x).events = s.events ∧ (s.latch e w rel x).evtLost = s.evtLost ∧
    (s.latch e w rel x).cmds = s.cmds ∧ (s.latch e w rel x).reqs = s.reqs ∧ (s.latch e w rel x).offers = s.offers ∧
    (s.latch e w rel x).freeCtr = s.freeCtr ∧ (s.latch e w rel x).reply = s.reply ∧
    (s.latch e w rel x).nextUid = s.nextUid ∧ (s.latch e w rel x).pending = s.pending :=
  ⟨rfl, rfl, rfl, rfl, rfl, rfl, rfl, rfl, rfl, rfl, rfl, rfl, rfl, rfl, rfl, rfl, rfl, rfl, rfl, rfl,
   rfl, rfl, rfl, rfl, rfl, rfl, rfl, rfl, rfl, rfl, rfl, rfl, rfl, rfl, rfl, rfl, rfl⟩

@[simp] theorem State.modHead_frame (s : State) (h : Nat) (f : Head → Head) :
    (s.modHead h f).now = s.now ∧ (s.modHead h f).regs = s.regs ∧ (s.modHead h f).baseLo = s.baseLo ∧
    (s.modHead h f).mem = s.mem ∧ (s.modHead h f).ecc = s.ecc ∧ (s.modHead h f).tick = s.tick ∧
    (s.modHead h f).slices = s.slices ∧ (s.modHead h f).groups = s.groups ∧ (s.modHead h f).pipes = s.pipes ∧
    (s.modHead h f).cals = s.cals ∧ (s.modHead h f).acts = s.acts ∧ (s.modHead h f).actQ = s.actQ ∧
    (s.modHead h f).engs = s.engs ∧ (s.modHead h f).mires = s.mires ∧ (s.modHead h f).arr = s.arr ∧
    (s.modHead h f).vids = s.vids ∧ (s.modHead h f).vid = s.vid ∧ (s.modHead h f).msys = s.msys ∧
    (s.modHead h f).dma = s.dma ∧ (s.modHead h f).host = s.host ∧ (s.modHead h f).streams = s.streams ∧
    (s.modHead h f).backlog = s.backlog ∧ (s.modHead h f).hls = s.hls ∧ (s.modHead h f).flash = s.flash ∧
    (s.modHead h f).mgmt = s.mgmt ∧ (s.modHead h f).therm = s.therm ∧ (s.modHead h f).ao = s.ao ∧
    (s.modHead h f).peat = s.peat ∧ (s.modHead h f).events = s.events ∧ (s.modHead h f).evtLost = s.evtLost ∧
    (s.modHead h f).cmds = s.cmds ∧ (s.modHead h f).reqs = s.reqs ∧ (s.modHead h f).offers = s.offers ∧
    (s.modHead h f).freeCtr = s.freeCtr ∧ (s.modHead h f).reply = s.reply ∧ (s.modHead h f).nextUid = s.nextUid ∧
    (s.modHead h f).pending = s.pending :=
  ⟨rfl, rfl, rfl, rfl, rfl, rfl, rfl, rfl, rfl, rfl, rfl, rfl, rfl, rfl, rfl, rfl, rfl, rfl, rfl, rfl,
   rfl, rfl, rfl, rfl, rfl, rfl, rfl, rfl, rfl, rfl, rfl, rfl, rfl, rfl, rfl, rfl, rfl⟩

@[simp] theorem State.modSlice_frame (s : State) (i : Nat) (f : Slice → Slice) :
    (s.modSlice i f).now = s.now ∧ (s.modSlice i f).regs = s.regs ∧ (s.modSlice i f).baseLo = s.baseLo ∧
    (s.modSlice i f).mem = s.mem ∧ (s.modSlice i f).ecc = s.ecc ∧ (s.modSlice i f).tick = s.tick ∧
    (s.modSlice i f).heads = s.heads ∧ (s.modSlice i f).groups = s.groups ∧ (s.modSlice i f).pipes = s.pipes ∧
    (s.modSlice i f).cals = s.cals ∧ (s.modSlice i f).acts = s.acts ∧ (s.modSlice i f).actQ = s.actQ ∧
    (s.modSlice i f).engs = s.engs ∧ (s.modSlice i f).mires = s.mires ∧ (s.modSlice i f).arr = s.arr ∧
    (s.modSlice i f).vids = s.vids ∧ (s.modSlice i f).vid = s.vid ∧ (s.modSlice i f).msys = s.msys ∧
    (s.modSlice i f).dma = s.dma ∧ (s.modSlice i f).host = s.host ∧ (s.modSlice i f).streams = s.streams ∧
    (s.modSlice i f).backlog = s.backlog ∧ (s.modSlice i f).hls = s.hls ∧ (s.modSlice i f).flash = s.flash ∧
    (s.modSlice i f).mgmt = s.mgmt ∧ (s.modSlice i f).therm = s.therm ∧ (s.modSlice i f).ao = s.ao ∧
    (s.modSlice i f).peat = s.peat ∧ (s.modSlice i f).events = s.events ∧ (s.modSlice i f).evtLost = s.evtLost ∧
    (s.modSlice i f).cmds = s.cmds ∧ (s.modSlice i f).reqs = s.reqs ∧ (s.modSlice i f).offers = s.offers ∧
    (s.modSlice i f).freeCtr = s.freeCtr ∧ (s.modSlice i f).reply = s.reply ∧ (s.modSlice i f).nextUid = s.nextUid ∧
    (s.modSlice i f).pending = s.pending :=
  ⟨rfl, rfl, rfl, rfl, rfl, rfl, rfl, rfl, rfl, rfl, rfl, rfl, rfl, rfl, rfl, rfl, rfl, rfl, rfl, rfl,
   rfl, rfl, rfl, rfl, rfl, rfl, rfl, rfl, rfl, rfl, rfl, rfl, rfl, rfl, rfl, rfl, rfl⟩

@[simp] theorem State.modGroup_frame (s : State) (g : Nat) (f : Group → Group) :
    (s.modGroup g f).now = s.now ∧ (s.modGroup g f).regs = s.regs ∧ (s.modGroup g f).baseLo = s.baseLo ∧
    (s.modGroup g f).mem = s.mem ∧ (s.modGroup g f).ecc = s.ecc ∧ (s.modGroup g f).tick = s.tick ∧
    (s.modGroup g f).heads = s.heads ∧ (s.modGroup g f).slices = s.slices ∧ (s.modGroup g f).pipes = s.pipes ∧
    (s.modGroup g f).cals = s.cals ∧ (s.modGroup g f).acts = s.acts ∧ (s.modGroup g f).actQ = s.actQ ∧
    (s.modGroup g f).engs = s.engs ∧ (s.modGroup g f).mires = s.mires ∧ (s.modGroup g f).arr = s.arr ∧
    (s.modGroup g f).vids = s.vids ∧ (s.modGroup g f).vid = s.vid ∧ (s.modGroup g f).msys = s.msys ∧
    (s.modGroup g f).dma = s.dma ∧ (s.modGroup g f).host = s.host ∧ (s.modGroup g f).streams = s.streams ∧
    (s.modGroup g f).backlog = s.backlog ∧ (s.modGroup g f).hls = s.hls ∧ (s.modGroup g f).flash = s.flash ∧
    (s.modGroup g f).mgmt = s.mgmt ∧ (s.modGroup g f).therm = s.therm ∧ (s.modGroup g f).ao = s.ao ∧
    (s.modGroup g f).peat = s.peat ∧ (s.modGroup g f).events = s.events ∧ (s.modGroup g f).evtLost = s.evtLost ∧
    (s.modGroup g f).cmds = s.cmds ∧ (s.modGroup g f).reqs = s.reqs ∧ (s.modGroup g f).offers = s.offers ∧
    (s.modGroup g f).freeCtr = s.freeCtr ∧ (s.modGroup g f).reply = s.reply ∧ (s.modGroup g f).nextUid = s.nextUid ∧
    (s.modGroup g f).pending = s.pending :=
  ⟨rfl, rfl, rfl, rfl, rfl, rfl, rfl, rfl, rfl, rfl, rfl, rfl, rfl, rfl, rfl, rfl, rfl, rfl, rfl, rfl,
   rfl, rfl, rfl, rfl, rfl, rfl, rfl, rfl, rfl, rfl, rfl, rfl, rfl, rfl, rfl, rfl, rfl⟩

@[simp] theorem State.modPipe_frame (s : State) (h : Nat) (f : Pipe → Pipe) :
    (s.modPipe h f).now = s.now ∧ (s.modPipe h f).regs = s.regs ∧ (s.modPipe h f).baseLo = s.baseLo ∧
    (s.modPipe h f).mem = s.mem ∧ (s.modPipe h f).ecc = s.ecc ∧ (s.modPipe h f).tick = s.tick ∧
    (s.modPipe h f).heads = s.heads ∧ (s.modPipe h f).slices = s.slices ∧ (s.modPipe h f).groups = s.groups ∧
    (s.modPipe h f).cals = s.cals ∧ (s.modPipe h f).acts = s.acts ∧ (s.modPipe h f).actQ = s.actQ ∧
    (s.modPipe h f).engs = s.engs ∧ (s.modPipe h f).mires = s.mires ∧ (s.modPipe h f).arr = s.arr ∧
    (s.modPipe h f).vids = s.vids ∧ (s.modPipe h f).vid = s.vid ∧ (s.modPipe h f).msys = s.msys ∧
    (s.modPipe h f).dma = s.dma ∧ (s.modPipe h f).host = s.host ∧ (s.modPipe h f).streams = s.streams ∧
    (s.modPipe h f).backlog = s.backlog ∧ (s.modPipe h f).hls = s.hls ∧ (s.modPipe h f).flash = s.flash ∧
    (s.modPipe h f).mgmt = s.mgmt ∧ (s.modPipe h f).therm = s.therm ∧ (s.modPipe h f).ao = s.ao ∧
    (s.modPipe h f).peat = s.peat ∧ (s.modPipe h f).events = s.events ∧ (s.modPipe h f).evtLost = s.evtLost ∧
    (s.modPipe h f).cmds = s.cmds ∧ (s.modPipe h f).reqs = s.reqs ∧ (s.modPipe h f).offers = s.offers ∧
    (s.modPipe h f).freeCtr = s.freeCtr ∧ (s.modPipe h f).reply = s.reply ∧ (s.modPipe h f).nextUid = s.nextUid ∧
    (s.modPipe h f).pending = s.pending :=
  ⟨rfl, rfl, rfl, rfl, rfl, rfl, rfl, rfl, rfl, rfl, rfl, rfl, rfl, rfl, rfl, rfl, rfl, rfl, rfl, rfl,
   rfl, rfl, rfl, rfl, rfl, rfl, rfl, rfl, rfl, rfl, rfl, rfl, rfl, rfl, rfl, rfl, rfl⟩

@[simp] theorem State.modCal_frame (s : State) (h : Nat) (f : Cal → Cal) :
    (s.modCal h f).now = s.now ∧ (s.modCal h f).regs = s.regs ∧ (s.modCal h f).baseLo = s.baseLo ∧
    (s.modCal h f).mem = s.mem ∧ (s.modCal h f).ecc = s.ecc ∧ (s.modCal h f).tick = s.tick ∧
    (s.modCal h f).heads = s.heads ∧ (s.modCal h f).slices = s.slices ∧ (s.modCal h f).groups = s.groups ∧
    (s.modCal h f).pipes = s.pipes ∧ (s.modCal h f).acts = s.acts ∧ (s.modCal h f).actQ = s.actQ ∧
    (s.modCal h f).engs = s.engs ∧ (s.modCal h f).mires = s.mires ∧ (s.modCal h f).arr = s.arr ∧
    (s.modCal h f).vids = s.vids ∧ (s.modCal h f).vid = s.vid ∧ (s.modCal h f).msys = s.msys ∧
    (s.modCal h f).dma = s.dma ∧ (s.modCal h f).host = s.host ∧ (s.modCal h f).streams = s.streams ∧
    (s.modCal h f).backlog = s.backlog ∧ (s.modCal h f).hls = s.hls ∧ (s.modCal h f).flash = s.flash ∧
    (s.modCal h f).mgmt = s.mgmt ∧ (s.modCal h f).therm = s.therm ∧ (s.modCal h f).ao = s.ao ∧
    (s.modCal h f).peat = s.peat ∧ (s.modCal h f).events = s.events ∧ (s.modCal h f).evtLost = s.evtLost ∧
    (s.modCal h f).cmds = s.cmds ∧ (s.modCal h f).reqs = s.reqs ∧ (s.modCal h f).offers = s.offers ∧
    (s.modCal h f).freeCtr = s.freeCtr ∧ (s.modCal h f).reply = s.reply ∧ (s.modCal h f).nextUid = s.nextUid ∧
    (s.modCal h f).pending = s.pending :=
  ⟨rfl, rfl, rfl, rfl, rfl, rfl, rfl, rfl, rfl, rfl, rfl, rfl, rfl, rfl, rfl, rfl, rfl, rfl, rfl, rfl,
   rfl, rfl, rfl, rfl, rfl, rfl, rfl, rfl, rfl, rfl, rfl, rfl, rfl, rfl, rfl, rfl, rfl⟩

@[simp] theorem State.modAct_frame (s : State) (c : Nat) (f : Act → Act) :
    (s.modAct c f).now = s.now ∧ (s.modAct c f).regs = s.regs ∧ (s.modAct c f).baseLo = s.baseLo ∧
    (s.modAct c f).mem = s.mem ∧ (s.modAct c f).ecc = s.ecc ∧ (s.modAct c f).tick = s.tick ∧
    (s.modAct c f).heads = s.heads ∧ (s.modAct c f).slices = s.slices ∧ (s.modAct c f).groups = s.groups ∧
    (s.modAct c f).pipes = s.pipes ∧ (s.modAct c f).cals = s.cals ∧ (s.modAct c f).actQ = s.actQ ∧
    (s.modAct c f).engs = s.engs ∧ (s.modAct c f).mires = s.mires ∧ (s.modAct c f).arr = s.arr ∧
    (s.modAct c f).vids = s.vids ∧ (s.modAct c f).vid = s.vid ∧ (s.modAct c f).msys = s.msys ∧
    (s.modAct c f).dma = s.dma ∧ (s.modAct c f).host = s.host ∧ (s.modAct c f).streams = s.streams ∧
    (s.modAct c f).backlog = s.backlog ∧ (s.modAct c f).hls = s.hls ∧ (s.modAct c f).flash = s.flash ∧
    (s.modAct c f).mgmt = s.mgmt ∧ (s.modAct c f).therm = s.therm ∧ (s.modAct c f).ao = s.ao ∧
    (s.modAct c f).peat = s.peat ∧ (s.modAct c f).events = s.events ∧ (s.modAct c f).evtLost = s.evtLost ∧
    (s.modAct c f).cmds = s.cmds ∧ (s.modAct c f).reqs = s.reqs ∧ (s.modAct c f).offers = s.offers ∧
    (s.modAct c f).freeCtr = s.freeCtr ∧ (s.modAct c f).reply = s.reply ∧ (s.modAct c f).nextUid = s.nextUid ∧
    (s.modAct c f).pending = s.pending :=
  ⟨rfl, rfl, rfl, rfl, rfl, rfl, rfl, rfl, rfl, rfl, rfl, rfl, rfl, rfl, rfl, rfl, rfl, rfl, rfl, rfl,
   rfl, rfl, rfl, rfl, rfl, rfl, rfl, rfl, rfl, rfl, rfl, rfl, rfl, rfl, rfl, rfl, rfl⟩

@[simp] theorem State.modEng_frame (s : State) (e : Nat) (f : Eng → Eng) :
    (s.modEng e f).now = s.now ∧ (s.modEng e f).regs = s.regs ∧ (s.modEng e f).baseLo = s.baseLo ∧
    (s.modEng e f).mem = s.mem ∧ (s.modEng e f).ecc = s.ecc ∧ (s.modEng e f).tick = s.tick ∧
    (s.modEng e f).heads = s.heads ∧ (s.modEng e f).slices = s.slices ∧ (s.modEng e f).groups = s.groups ∧
    (s.modEng e f).pipes = s.pipes ∧ (s.modEng e f).cals = s.cals ∧ (s.modEng e f).acts = s.acts ∧
    (s.modEng e f).actQ = s.actQ ∧ (s.modEng e f).mires = s.mires ∧ (s.modEng e f).arr = s.arr ∧
    (s.modEng e f).vids = s.vids ∧ (s.modEng e f).vid = s.vid ∧ (s.modEng e f).msys = s.msys ∧
    (s.modEng e f).dma = s.dma ∧ (s.modEng e f).host = s.host ∧ (s.modEng e f).streams = s.streams ∧
    (s.modEng e f).backlog = s.backlog ∧ (s.modEng e f).hls = s.hls ∧ (s.modEng e f).flash = s.flash ∧
    (s.modEng e f).mgmt = s.mgmt ∧ (s.modEng e f).therm = s.therm ∧ (s.modEng e f).ao = s.ao ∧
    (s.modEng e f).peat = s.peat ∧ (s.modEng e f).events = s.events ∧ (s.modEng e f).evtLost = s.evtLost ∧
    (s.modEng e f).cmds = s.cmds ∧ (s.modEng e f).reqs = s.reqs ∧ (s.modEng e f).offers = s.offers ∧
    (s.modEng e f).freeCtr = s.freeCtr ∧ (s.modEng e f).reply = s.reply ∧ (s.modEng e f).nextUid = s.nextUid ∧
    (s.modEng e f).pending = s.pending :=
  ⟨rfl, rfl, rfl, rfl, rfl, rfl, rfl, rfl, rfl, rfl, rfl, rfl, rfl, rfl, rfl, rfl, rfl, rfl, rfl, rfl,
   rfl, rfl, rfl, rfl, rfl, rfl, rfl, rfl, rfl, rfl, rfl, rfl, rfl, rfl, rfl, rfl, rfl⟩

@[simp] theorem State.modMire_frame (s : State) (m : Nat) (f : Mire → Mire) :
    (s.modMire m f).now = s.now ∧ (s.modMire m f).regs = s.regs ∧ (s.modMire m f).baseLo = s.baseLo ∧
    (s.modMire m f).mem = s.mem ∧ (s.modMire m f).ecc = s.ecc ∧ (s.modMire m f).tick = s.tick ∧
    (s.modMire m f).heads = s.heads ∧ (s.modMire m f).slices = s.slices ∧ (s.modMire m f).groups = s.groups ∧
    (s.modMire m f).pipes = s.pipes ∧ (s.modMire m f).cals = s.cals ∧ (s.modMire m f).acts = s.acts ∧
    (s.modMire m f).actQ = s.actQ ∧ (s.modMire m f).engs = s.engs ∧ (s.modMire m f).arr = s.arr ∧
    (s.modMire m f).vids = s.vids ∧ (s.modMire m f).vid = s.vid ∧ (s.modMire m f).msys = s.msys ∧
    (s.modMire m f).dma = s.dma ∧ (s.modMire m f).host = s.host ∧ (s.modMire m f).streams = s.streams ∧
    (s.modMire m f).backlog = s.backlog ∧ (s.modMire m f).hls = s.hls ∧ (s.modMire m f).flash = s.flash ∧
    (s.modMire m f).mgmt = s.mgmt ∧ (s.modMire m f).therm = s.therm ∧ (s.modMire m f).ao = s.ao ∧
    (s.modMire m f).peat = s.peat ∧ (s.modMire m f).events = s.events ∧ (s.modMire m f).evtLost = s.evtLost ∧
    (s.modMire m f).cmds = s.cmds ∧ (s.modMire m f).reqs = s.reqs ∧ (s.modMire m f).offers = s.offers ∧
    (s.modMire m f).freeCtr = s.freeCtr ∧ (s.modMire m f).reply = s.reply ∧ (s.modMire m f).nextUid = s.nextUid ∧
    (s.modMire m f).pending = s.pending :=
  ⟨rfl, rfl, rfl, rfl, rfl, rfl, rfl, rfl, rfl, rfl, rfl, rfl, rfl, rfl, rfl, rfl, rfl, rfl, rfl, rfl,
   rfl, rfl, rfl, rfl, rfl, rfl, rfl, rfl, rfl, rfl, rfl, rfl, rfl, rfl, rfl, rfl, rfl⟩

@[simp] theorem State.modArr_frame (s : State) (f : Array_ → Array_) :
    (s.modArr f).now = s.now ∧ (s.modArr f).regs = s.regs ∧ (s.modArr f).baseLo = s.baseLo ∧
    (s.modArr f).mem = s.mem ∧ (s.modArr f).ecc = s.ecc ∧ (s.modArr f).tick = s.tick ∧ (s.modArr f).heads = s.heads ∧
    (s.modArr f).slices = s.slices ∧ (s.modArr f).groups = s.groups ∧ (s.modArr f).pipes = s.pipes ∧
    (s.modArr f).cals = s.cals ∧ (s.modArr f).acts = s.acts ∧ (s.modArr f).actQ = s.actQ ∧
    (s.modArr f).engs = s.engs ∧ (s.modArr f).mires = s.mires ∧ (s.modArr f).vids = s.vids ∧
    (s.modArr f).vid = s.vid ∧ (s.modArr f).msys = s.msys ∧ (s.modArr f).dma = s.dma ∧ (s.modArr f).host = s.host ∧
    (s.modArr f).streams = s.streams ∧ (s.modArr f).backlog = s.backlog ∧ (s.modArr f).hls = s.hls ∧
    (s.modArr f).flash = s.flash ∧ (s.modArr f).mgmt = s.mgmt ∧ (s.modArr f).therm = s.therm ∧
    (s.modArr f).ao = s.ao ∧ (s.modArr f).peat = s.peat ∧ (s.modArr f).events = s.events ∧
    (s.modArr f).evtLost = s.evtLost ∧ (s.modArr f).cmds = s.cmds ∧ (s.modArr f).reqs = s.reqs ∧
    (s.modArr f).offers = s.offers ∧ (s.modArr f).freeCtr = s.freeCtr ∧ (s.modArr f).reply = s.reply ∧
    (s.modArr f).nextUid = s.nextUid ∧ (s.modArr f).pending = s.pending :=
  ⟨rfl, rfl, rfl, rfl, rfl, rfl, rfl, rfl, rfl, rfl, rfl, rfl, rfl, rfl, rfl, rfl, rfl, rfl, rfl, rfl,
   rfl, rfl, rfl, rfl, rfl, rfl, rfl, rfl, rfl, rfl, rfl, rfl, rfl, rfl, rfl, rfl, rfl⟩

@[simp] theorem State.modVidH_frame (s : State) (h : Nat) (f : VidHead → VidHead) :
    (s.modVidH h f).now = s.now ∧ (s.modVidH h f).regs = s.regs ∧ (s.modVidH h f).baseLo = s.baseLo ∧
    (s.modVidH h f).mem = s.mem ∧ (s.modVidH h f).ecc = s.ecc ∧ (s.modVidH h f).tick = s.tick ∧
    (s.modVidH h f).heads = s.heads ∧ (s.modVidH h f).slices = s.slices ∧ (s.modVidH h f).groups = s.groups ∧
    (s.modVidH h f).pipes = s.pipes ∧ (s.modVidH h f).cals = s.cals ∧ (s.modVidH h f).acts = s.acts ∧
    (s.modVidH h f).actQ = s.actQ ∧ (s.modVidH h f).engs = s.engs ∧ (s.modVidH h f).mires = s.mires ∧
    (s.modVidH h f).arr = s.arr ∧ (s.modVidH h f).vid = s.vid ∧ (s.modVidH h f).msys = s.msys ∧
    (s.modVidH h f).dma = s.dma ∧ (s.modVidH h f).host = s.host ∧ (s.modVidH h f).streams = s.streams ∧
    (s.modVidH h f).backlog = s.backlog ∧ (s.modVidH h f).hls = s.hls ∧ (s.modVidH h f).flash = s.flash ∧
    (s.modVidH h f).mgmt = s.mgmt ∧ (s.modVidH h f).therm = s.therm ∧ (s.modVidH h f).ao = s.ao ∧
    (s.modVidH h f).peat = s.peat ∧ (s.modVidH h f).events = s.events ∧ (s.modVidH h f).evtLost = s.evtLost ∧
    (s.modVidH h f).cmds = s.cmds ∧ (s.modVidH h f).reqs = s.reqs ∧ (s.modVidH h f).offers = s.offers ∧
    (s.modVidH h f).freeCtr = s.freeCtr ∧ (s.modVidH h f).reply = s.reply ∧ (s.modVidH h f).nextUid = s.nextUid ∧
    (s.modVidH h f).pending = s.pending :=
  ⟨rfl, rfl, rfl, rfl, rfl, rfl, rfl, rfl, rfl, rfl, rfl, rfl, rfl, rfl, rfl, rfl, rfl, rfl, rfl, rfl,
   rfl, rfl, rfl, rfl, rfl, rfl, rfl, rfl, rfl, rfl, rfl, rfl, rfl, rfl, rfl, rfl, rfl⟩

@[simp] theorem State.modVid_frame (s : State) (f : Vid → Vid) :
    (s.modVid f).now = s.now ∧ (s.modVid f).regs = s.regs ∧ (s.modVid f).baseLo = s.baseLo ∧
    (s.modVid f).mem = s.mem ∧ (s.modVid f).ecc = s.ecc ∧ (s.modVid f).tick = s.tick ∧ (s.modVid f).heads = s.heads ∧
    (s.modVid f).slices = s.slices ∧ (s.modVid f).groups = s.groups ∧ (s.modVid f).pipes = s.pipes ∧
    (s.modVid f).cals = s.cals ∧ (s.modVid f).acts = s.acts ∧ (s.modVid f).actQ = s.actQ ∧
    (s.modVid f).engs = s.engs ∧ (s.modVid f).mires = s.mires ∧ (s.modVid f).arr = s.arr ∧
    (s.modVid f).vids = s.vids ∧ (s.modVid f).msys = s.msys ∧ (s.modVid f).dma = s.dma ∧ (s.modVid f).host = s.host ∧
    (s.modVid f).streams = s.streams ∧ (s.modVid f).backlog = s.backlog ∧ (s.modVid f).hls = s.hls ∧
    (s.modVid f).flash = s.flash ∧ (s.modVid f).mgmt = s.mgmt ∧ (s.modVid f).therm = s.therm ∧
    (s.modVid f).ao = s.ao ∧ (s.modVid f).peat = s.peat ∧ (s.modVid f).events = s.events ∧
    (s.modVid f).evtLost = s.evtLost ∧ (s.modVid f).cmds = s.cmds ∧ (s.modVid f).reqs = s.reqs ∧
    (s.modVid f).offers = s.offers ∧ (s.modVid f).freeCtr = s.freeCtr ∧ (s.modVid f).reply = s.reply ∧
    (s.modVid f).nextUid = s.nextUid ∧ (s.modVid f).pending = s.pending :=
  ⟨rfl, rfl, rfl, rfl, rfl, rfl, rfl, rfl, rfl, rfl, rfl, rfl, rfl, rfl, rfl, rfl, rfl, rfl, rfl, rfl,
   rfl, rfl, rfl, rfl, rfl, rfl, rfl, rfl, rfl, rfl, rfl, rfl, rfl, rfl, rfl, rfl, rfl⟩

@[simp] theorem State.modMem_frame (s : State) (f : MemS → MemS) :
    (s.modMem f).now = s.now ∧ (s.modMem f).regs = s.regs ∧ (s.modMem f).baseLo = s.baseLo ∧
    (s.modMem f).mem = s.mem ∧ (s.modMem f).ecc = s.ecc ∧ (s.modMem f).tick = s.tick ∧ (s.modMem f).heads = s.heads ∧
    (s.modMem f).slices = s.slices ∧ (s.modMem f).groups = s.groups ∧ (s.modMem f).pipes = s.pipes ∧
    (s.modMem f).cals = s.cals ∧ (s.modMem f).acts = s.acts ∧ (s.modMem f).actQ = s.actQ ∧
    (s.modMem f).engs = s.engs ∧ (s.modMem f).mires = s.mires ∧ (s.modMem f).arr = s.arr ∧
    (s.modMem f).vids = s.vids ∧ (s.modMem f).vid = s.vid ∧ (s.modMem f).dma = s.dma ∧ (s.modMem f).host = s.host ∧
    (s.modMem f).streams = s.streams ∧ (s.modMem f).backlog = s.backlog ∧ (s.modMem f).hls = s.hls ∧
    (s.modMem f).flash = s.flash ∧ (s.modMem f).mgmt = s.mgmt ∧ (s.modMem f).therm = s.therm ∧
    (s.modMem f).ao = s.ao ∧ (s.modMem f).peat = s.peat ∧ (s.modMem f).events = s.events ∧
    (s.modMem f).evtLost = s.evtLost ∧ (s.modMem f).cmds = s.cmds ∧ (s.modMem f).reqs = s.reqs ∧
    (s.modMem f).offers = s.offers ∧ (s.modMem f).freeCtr = s.freeCtr ∧ (s.modMem f).reply = s.reply ∧
    (s.modMem f).nextUid = s.nextUid ∧ (s.modMem f).pending = s.pending :=
  ⟨rfl, rfl, rfl, rfl, rfl, rfl, rfl, rfl, rfl, rfl, rfl, rfl, rfl, rfl, rfl, rfl, rfl, rfl, rfl, rfl,
   rfl, rfl, rfl, rfl, rfl, rfl, rfl, rfl, rfl, rfl, rfl, rfl, rfl, rfl, rfl, rfl, rfl⟩

@[simp] theorem State.modDma_frame (s : State) (f : Dma → Dma) :
    (s.modDma f).now = s.now ∧ (s.modDma f).regs = s.regs ∧ (s.modDma f).baseLo = s.baseLo ∧
    (s.modDma f).mem = s.mem ∧ (s.modDma f).ecc = s.ecc ∧ (s.modDma f).tick = s.tick ∧ (s.modDma f).heads = s.heads ∧
    (s.modDma f).slices = s.slices ∧ (s.modDma f).groups = s.groups ∧ (s.modDma f).pipes = s.pipes ∧
    (s.modDma f).cals = s.cals ∧ (s.modDma f).acts = s.acts ∧ (s.modDma f).actQ = s.actQ ∧
    (s.modDma f).engs = s.engs ∧ (s.modDma f).mires = s.mires ∧ (s.modDma f).arr = s.arr ∧
    (s.modDma f).vids = s.vids ∧ (s.modDma f).vid = s.vid ∧ (s.modDma f).msys = s.msys ∧ (s.modDma f).host = s.host ∧
    (s.modDma f).streams = s.streams ∧ (s.modDma f).backlog = s.backlog ∧ (s.modDma f).hls = s.hls ∧
    (s.modDma f).flash = s.flash ∧ (s.modDma f).mgmt = s.mgmt ∧ (s.modDma f).therm = s.therm ∧
    (s.modDma f).ao = s.ao ∧ (s.modDma f).peat = s.peat ∧ (s.modDma f).events = s.events ∧
    (s.modDma f).evtLost = s.evtLost ∧ (s.modDma f).cmds = s.cmds ∧ (s.modDma f).reqs = s.reqs ∧
    (s.modDma f).offers = s.offers ∧ (s.modDma f).freeCtr = s.freeCtr ∧ (s.modDma f).reply = s.reply ∧
    (s.modDma f).nextUid = s.nextUid ∧ (s.modDma f).pending = s.pending :=
  ⟨rfl, rfl, rfl, rfl, rfl, rfl, rfl, rfl, rfl, rfl, rfl, rfl, rfl, rfl, rfl, rfl, rfl, rfl, rfl, rfl,
   rfl, rfl, rfl, rfl, rfl, rfl, rfl, rfl, rfl, rfl, rfl, rfl, rfl, rfl, rfl, rfl, rfl⟩

@[simp] theorem State.modChan_frame (s : State) (c : Nat) (f : Chan → Chan) :
    (s.modChan c f).now = s.now ∧ (s.modChan c f).regs = s.regs ∧ (s.modChan c f).baseLo = s.baseLo ∧
    (s.modChan c f).mem = s.mem ∧ (s.modChan c f).ecc = s.ecc ∧ (s.modChan c f).tick = s.tick ∧
    (s.modChan c f).heads = s.heads ∧ (s.modChan c f).slices = s.slices ∧ (s.modChan c f).groups = s.groups ∧
    (s.modChan c f).pipes = s.pipes ∧ (s.modChan c f).cals = s.cals ∧ (s.modChan c f).acts = s.acts ∧
    (s.modChan c f).actQ = s.actQ ∧ (s.modChan c f).engs = s.engs ∧ (s.modChan c f).mires = s.mires ∧
    (s.modChan c f).arr = s.arr ∧ (s.modChan c f).vids = s.vids ∧ (s.modChan c f).vid = s.vid ∧
    (s.modChan c f).msys = s.msys ∧ (s.modChan c f).host = s.host ∧ (s.modChan c f).streams = s.streams ∧
    (s.modChan c f).backlog = s.backlog ∧ (s.modChan c f).hls = s.hls ∧ (s.modChan c f).flash = s.flash ∧
    (s.modChan c f).mgmt = s.mgmt ∧ (s.modChan c f).therm = s.therm ∧ (s.modChan c f).ao = s.ao ∧
    (s.modChan c f).peat = s.peat ∧ (s.modChan c f).events = s.events ∧ (s.modChan c f).evtLost = s.evtLost ∧
    (s.modChan c f).cmds = s.cmds ∧ (s.modChan c f).reqs = s.reqs ∧ (s.modChan c f).offers = s.offers ∧
    (s.modChan c f).freeCtr = s.freeCtr ∧ (s.modChan c f).reply = s.reply ∧ (s.modChan c f).nextUid = s.nextUid ∧
    (s.modChan c f).pending = s.pending :=
  ⟨rfl, rfl, rfl, rfl, rfl, rfl, rfl, rfl, rfl, rfl, rfl, rfl, rfl, rfl, rfl, rfl, rfl, rfl, rfl, rfl,
   rfl, rfl, rfl, rfl, rfl, rfl, rfl, rfl, rfl, rfl, rfl, rfl, rfl, rfl, rfl, rfl, rfl⟩

@[simp] theorem State.modHost_frame (s : State) (f : Host_ → Host_) :
    (s.modHost f).now = s.now ∧ (s.modHost f).regs = s.regs ∧ (s.modHost f).baseLo = s.baseLo ∧
    (s.modHost f).mem = s.mem ∧ (s.modHost f).ecc = s.ecc ∧ (s.modHost f).tick = s.tick ∧
    (s.modHost f).heads = s.heads ∧ (s.modHost f).slices = s.slices ∧ (s.modHost f).groups = s.groups ∧
    (s.modHost f).pipes = s.pipes ∧ (s.modHost f).cals = s.cals ∧ (s.modHost f).acts = s.acts ∧
    (s.modHost f).actQ = s.actQ ∧ (s.modHost f).engs = s.engs ∧ (s.modHost f).mires = s.mires ∧
    (s.modHost f).arr = s.arr ∧ (s.modHost f).vids = s.vids ∧ (s.modHost f).vid = s.vid ∧
    (s.modHost f).msys = s.msys ∧ (s.modHost f).dma = s.dma ∧ (s.modHost f).streams = s.streams ∧
    (s.modHost f).backlog = s.backlog ∧ (s.modHost f).hls = s.hls ∧ (s.modHost f).flash = s.flash ∧
    (s.modHost f).mgmt = s.mgmt ∧ (s.modHost f).therm = s.therm ∧ (s.modHost f).ao = s.ao ∧
    (s.modHost f).peat = s.peat ∧ (s.modHost f).events = s.events ∧ (s.modHost f).evtLost = s.evtLost ∧
    (s.modHost f).cmds = s.cmds ∧ (s.modHost f).reqs = s.reqs ∧ (s.modHost f).offers = s.offers ∧
    (s.modHost f).freeCtr = s.freeCtr ∧ (s.modHost f).reply = s.reply ∧ (s.modHost f).nextUid = s.nextUid ∧
    (s.modHost f).pending = s.pending :=
  ⟨rfl, rfl, rfl, rfl, rfl, rfl, rfl, rfl, rfl, rfl, rfl, rfl, rfl, rfl, rfl, rfl, rfl, rfl, rfl, rfl,
   rfl, rfl, rfl, rfl, rfl, rfl, rfl, rfl, rfl, rfl, rfl, rfl, rfl, rfl, rfl, rfl, rfl⟩

@[simp] theorem State.modHl_frame (s : State) (n : Nat) (f : Hl → Hl) :
    (s.modHl n f).now = s.now ∧ (s.modHl n f).regs = s.regs ∧ (s.modHl n f).baseLo = s.baseLo ∧
    (s.modHl n f).mem = s.mem ∧ (s.modHl n f).ecc = s.ecc ∧ (s.modHl n f).tick = s.tick ∧
    (s.modHl n f).heads = s.heads ∧ (s.modHl n f).slices = s.slices ∧ (s.modHl n f).groups = s.groups ∧
    (s.modHl n f).pipes = s.pipes ∧ (s.modHl n f).cals = s.cals ∧ (s.modHl n f).acts = s.acts ∧
    (s.modHl n f).actQ = s.actQ ∧ (s.modHl n f).engs = s.engs ∧ (s.modHl n f).mires = s.mires ∧
    (s.modHl n f).arr = s.arr ∧ (s.modHl n f).vids = s.vids ∧ (s.modHl n f).vid = s.vid ∧
    (s.modHl n f).msys = s.msys ∧ (s.modHl n f).dma = s.dma ∧ (s.modHl n f).host = s.host ∧
    (s.modHl n f).streams = s.streams ∧ (s.modHl n f).backlog = s.backlog ∧ (s.modHl n f).flash = s.flash ∧
    (s.modHl n f).mgmt = s.mgmt ∧ (s.modHl n f).therm = s.therm ∧ (s.modHl n f).ao = s.ao ∧
    (s.modHl n f).peat = s.peat ∧ (s.modHl n f).events = s.events ∧ (s.modHl n f).evtLost = s.evtLost ∧
    (s.modHl n f).cmds = s.cmds ∧ (s.modHl n f).reqs = s.reqs ∧ (s.modHl n f).offers = s.offers ∧
    (s.modHl n f).freeCtr = s.freeCtr ∧ (s.modHl n f).reply = s.reply ∧ (s.modHl n f).nextUid = s.nextUid ∧
    (s.modHl n f).pending = s.pending :=
  ⟨rfl, rfl, rfl, rfl, rfl, rfl, rfl, rfl, rfl, rfl, rfl, rfl, rfl, rfl, rfl, rfl, rfl, rfl, rfl, rfl,
   rfl, rfl, rfl, rfl, rfl, rfl, rfl, rfl, rfl, rfl, rfl, rfl, rfl, rfl, rfl, rfl, rfl⟩

@[simp] theorem State.modMgmt_frame (s : State) (f : Mgmt → Mgmt) :
    (s.modMgmt f).now = s.now ∧ (s.modMgmt f).regs = s.regs ∧ (s.modMgmt f).baseLo = s.baseLo ∧
    (s.modMgmt f).mem = s.mem ∧ (s.modMgmt f).ecc = s.ecc ∧ (s.modMgmt f).tick = s.tick ∧
    (s.modMgmt f).heads = s.heads ∧ (s.modMgmt f).slices = s.slices ∧ (s.modMgmt f).groups = s.groups ∧
    (s.modMgmt f).pipes = s.pipes ∧ (s.modMgmt f).cals = s.cals ∧ (s.modMgmt f).acts = s.acts ∧
    (s.modMgmt f).actQ = s.actQ ∧ (s.modMgmt f).engs = s.engs ∧ (s.modMgmt f).mires = s.mires ∧
    (s.modMgmt f).arr = s.arr ∧ (s.modMgmt f).vids = s.vids ∧ (s.modMgmt f).vid = s.vid ∧
    (s.modMgmt f).msys = s.msys ∧ (s.modMgmt f).dma = s.dma ∧ (s.modMgmt f).host = s.host ∧
    (s.modMgmt f).streams = s.streams ∧ (s.modMgmt f).backlog = s.backlog ∧ (s.modMgmt f).hls = s.hls ∧
    (s.modMgmt f).flash = s.flash ∧ (s.modMgmt f).therm = s.therm ∧ (s.modMgmt f).ao = s.ao ∧
    (s.modMgmt f).peat = s.peat ∧ (s.modMgmt f).events = s.events ∧ (s.modMgmt f).evtLost = s.evtLost ∧
    (s.modMgmt f).cmds = s.cmds ∧ (s.modMgmt f).reqs = s.reqs ∧ (s.modMgmt f).offers = s.offers ∧
    (s.modMgmt f).freeCtr = s.freeCtr ∧ (s.modMgmt f).reply = s.reply ∧ (s.modMgmt f).nextUid = s.nextUid ∧
    (s.modMgmt f).pending = s.pending :=
  ⟨rfl, rfl, rfl, rfl, rfl, rfl, rfl, rfl, rfl, rfl, rfl, rfl, rfl, rfl, rfl, rfl, rfl, rfl, rfl, rfl,
   rfl, rfl, rfl, rfl, rfl, rfl, rfl, rfl, rfl, rfl, rfl, rfl, rfl, rfl, rfl, rfl, rfl⟩

@[simp] theorem State.modTherm_frame (s : State) (f : Therm → Therm) :
    (s.modTherm f).now = s.now ∧ (s.modTherm f).regs = s.regs ∧ (s.modTherm f).baseLo = s.baseLo ∧
    (s.modTherm f).mem = s.mem ∧ (s.modTherm f).ecc = s.ecc ∧ (s.modTherm f).tick = s.tick ∧
    (s.modTherm f).heads = s.heads ∧ (s.modTherm f).slices = s.slices ∧ (s.modTherm f).groups = s.groups ∧
    (s.modTherm f).pipes = s.pipes ∧ (s.modTherm f).cals = s.cals ∧ (s.modTherm f).acts = s.acts ∧
    (s.modTherm f).actQ = s.actQ ∧ (s.modTherm f).engs = s.engs ∧ (s.modTherm f).mires = s.mires ∧
    (s.modTherm f).arr = s.arr ∧ (s.modTherm f).vids = s.vids ∧ (s.modTherm f).vid = s.vid ∧
    (s.modTherm f).msys = s.msys ∧ (s.modTherm f).dma = s.dma ∧ (s.modTherm f).host = s.host ∧
    (s.modTherm f).streams = s.streams ∧ (s.modTherm f).backlog = s.backlog ∧ (s.modTherm f).hls = s.hls ∧
    (s.modTherm f).flash = s.flash ∧ (s.modTherm f).mgmt = s.mgmt ∧ (s.modTherm f).ao = s.ao ∧
    (s.modTherm f).peat = s.peat ∧ (s.modTherm f).events = s.events ∧ (s.modTherm f).evtLost = s.evtLost ∧
    (s.modTherm f).cmds = s.cmds ∧ (s.modTherm f).reqs = s.reqs ∧ (s.modTherm f).offers = s.offers ∧
    (s.modTherm f).freeCtr = s.freeCtr ∧ (s.modTherm f).reply = s.reply ∧ (s.modTherm f).nextUid = s.nextUid ∧
    (s.modTherm f).pending = s.pending :=
  ⟨rfl, rfl, rfl, rfl, rfl, rfl, rfl, rfl, rfl, rfl, rfl, rfl, rfl, rfl, rfl, rfl, rfl, rfl, rfl, rfl,
   rfl, rfl, rfl, rfl, rfl, rfl, rfl, rfl, rfl, rfl, rfl, rfl, rfl, rfl, rfl, rfl, rfl⟩

@[simp] theorem State.modFlash_frame (s : State) (f : Flash → Flash) :
    (s.modFlash f).now = s.now ∧ (s.modFlash f).regs = s.regs ∧ (s.modFlash f).baseLo = s.baseLo ∧
    (s.modFlash f).mem = s.mem ∧ (s.modFlash f).ecc = s.ecc ∧ (s.modFlash f).tick = s.tick ∧
    (s.modFlash f).heads = s.heads ∧ (s.modFlash f).slices = s.slices ∧ (s.modFlash f).groups = s.groups ∧
    (s.modFlash f).pipes = s.pipes ∧ (s.modFlash f).cals = s.cals ∧ (s.modFlash f).acts = s.acts ∧
    (s.modFlash f).actQ = s.actQ ∧ (s.modFlash f).engs = s.engs ∧ (s.modFlash f).mires = s.mires ∧
    (s.modFlash f).arr = s.arr ∧ (s.modFlash f).vids = s.vids ∧ (s.modFlash f).vid = s.vid ∧
    (s.modFlash f).msys = s.msys ∧ (s.modFlash f).dma = s.dma ∧ (s.modFlash f).host = s.host ∧
    (s.modFlash f).streams = s.streams ∧ (s.modFlash f).backlog = s.backlog ∧ (s.modFlash f).hls = s.hls ∧
    (s.modFlash f).therm = s.therm ∧ (s.modFlash f).mgmt = s.mgmt ∧ (s.modFlash f).ao = s.ao ∧
    (s.modFlash f).peat = s.peat ∧ (s.modFlash f).events = s.events ∧ (s.modFlash f).evtLost = s.evtLost ∧
    (s.modFlash f).cmds = s.cmds ∧ (s.modFlash f).reqs = s.reqs ∧ (s.modFlash f).offers = s.offers ∧
    (s.modFlash f).freeCtr = s.freeCtr ∧ (s.modFlash f).reply = s.reply ∧ (s.modFlash f).nextUid = s.nextUid ∧
    (s.modFlash f).pending = s.pending :=
  ⟨rfl, rfl, rfl, rfl, rfl, rfl, rfl, rfl, rfl, rfl, rfl, rfl, rfl, rfl, rfl, rfl, rfl, rfl, rfl, rfl,
   rfl, rfl, rfl, rfl, rfl, rfl, rfl, rfl, rfl, rfl, rfl, rfl, rfl, rfl, rfl, rfl, rfl⟩

@[simp] theorem State.modAo_frame (s : State) (f : AO → AO) :
    (s.modAo f).now = s.now ∧ (s.modAo f).regs = s.regs ∧ (s.modAo f).baseLo = s.baseLo ∧ (s.modAo f).mem = s.mem ∧
    (s.modAo f).ecc = s.ecc ∧ (s.modAo f).tick = s.tick ∧ (s.modAo f).heads = s.heads ∧
    (s.modAo f).slices = s.slices ∧ (s.modAo f).groups = s.groups ∧ (s.modAo f).pipes = s.pipes ∧
    (s.modAo f).cals = s.cals ∧ (s.modAo f).acts = s.acts ∧ (s.modAo f).actQ = s.actQ ∧ (s.modAo f).engs = s.engs ∧
    (s.modAo f).mires = s.mires ∧ (s.modAo f).arr = s.arr ∧ (s.modAo f).vids = s.vids ∧ (s.modAo f).vid = s.vid ∧
    (s.modAo f).msys = s.msys ∧ (s.modAo f).dma = s.dma ∧ (s.modAo f).host = s.host ∧
    (s.modAo f).streams = s.streams ∧ (s.modAo f).backlog = s.backlog ∧ (s.modAo f).hls = s.hls ∧
    (s.modAo f).flash = s.flash ∧ (s.modAo f).mgmt = s.mgmt ∧ (s.modAo f).therm = s.therm ∧
    (s.modAo f).peat = s.peat ∧ (s.modAo f).events = s.events ∧ (s.modAo f).evtLost = s.evtLost ∧
    (s.modAo f).cmds = s.cmds ∧ (s.modAo f).reqs = s.reqs ∧ (s.modAo f).offers = s.offers ∧
    (s.modAo f).freeCtr = s.freeCtr ∧ (s.modAo f).reply = s.reply ∧ (s.modAo f).nextUid = s.nextUid ∧
    (s.modAo f).pending = s.pending :=
  ⟨rfl, rfl, rfl, rfl, rfl, rfl, rfl, rfl, rfl, rfl, rfl, rfl, rfl, rfl, rfl, rfl, rfl, rfl, rfl, rfl,
   rfl, rfl, rfl, rfl, rfl, rfl, rfl, rfl, rfl, rfl, rfl, rfl, rfl, rfl, rfl, rfl, rfl⟩

@[simp] theorem State.modPeat_frame (s : State) (f : Peat → Peat) :
    (s.modPeat f).now = s.now ∧ (s.modPeat f).regs = s.regs ∧ (s.modPeat f).baseLo = s.baseLo ∧
    (s.modPeat f).mem = s.mem ∧ (s.modPeat f).ecc = s.ecc ∧ (s.modPeat f).tick = s.tick ∧
    (s.modPeat f).heads = s.heads ∧ (s.modPeat f).slices = s.slices ∧ (s.modPeat f).groups = s.groups ∧
    (s.modPeat f).pipes = s.pipes ∧ (s.modPeat f).cals = s.cals ∧ (s.modPeat f).acts = s.acts ∧
    (s.modPeat f).actQ = s.actQ ∧ (s.modPeat f).engs = s.engs ∧ (s.modPeat f).mires = s.mires ∧
    (s.modPeat f).arr = s.arr ∧ (s.modPeat f).vids = s.vids ∧ (s.modPeat f).vid = s.vid ∧
    (s.modPeat f).msys = s.msys ∧ (s.modPeat f).dma = s.dma ∧ (s.modPeat f).host = s.host ∧
    (s.modPeat f).streams = s.streams ∧ (s.modPeat f).backlog = s.backlog ∧ (s.modPeat f).hls = s.hls ∧
    (s.modPeat f).flash = s.flash ∧ (s.modPeat f).mgmt = s.mgmt ∧ (s.modPeat f).therm = s.therm ∧
    (s.modPeat f).ao = s.ao ∧ (s.modPeat f).events = s.events ∧ (s.modPeat f).evtLost = s.evtLost ∧
    (s.modPeat f).cmds = s.cmds ∧ (s.modPeat f).reqs = s.reqs ∧ (s.modPeat f).offers = s.offers ∧
    (s.modPeat f).freeCtr = s.freeCtr ∧ (s.modPeat f).reply = s.reply ∧ (s.modPeat f).nextUid = s.nextUid ∧
    (s.modPeat f).pending = s.pending :=
  ⟨rfl, rfl, rfl, rfl, rfl, rfl, rfl, rfl, rfl, rfl, rfl, rfl, rfl, rfl, rfl, rfl, rfl, rfl, rfl, rfl,
   rfl, rfl, rfl, rfl, rfl, rfl, rfl, rfl, rfl, rfl, rfl, rfl, rfl, rfl, rfl, rfl, rfl⟩

@[simp] theorem State.at_frame (s : State) (t : Nat) :
    (s.at t).regs = s.regs ∧ (s.at t).baseLo = s.baseLo ∧ (s.at t).mem = s.mem ∧ (s.at t).ecc = s.ecc ∧
    (s.at t).tick = s.tick ∧ (s.at t).heads = s.heads ∧ (s.at t).slices = s.slices ∧ (s.at t).groups = s.groups ∧
    (s.at t).pipes = s.pipes ∧ (s.at t).cals = s.cals ∧ (s.at t).acts = s.acts ∧ (s.at t).actQ = s.actQ ∧
    (s.at t).engs = s.engs ∧ (s.at t).mires = s.mires ∧ (s.at t).arr = s.arr ∧ (s.at t).vids = s.vids ∧
    (s.at t).vid = s.vid ∧ (s.at t).msys = s.msys ∧ (s.at t).dma = s.dma ∧ (s.at t).host = s.host ∧
    (s.at t).streams = s.streams ∧ (s.at t).backlog = s.backlog ∧ (s.at t).hls = s.hls ∧ (s.at t).flash = s.flash ∧
    (s.at t).mgmt = s.mgmt ∧ (s.at t).therm = s.therm ∧ (s.at t).ao = s.ao ∧ (s.at t).peat = s.peat ∧
    (s.at t).events = s.events ∧ (s.at t).evtLost = s.evtLost ∧ (s.at t).cmds = s.cmds ∧ (s.at t).reqs = s.reqs ∧
    (s.at t).offers = s.offers ∧ (s.at t).freeCtr = s.freeCtr ∧ (s.at t).reply = s.reply ∧
    (s.at t).nextUid = s.nextUid ∧ (s.at t).pending = s.pending :=
  ⟨rfl, rfl, rfl, rfl, rfl, rfl, rfl, rfl, rfl, rfl, rfl, rfl, rfl, rfl, rfl, rfl, rfl, rfl, rfl, rfl,
   rfl, rfl, rfl, rfl, rfl, rfl, rfl, rfl, rfl, rfl, rfl, rfl, rfl, rfl, rfl, rfl, rfl⟩

@[simp] theorem State.fresh_frame (s : State)  :
    s.fresh.now = s.now ∧ s.fresh.regs = s.regs ∧ s.fresh.baseLo = s.baseLo ∧ s.fresh.mem = s.mem ∧
    s.fresh.ecc = s.ecc ∧ s.fresh.tick = s.tick ∧ s.fresh.heads = s.heads ∧ s.fresh.slices = s.slices ∧
    s.fresh.groups = s.groups ∧ s.fresh.pipes = s.pipes ∧ s.fresh.cals = s.cals ∧ s.fresh.acts = s.acts ∧
    s.fresh.actQ = s.actQ ∧ s.fresh.engs = s.engs ∧ s.fresh.mires = s.mires ∧ s.fresh.arr = s.arr ∧
    s.fresh.vids = s.vids ∧ s.fresh.vid = s.vid ∧ s.fresh.msys = s.msys ∧ s.fresh.dma = s.dma ∧
    s.fresh.host = s.host ∧ s.fresh.streams = s.streams ∧ s.fresh.backlog = s.backlog ∧ s.fresh.hls = s.hls ∧
    s.fresh.flash = s.flash ∧ s.fresh.mgmt = s.mgmt ∧ s.fresh.therm = s.therm ∧ s.fresh.ao = s.ao ∧
    s.fresh.peat = s.peat ∧ s.fresh.events = s.events ∧ s.fresh.evtLost = s.evtLost ∧ s.fresh.cmds = s.cmds ∧
    s.fresh.reqs = s.reqs ∧ s.fresh.offers = s.offers ∧ s.fresh.reply = s.reply ∧ s.fresh.nextUid = s.nextUid ∧
    s.fresh.pending = s.pending :=
  ⟨rfl, rfl, rfl, rfl, rfl, rfl, rfl, rfl, rfl, rfl, rfl, rfl, rfl, rfl, rfl, rfl, rfl, rfl, rfl, rfl,
   rfl, rfl, rfl, rfl, rfl, rfl, rfl, rfl, rfl, rfl, rfl, rfl, rfl, rfl, rfl, rfl, rfl⟩

@[simp] theorem State.setByte_frame (s : State) (a : Nat) (b : Byte) :
    (s.setByte a b).now = s.now ∧ (s.setByte a b).regs = s.regs ∧ (s.setByte a b).baseLo = s.baseLo ∧
    (s.setByte a b).ecc = s.ecc ∧ (s.setByte a b).tick = s.tick ∧ (s.setByte a b).heads = s.heads ∧
    (s.setByte a b).slices = s.slices ∧ (s.setByte a b).groups = s.groups ∧ (s.setByte a b).pipes = s.pipes ∧
    (s.setByte a b).cals = s.cals ∧ (s.setByte a b).acts = s.acts ∧ (s.setByte a b).actQ = s.actQ ∧
    (s.setByte a b).engs = s.engs ∧ (s.setByte a b).mires = s.mires ∧ (s.setByte a b).arr = s.arr ∧
    (s.setByte a b).vids = s.vids ∧ (s.setByte a b).vid = s.vid ∧ (s.setByte a b).msys = s.msys ∧
    (s.setByte a b).dma = s.dma ∧ (s.setByte a b).host = s.host ∧ (s.setByte a b).streams = s.streams ∧
    (s.setByte a b).backlog = s.backlog ∧ (s.setByte a b).hls = s.hls ∧ (s.setByte a b).flash = s.flash ∧
    (s.setByte a b).mgmt = s.mgmt ∧ (s.setByte a b).therm = s.therm ∧ (s.setByte a b).ao = s.ao ∧
    (s.setByte a b).peat = s.peat ∧ (s.setByte a b).events = s.events ∧ (s.setByte a b).evtLost = s.evtLost ∧
    (s.setByte a b).cmds = s.cmds ∧ (s.setByte a b).reqs = s.reqs ∧ (s.setByte a b).offers = s.offers ∧
    (s.setByte a b).freeCtr = s.freeCtr ∧ (s.setByte a b).reply = s.reply ∧ (s.setByte a b).nextUid = s.nextUid ∧
    (s.setByte a b).pending = s.pending :=
  ⟨rfl, rfl, rfl, rfl, rfl, rfl, rfl, rfl, rfl, rfl, rfl, rfl, rfl, rfl, rfl, rfl, rfl, rfl, rfl, rfl,
   rfl, rfl, rfl, rfl, rfl, rfl, rfl, rfl, rfl, rfl, rfl, rfl, rfl, rfl, rfl, rfl, rfl⟩

@[simp] theorem State.setEcc_frame (s : State) (g v : Nat) :
    (s.setEcc g v).now = s.now ∧ (s.setEcc g v).regs = s.regs ∧ (s.setEcc g v).baseLo = s.baseLo ∧
    (s.setEcc g v).mem = s.mem ∧ (s.setEcc g v).tick = s.tick ∧ (s.setEcc g v).heads = s.heads ∧
    (s.setEcc g v).slices = s.slices ∧ (s.setEcc g v).groups = s.groups ∧ (s.setEcc g v).pipes = s.pipes ∧
    (s.setEcc g v).cals = s.cals ∧ (s.setEcc g v).acts = s.acts ∧ (s.setEcc g v).actQ = s.actQ ∧
    (s.setEcc g v).engs = s.engs ∧ (s.setEcc g v).mires = s.mires ∧ (s.setEcc g v).arr = s.arr ∧
    (s.setEcc g v).vids = s.vids ∧ (s.setEcc g v).vid = s.vid ∧ (s.setEcc g v).msys = s.msys ∧
    (s.setEcc g v).dma = s.dma ∧ (s.setEcc g v).host = s.host ∧ (s.setEcc g v).streams = s.streams ∧
    (s.setEcc g v).backlog = s.backlog ∧ (s.setEcc g v).hls = s.hls ∧ (s.setEcc g v).flash = s.flash ∧
    (s.setEcc g v).mgmt = s.mgmt ∧ (s.setEcc g v).therm = s.therm ∧ (s.setEcc g v).ao = s.ao ∧
    (s.setEcc g v).peat = s.peat ∧ (s.setEcc g v).events = s.events ∧ (s.setEcc g v).evtLost = s.evtLost ∧
    (s.setEcc g v).cmds = s.cmds ∧ (s.setEcc g v).reqs = s.reqs ∧ (s.setEcc g v).offers = s.offers ∧
    (s.setEcc g v).freeCtr = s.freeCtr ∧ (s.setEcc g v).reply = s.reply ∧ (s.setEcc g v).nextUid = s.nextUid ∧
    (s.setEcc g v).pending = s.pending :=
  ⟨rfl, rfl, rfl, rfl, rfl, rfl, rfl, rfl, rfl, rfl, rfl, rfl, rfl, rfl, rfl, rfl, rfl, rfl, rfl, rfl,
   rfl, rfl, rfl, rfl, rfl, rfl, rfl, rfl, rfl, rfl, rfl, rfl, rfl, rfl, rfl, rfl, rfl⟩

@[simp] theorem State.finish_frame (s : State) (u a b c d : Nat) :
    (s.finish u a b c d).now = s.now ∧ (s.finish u a b c d).regs = s.regs ∧ (s.finish u a b c d).baseLo = s.baseLo ∧
    (s.finish u a b c d).mem = s.mem ∧ (s.finish u a b c d).ecc = s.ecc ∧ (s.finish u a b c d).tick = s.tick ∧
    (s.finish u a b c d).heads = s.heads ∧ (s.finish u a b c d).slices = s.slices ∧
    (s.finish u a b c d).groups = s.groups ∧ (s.finish u a b c d).pipes = s.pipes ∧
    (s.finish u a b c d).cals = s.cals ∧ (s.finish u a b c d).acts = s.acts ∧ (s.finish u a b c d).actQ = s.actQ ∧
    (s.finish u a b c d).engs = s.engs ∧ (s.finish u a b c d).mires = s.mires ∧ (s.finish u a b c d).arr = s.arr ∧
    (s.finish u a b c d).vids = s.vids ∧ (s.finish u a b c d).vid = s.vid ∧ (s.finish u a b c d).msys = s.msys ∧
    (s.finish u a b c d).dma = s.dma ∧ (s.finish u a b c d).host = s.host ∧
    (s.finish u a b c d).streams = s.streams ∧ (s.finish u a b c d).backlog = s.backlog ∧
    (s.finish u a b c d).hls = s.hls ∧ (s.finish u a b c d).flash = s.flash ∧ (s.finish u a b c d).mgmt = s.mgmt ∧
    (s.finish u a b c d).therm = s.therm ∧ (s.finish u a b c d).ao = s.ao ∧ (s.finish u a b c d).peat = s.peat ∧
    (s.finish u a b c d).events = s.events ∧ (s.finish u a b c d).evtLost = s.evtLost ∧
    (s.finish u a b c d).reqs = s.reqs ∧ (s.finish u a b c d).offers = s.offers ∧
    (s.finish u a b c d).freeCtr = s.freeCtr ∧ (s.finish u a b c d).reply = s.reply ∧
    (s.finish u a b c d).nextUid = s.nextUid ∧ (s.finish u a b c d).pending = s.pending :=
  ⟨rfl, rfl, rfl, rfl, rfl, rfl, rfl, rfl, rfl, rfl, rfl, rfl, rfl, rfl, rfl, rfl, rfl, rfl, rfl, rfl,
   rfl, rfl, rfl, rfl, rfl, rfl, rfl, rfl, rfl, rfl, rfl, rfl, rfl, rfl, rfl, rfl, rfl⟩

@[simp] theorem State.dropReq_frame (s : State) (r : Req) :
    (s.dropReq r).now = s.now ∧ (s.dropReq r).regs = s.regs ∧ (s.dropReq r).baseLo = s.baseLo ∧
    (s.dropReq r).mem = s.mem ∧ (s.dropReq r).ecc = s.ecc ∧ (s.dropReq r).tick = s.tick ∧
    (s.dropReq r).heads = s.heads ∧ (s.dropReq r).slices = s.slices ∧ (s.dropReq r).groups = s.groups ∧
    (s.dropReq r).pipes = s.pipes ∧ (s.dropReq r).cals = s.cals ∧ (s.dropReq r).acts = s.acts ∧
    (s.dropReq r).actQ = s.actQ ∧ (s.dropReq r).engs = s.engs ∧ (s.dropReq r).mires = s.mires ∧
    (s.dropReq r).arr = s.arr ∧ (s.dropReq r).vids = s.vids ∧ (s.dropReq r).vid = s.vid ∧
    (s.dropReq r).msys = s.msys ∧ (s.dropReq r).dma = s.dma ∧ (s.dropReq r).host = s.host ∧
    (s.dropReq r).streams = s.streams ∧ (s.dropReq r).backlog = s.backlog ∧ (s.dropReq r).hls = s.hls ∧
    (s.dropReq r).flash = s.flash ∧ (s.dropReq r).mgmt = s.mgmt ∧ (s.dropReq r).therm = s.therm ∧
    (s.dropReq r).ao = s.ao ∧ (s.dropReq r).peat = s.peat ∧ (s.dropReq r).events = s.events ∧
    (s.dropReq r).evtLost = s.evtLost ∧ (s.dropReq r).cmds = s.cmds ∧ (s.dropReq r).offers = s.offers ∧
    (s.dropReq r).freeCtr = s.freeCtr ∧ (s.dropReq r).reply = s.reply ∧ (s.dropReq r).nextUid = s.nextUid ∧
    (s.dropReq r).pending = s.pending :=
  ⟨rfl, rfl, rfl, rfl, rfl, rfl, rfl, rfl, rfl, rfl, rfl, rfl, rfl, rfl, rfl, rfl, rfl, rfl, rfl, rfl,
   rfl, rfl, rfl, rfl, rfl, rfl, rfl, rfl, rfl, rfl, rfl, rfl, rfl, rfl, rfl, rfl, rfl⟩

@[simp] theorem State.dropCmd_frame (s : State) (c : Cmd) :
    (s.dropCmd c).now = s.now ∧ (s.dropCmd c).regs = s.regs ∧ (s.dropCmd c).baseLo = s.baseLo ∧
    (s.dropCmd c).mem = s.mem ∧ (s.dropCmd c).ecc = s.ecc ∧ (s.dropCmd c).tick = s.tick ∧
    (s.dropCmd c).heads = s.heads ∧ (s.dropCmd c).slices = s.slices ∧ (s.dropCmd c).groups = s.groups ∧
    (s.dropCmd c).pipes = s.pipes ∧ (s.dropCmd c).cals = s.cals ∧ (s.dropCmd c).acts = s.acts ∧
    (s.dropCmd c).actQ = s.actQ ∧ (s.dropCmd c).engs = s.engs ∧ (s.dropCmd c).mires = s.mires ∧
    (s.dropCmd c).arr = s.arr ∧ (s.dropCmd c).vids = s.vids ∧ (s.dropCmd c).vid = s.vid ∧
    (s.dropCmd c).msys = s.msys ∧ (s.dropCmd c).dma = s.dma ∧ (s.dropCmd c).host = s.host ∧
    (s.dropCmd c).streams = s.streams ∧ (s.dropCmd c).backlog = s.backlog ∧ (s.dropCmd c).hls = s.hls ∧
    (s.dropCmd c).flash = s.flash ∧ (s.dropCmd c).mgmt = s.mgmt ∧ (s.dropCmd c).therm = s.therm ∧
    (s.dropCmd c).ao = s.ao ∧ (s.dropCmd c).peat = s.peat ∧ (s.dropCmd c).events = s.events ∧
    (s.dropCmd c).evtLost = s.evtLost ∧ (s.dropCmd c).reqs = s.reqs ∧ (s.dropCmd c).offers = s.offers ∧
    (s.dropCmd c).freeCtr = s.freeCtr ∧ (s.dropCmd c).reply = s.reply ∧ (s.dropCmd c).nextUid = s.nextUid ∧
    (s.dropCmd c).pending = s.pending :=
  ⟨rfl, rfl, rfl, rfl, rfl, rfl, rfl, rfl, rfl, rfl, rfl, rfl, rfl, rfl, rfl, rfl, rfl, rfl, rfl, rfl,
   rfl, rfl, rfl, rfl, rfl, rfl, rfl, rfl, rfl, rfl, rfl, rfl, rfl, rfl, rfl, rfl, rfl⟩

@[simp] theorem State.modHead_head (s : State) (i j : Nat) (f : Head → Head) :
    (s.modHead i f).head j = if j = i then f (s.head i) else s.head j := tget_tset _ _ _ _ _

@[simp] theorem State.modSlice_slice (s : State) (i j : Nat) (f : Slice → Slice) :
    (s.modSlice i f).slice j = if j = i then f (s.slice i) else s.slice j := tget_tset _ _ _ _ _

@[simp] theorem State.modGroup_group (s : State) (i j : Nat) (f : Group → Group) :
    (s.modGroup i f).group j = if j = i then f (s.group i) else s.group j := tget_tset _ _ _ _ _

@[simp] theorem State.modPipe_pipe (s : State) (i j : Nat) (f : Pipe → Pipe) :
    (s.modPipe i f).pipe j = if j = i then f (s.pipe i) else s.pipe j := tget_tset _ _ _ _ _

@[simp] theorem State.modCal_cal (s : State) (i j : Nat) (f : Cal → Cal) :
    (s.modCal i f).cal j = if j = i then f (s.cal i) else s.cal j := tget_tset _ _ _ _ _

@[simp] theorem State.modAct_act (s : State) (i j : Nat) (f : Act → Act) :
    (s.modAct i f).act j = if j = i then f (s.act i) else s.act j := tget_tset _ _ _ _ _

@[simp] theorem State.modEng_eng (s : State) (i j : Nat) (f : Eng → Eng) :
    (s.modEng i f).eng j = if j = i then f (s.eng i) else s.eng j := tget_tset _ _ _ _ _

@[simp] theorem State.modMire_mire (s : State) (i j : Nat) (f : Mire → Mire) :
    (s.modMire i f).mire j = if j = i then f (s.mire i) else s.mire j := tget_tset _ _ _ _ _

@[simp] theorem State.modVidH_vidH (s : State) (i j : Nat) (f : VidHead → VidHead) :
    (s.modVidH i f).vidH j = if j = i then f (s.vidH i) else s.vidH j := tget_tset _ _ _ _ _

@[simp] theorem State.modHl_hl (s : State) (i j : Nat) (f : Hl → Hl) :
    (s.modHl i f).hl j = if j = i then f (s.hl i) else s.hl j := tget_tset _ _ _ _ _

@[simp] theorem State.modArr_arr (s : State) (f : Array_ → Array_) : (s.modArr f).arr = f s.arr := rfl

@[simp] theorem State.modVid_vid (s : State) (f : Vid → Vid) : (s.modVid f).vid = f s.vid := rfl

@[simp] theorem State.modMem_msys (s : State) (f : MemS → MemS) : (s.modMem f).msys = f s.msys := rfl

@[simp] theorem State.modDma_dma (s : State) (f : Dma → Dma) : (s.modDma f).dma = f s.dma := rfl

@[simp] theorem State.modHost_host (s : State) (f : Host_ → Host_) : (s.modHost f).host = f s.host := rfl

@[simp] theorem State.modMgmt_mgmt (s : State) (f : Mgmt → Mgmt) : (s.modMgmt f).mgmt = f s.mgmt := rfl

@[simp] theorem State.modTherm_therm (s : State) (f : Therm → Therm) : (s.modTherm f).therm = f s.therm := rfl

@[simp] theorem State.modAo_ao (s : State) (f : AO → AO) : (s.modAo f).ao = f s.ao := rfl

@[simp] theorem State.modPeat_peat (s : State) (f : Peat → Peat) : (s.modPeat f).peat = f s.peat := rfl

@[simp] theorem State.modChan_chan (s : State) (i j : Nat) (f : Chan → Chan) :
    (s.modChan i f).chan j = if j = i then f (s.chan i) else s.chan j := tget_tset _ _ _ _ _

@[simp] theorem State.at_now (s : State) (t : Nat) : (s.at t).now = max s.now t := rfl

@[simp] theorem State.fresh_freeCtr (s : State) : s.fresh.freeCtr = s.freeCtr + 1 := rfl

/-! ### A command's meaning leaves the queue as it was -/

/-- A meaning always answers a next state, and the queue is untouched. -/
theorem ok_next (f : State → State) (s : State) : ok f s = .next { f s with pending := s.pending } := rfl

theorem ok_pending {f : State → State} {s t : State} (h : ok f s = .next t) : t.pending = s.pending := by
  cases h; rfl

/-- With no fault waiting every absorption has its turn (R364). -/
theorem State.faultTurn_of {s : State} (h : s.ao.faults = []) (row key : Nat) : s.faultTurn row key = true := by
  simp [State.faultTurn, h]

/-- With no burst interrupted nothing resumes. -/
theorem runsEnded_of_calm {s : State} (h : s.calm = true) : s.runsEnded = s := by
  simp only [State.calm, Bool.and_eq_true, Option.isNone_iff_eq_none] at h
  simp [State.runsEnded, State.runOn, List.range, List.range.loop, h.1.2, h.2]
theorem resumed_of_calm {s : State} (h : s.calm = true) : s.resumed = s := by
  simp [State.resumed, runsEnded_of_calm h]
theorem alive_of_calm {s : State} (h : s.calm = true) : s.alive = true := by
  simp only [State.calm, Bool.and_eq_true] at h; exact h.1.1
theorem whenAlive_of {f : State → State} {s : State} (h : s.calm = true) : whenAlive f s = f s := by
  simp [whenAlive, runsEnded_of_calm h, alive_of_calm h]
theorem whenBus_of {f : State → State} {s : State} (h : s.alive = true) : whenBus f s = f s := by simp [whenBus, h]
theorem whenAlive_not {f : State → State} {s : State} (h : s.alive = false) : whenAlive f s = s := by simp [whenAlive, h]
theorem whenThawed_of {f : State → State} {s : State} (h : s.ao.up = true) (hf : s.ao.frozen = false) :
    whenThawed f s = f s := by simp [whenThawed, h, hf]
theorem whenBalls_of {f : State → State} {s : State} (h : s.ballsTaken = false) : whenBalls f s = f s := by
  simp [whenBalls, h]
theorem whenBalls_taken {f : State → State} {s : State} (h : s.ballsTaken = true) : whenBalls f s = s := by
  simp [whenBalls, h]
theorem whenD0_of {f : State → State} {s : State} (h : s.host.d3 = false) : whenD0 f s = f s := by simp [whenD0, h]
theorem whenUp_of {f : State → State} {s : State} (h : s.ao.up = true) : whenUp f s = f s := by simp [whenUp, h]
theorem whenUp_not {f : State → State} {s : State} (h : s.ao.up = false) : whenUp f s = s := by simp [whenUp, h]
theorem whenPowered_of {f : State → State} {s : State} (h : s.ao.step ≠ .off) : whenPowered f s = f s := by
  simp [whenPowered, h]
theorem whenReg_of {o : Nat} {f : State → State} {s : State} (h : s.ao.up = true) (hf : s.ao.frozen = false) :
    whenReg o f s = f s := by simp [whenReg, h, hf]
theorem whenReg_frozen {o : Nat} {f : State → State} {s : State} (h : s.ao.up = true) (hf : s.ao.frozen = true) :
    whenReg o f s = s.latch R.sysErr 12 o (2 ^ 16) := by simp [whenReg, h, hf]

@[simp] theorem mgmtByte_div {op idx : Nat} (ho : op < 4) (hi : idx < 64) : (mgmtByte op idx).toNat / 64 = op := by
  simp only [mgmtByte, BitVec.toNat_ofNat]; omega
@[simp] theorem mgmtByte_mod {op idx : Nat} (hi : idx < 64) : (mgmtByte op idx).toNat % 64 = idx := by
  simp only [mgmtByte, BitVec.toNat_ofNat]; omega
@[simp] theorem mgmtClocks_words (n : Nat) : (mgmtClocks n).length / 4 - 1 = n := by simp [mgmtClocks]

/-- What a frame does, by the OP of its command byte (R294). -/
theorem mgmtFrame_read {idx : Nat} (hi : idx < 64) (n : Nat) (x : List Nat × Bool × Nat) :
    mgmtFrame (mgmtByte 0 idx) (mgmtClocks n) x = mgmtRead idx (n, x) := by
  simp [mgmtFrame, mgmtByte_div, mgmtByte_mod, hi]
theorem mgmtFrame_write {idx : Nat} (hi : idx < 64) (data : List Byte) (x : List Nat × Bool × Nat) :
    mgmtFrame (mgmtByte 1 idx) data x = mgmtWrite idx (data.map (·.toNat)) (x.2.2 != 0) := by
  simp [mgmtFrame, mgmtByte_div, mgmtByte_mod, hi]
theorem mgmtFrame_pageSet {idx : Nat} (hi : idx < 64) (data : List Byte) (x : List Nat × Bool × Nat) :
    mgmtFrame (mgmtByte 2 idx) data x = mgmtPageSet idx (data.map (·.toNat)) (x.2.2 != 0) := by
  simp [mgmtFrame, mgmtByte_div, mgmtByte_mod, hi]
theorem mgmtFrame_aoRead {w : Nat} (hi : w < 32) (n : Nat) (x : List Nat × Bool × Nat) :
    mgmtFrame (mgmtByte 3 w) (mgmtClocks n) x = mgmtAoRead w (n, x) := by
  simp [mgmtFrame, mgmtByte_div, mgmtByte_mod, show w < 64 by omega, hi]
theorem mgmtFrame_aoWrite {w : Nat} (hi : w < 32) (data : List Byte) (x : List Nat × Bool × Nat) :
    mgmtFrame (mgmtByte 3 (32 + w)) data x = mgmtAoWrite w (data.map (·.toNat)) := by
  simp [mgmtFrame, mgmtByte_div, mgmtByte_mod, show 32 + w < 64 by omega]

/-- A frame reaches the port while VIO33 stands and EXTEST leaves the balls alone. -/
theorem mgmtArrive_of {s : State} {op idx : Nat} {data : List Byte} {x : List Nat × Bool × Nat} (p : s.ao.step ≠ .off)
    (b : s.ballsTaken = false) : mgmtArrive op idx data x s = mgmtFrame (mgmtByte op idx) data x s := by
  simp [mgmtArrive, whenPowered_of p, whenBalls_of b]

end Sys2Proof.Machine
end

