-- ==== Sys2Proof/Laws/Register.lean ====
section
/-!
SUPPORT. Fields and bytes: reading after writing.
-/
namespace Sys2Proof.Machine

@[simp] theorem State.setReg_reg (s : State) (o p : Nat) (w : Word) :
    (s.setReg o w).reg p = if p = o then w else s.reg p := tget_tset _ _ _ _ _

@[simp] theorem State.setByte_byte (s : State) (a x : Nat) (b : Byte) :
    (s.setByte a b).byte x = if x = a then b else s.byte x := tget_tset _ _ _ _ _

theorem nbits_lt (w lo len : Nat) : nbits w lo len < 2 ^ len := Nat.mod_lt _ (Nat.two_pow_pos _)

/-- A number apart from bits [lo + len - 1 : lo] of it: the bits above, and those below. -/
theorem nbits_split (w lo len : Nat) :
    w = w / 2 ^ (lo + len) * 2 ^ (lo + len) + nbits w lo len * 2 ^ lo + w % 2 ^ lo := by
  have h1 : w / 2 ^ lo / 2 ^ len = w / 2 ^ (lo + len) := by rw [Nat.div_div_eq_div_mul, Nat.pow_add]
  have h2 := Nat.div_add_mod (w / 2 ^ lo) (2 ^ len)
  have h3 := Nat.div_add_mod w (2 ^ lo)
  have h4 : w / 2 ^ lo = w / 2 ^ (lo + len) * 2 ^ len + nbits w lo len := by
    unfold nbits; rw [← h1, Nat.mul_comm]; exact h2.symm
  calc w = 2 ^ lo * (w / 2 ^ lo) + w % 2 ^ lo := h3.symm
    _ = 2 ^ lo * (w / 2 ^ (lo + len) * 2 ^ len + nbits w lo len) + w % 2 ^ lo := by rw [h4]
    _ = _ := by rw [Nat.pow_add]; ring

/-- The number a word holds once a field of it is replaced. -/
theorem putBits_toNat (w : Word) {lo len : Nat} (h : lo + len ≤ 32) (v : Nat) :
    (putBits w lo len v).toNat =
      w.toNat / 2 ^ (lo + len) * 2 ^ (lo + len) + v % 2 ^ len * 2 ^ lo + w.toNat % 2 ^ lo := by
  have hs := nbits_split w.toNat lo len
  have hv : v % 2 ^ len < 2 ^ len := Nat.mod_lt _ (Nat.two_pow_pos _)
  have hr : w.toNat % 2 ^ lo < 2 ^ lo := Nat.mod_lt _ (Nat.two_pow_pos _)
  have hx : v % 2 ^ len * 2 ^ lo + w.toNat % 2 ^ lo < 2 ^ (lo + len) := by
    have : (v % 2 ^ len + 1) * 2 ^ lo ≤ 2 ^ len * 2 ^ lo := Nat.mul_le_mul_right _ hv
    rw [Nat.pow_add, Nat.mul_comm (2 ^ lo)]
    nlinarith
  have hq : w.toNat / 2 ^ (lo + len) * 2 ^ (lo + len) + 2 ^ (lo + len) ≤ 2 ^ 32 := by
    obtain ⟨k, hk⟩ : ∃ k, 32 = lo + len + k := ⟨32 - (lo + len), by omega⟩
    have hw := w.isLt
    have hd : w.toNat / 2 ^ (lo + len) < 2 ^ k := by
      rw [Nat.div_lt_iff_lt_mul (Nat.two_pow_pos _), ← Nat.pow_add]
      have : k + (lo + len) = 32 := by omega
      rw [this]; exact hw
    have : (w.toNat / 2 ^ (lo + len) + 1) * 2 ^ (lo + len) ≤ 2 ^ k * 2 ^ (lo + len) := Nat.mul_le_mul_right _ hd
    rw [← Nat.pow_add, show k + (lo + len) = 32 by omega] at this
    linarith
  unfold putBits wbits
  rw [BitVec.toNat_ofNat]
  have e : w.toNat - nbits w.toNat lo len * 2 ^ lo + v % 2 ^ len * 2 ^ lo =
      w.toNat / 2 ^ (lo + len) * 2 ^ (lo + len) + v % 2 ^ len * 2 ^ lo + w.toNat % 2 ^ lo := by omega
  rw [e, Nat.mod_eq_of_lt (by omega)]

theorem nbits_of_parts {a b c lo len : Nat} (hb : b < 2 ^ len) (hc : c < 2 ^ lo) :
    nbits (a * 2 ^ (lo + len) + b * 2 ^ lo + c) lo len = b := by
  have h1 : (a * 2 ^ (lo + len) + b * 2 ^ lo + c) / 2 ^ lo = a * 2 ^ len + b := by
    have : a * 2 ^ (lo + len) + b * 2 ^ lo + c = c + 2 ^ lo * (a * 2 ^ len + b) := by rw [Nat.pow_add]; ring
    rw [this, Nat.add_mul_div_left _ _ (Nat.two_pow_pos _), Nat.div_eq_of_lt hc, Nat.zero_add]
  unfold nbits
  rw [h1, Nat.mul_comm, Nat.mul_add_mod, Nat.mod_eq_of_lt hb]

/-- A field reads the value written to it. -/
theorem State.setFld_fld (s : State) (f : Fld) (v : Nat) (h : f.lo + f.len ≤ 32) :
    (s.setFld f v).fld f = v % 2 ^ f.len := by
  simp only [State.fld, State.setFld, State.setReg_reg, if_true, wbits]
  rw [putBits_toNat _ h]
  exact nbits_of_parts (Nat.mod_lt _ (Nat.two_pow_pos _)) (Nat.mod_lt _ (Nat.two_pow_pos _))

/-- A field of another register is unchanged. -/
theorem State.setFld_fld_off (s : State) {f g : Fld} (v : Nat) (h : g.off ≠ f.off) :
    (s.setFld f v).fld g = s.fld g := by
  simp [State.fld, State.setFld, h]

/-- A field of the same register that lies apart is unchanged. -/
theorem State.setFld_fld_bits (s : State) {f g : Fld} (v : Nat) (ho : g.off = f.off) (hf : f.lo + f.len ≤ 32)
    (h : g.lo + g.len ≤ f.lo ∨ f.lo + f.len ≤ g.lo) : (s.setFld f v).fld g = s.fld g := by
  simp only [State.fld, State.setFld, State.setReg_reg, ho, if_true, wbits]
  have hp := putBits_toNat (s.reg f.off) hf v
  have hs := nbits_split (s.reg f.off).toNat f.lo f.len
  have hn := nbits_lt (s.reg f.off).toNat f.lo f.len
  have hv : v % 2 ^ f.len < 2 ^ f.len := Nat.mod_lt _ (Nat.two_pow_pos _)
  generalize (s.reg f.off).toNat = x at *
  generalize v % 2 ^ f.len = y at *
  rw [hp]
  rcases h with h | h
  · -- below: both agree modulo 2 ^ f.lo
    obtain ⟨k, hk⟩ : ∃ k, f.lo = g.lo + g.len + k := ⟨f.lo - (g.lo + g.len), by omega⟩
    have low : ∀ a b : Nat, a % 2 ^ f.lo = b % 2 ^ f.lo → nbits a g.lo g.len = nbits b g.lo g.len := by
      intro a b hab
      have m : ∀ c : Nat, nbits c g.lo g.len = c % 2 ^ f.lo / 2 ^ g.lo % 2 ^ g.len := by
        intro c
        unfold nbits
        rw [hk, Nat.pow_add, Nat.pow_add, Nat.mul_assoc, Nat.mod_mul_right_div_self, Nat.mod_mul_right_mod]
      rw [m, m, hab]
    apply low
    rw [show x / 2 ^ (f.lo + f.len) * 2 ^ (f.lo + f.len) + y * 2 ^ f.lo + x % 2 ^ f.lo
        = x % 2 ^ f.lo + 2 ^ f.lo * (x / 2 ^ (f.lo + f.len) * 2 ^ f.len + y) by rw [Nat.pow_add]; ring,
      Nat.add_mul_mod_self_left, Nat.mod_mod]
  · obtain ⟨k, hk⟩ : ∃ k, g.lo = f.lo + f.len + k := ⟨g.lo - (f.lo + f.len), by omega⟩
    have hr : x % 2 ^ f.lo < 2 ^ f.lo := Nat.mod_lt _ (Nat.two_pow_pos _)
    have high : ∀ z : Nat, z < 2 ^ (f.lo + f.len) →
        nbits (x / 2 ^ (f.lo + f.len) * 2 ^ (f.lo + f.len) + z) g.lo g.len
          = x / 2 ^ (f.lo + f.len) / 2 ^ k % 2 ^ g.len := by
      intro z hz
      unfold nbits
      generalize x / 2 ^ (f.lo + f.len) = q
      rw [hk, Nat.pow_add (m := f.lo + f.len), ← Nat.div_div_eq_div_mul, Nat.add_comm,
        Nat.add_mul_div_right _ _ (Nat.two_pow_pos _), Nat.div_eq_of_lt hz, Nat.zero_add]
    have bound : ∀ b : Nat, b < 2 ^ f.len → b * 2 ^ f.lo + x % 2 ^ f.lo < 2 ^ (f.lo + f.len) := by
      intro b hb
      have : (b + 1) * 2 ^ f.lo ≤ 2 ^ f.len * 2 ^ f.lo := Nat.mul_le_mul_right _ hb
      rw [Nat.pow_add, Nat.mul_comm (2 ^ f.lo)]
      nlinarith
    rw [Nat.add_assoc, high _ (bound y hv)]
    conv_rhs => rw [hs, Nat.add_assoc, high _ (bound _ hn)]

end Sys2Proof.Machine
end

