-- ==== Sys2Proof/Laws/Memory.lean ====
section
/-!
SUPPORT. Memory: bytes read back as they were stored, every other byte stays, and every operation over memory keeps the
canonical form.
-/
namespace Sys2Proof.Machine

/-- A store of bytes changes memory and nothing else. -/
theorem State.putBytes_eq (bs : List Byte) : ∀ (s : State) (a : Nat),
    s.putBytes a bs = { s with mem := (s.putBytes a bs).mem } := by
  induction bs with
  | nil => intro s a; rfl
  | cons b t ih =>
    intro s a
    show (s.setByte a b).putBytes (a + 1) t = _
    rw [ih]; rfl

/-- What each byte reads as after a store of bytes. -/
theorem State.putBytes_byte (bs : List Byte) : ∀ (s : State) (a x : Nat),
    (s.putBytes a bs).byte x = if a ≤ x ∧ x < a + bs.length then bs.getD (x - a) 0 else s.byte x := by
  induction bs with
  | nil => intro s a x; simp only [State.putBytes, List.length_nil]; split <;> first | omega | rfl
  | cons b t ih =>
    intro s a x
    show ((s.setByte a b).putBytes (a + 1) t).byte x = _
    rw [ih, State.setByte_byte]
    simp only [List.length_cons]
    by_cases h : x = a
    · subst h; simp
    · by_cases h1 : a + 1 ≤ x ∧ x < a + 1 + t.length
      · have h2 : a ≤ x ∧ x < a + (t.length + 1) := by omega
        have h3 : x - a = x - (a + 1) + 1 := by omega
        simp [h1, h2, h3]
      · rw [if_neg h1, if_neg h, if_neg (by omega)]

theorem State.putBytes_byte_outside {s : State} {a x : Nat} {bs : List Byte} (h : x < a ∨ a + bs.length ≤ x) :
    (s.putBytes a bs).byte x = s.byte x := by
  rw [State.putBytes_byte, if_neg (by omega)]

theorem leBytes_length (n v : Nat) : (leBytes n v).length = n := by
  induction n generalizing v with
  | zero => rfl
  | succ n ih => simp [leBytes, ih]

@[simp] theorem State.bytes_length (s : State) (a n : Nat) : (s.bytes a n).length = n := by simp [State.bytes]

/-! ### The canonical form -/

theorem State.setByte_wf {s : State} (a : Nat) (b : Byte) (h : Memory.wf s.mem = true) :
    Memory.wf (s.setByte a b).mem = true := twf_tset _ a b h

theorem State.putBytes_wf (bs : List Byte) : ∀ (s : State) (a : Nat), Memory.wf s.mem = true →
    Memory.wf (s.putBytes a bs).mem = true := by
  induction bs with
  | nil => intro s a h; exact h
  | cons b t ih => intro s a h; exact ih _ _ (State.setByte_wf a b h)

theorem State.wr_wf {s : State} (a n v : Nat) (h : Memory.wf s.mem = true) : Memory.wf (s.wr a n v).mem = true :=
  State.putBytes_wf _ _ _ h

theorem Memory.filter_wf {m : Tbl Byte} (f : Nat × Byte → Bool) (h : Memory.wf m = true) : Memory.wf (m.filter f) = true :=
  twf_filter _ f h

/-! ### Accesses of device DRAM: what they leave of memory -/

theorem foldl_mem {α : Type} (f : State → α → State) (hf : ∀ s x, (f s x).mem = s.mem) (l : List α) :
    ∀ s : State, (l.foldl f s).mem = s.mem := by
  induction l with
  | nil => intro s; rfl
  | cons x t ih => intro s; exact (ih _).trans (hf s x)

@[simp] theorem State.handled_mem (s : State) (row stall : Nat) : (s.handled row stall).mem = s.mem := rfl

@[simp] theorem State.peatMet_mem (s : State) (o : Nat) : (s.peatMet o).2.mem = s.mem := by
  unfold State.peatMet; split <;> rfl

@[simp] theorem State.peatDo_mem (s : State) (u : PeatUpd) : (s.peatDo u).2.mem = s.mem := by
  have reads : ∀ (l : List Nat) (p : List Nat × State), (l.foldl (fun (p : List Nat × State) o =>
      (if (p.2.peatMet o).1 then p.1 ++ [o] else p.1, (p.2.peatMet o).2)) p).2.mem = p.2.mem := by
    intro l
    induction l with
    | nil => intro p; rfl
    | cons o l ih => intro p; exact (ih _).trans (State.peatMet_mem p.2 o)
  unfold State.peatDo
  split
  · split <;> rfl
  · exact reads (peatReadsOf u) ([], s)

@[simp] theorem State.raiseOne_mem (s : State) (code obj p0 p1 : Nat) : (s.raiseOne code obj p0 p1).2.mem = s.mem := by
  unfold State.raiseOne
  rw [State.peatDo_mem]
  split <;> rfl

@[simp] theorem State.raise_mem (s : State) (code obj p0 p1 : Nat) : (s.raise code obj p0 p1).mem = s.mem := by
  unfold State.raise
  exact (foldl_mem _ (fun s o => State.raiseOne_mem s _ _ _ _) _ _).trans (State.raiseOne_mem s code obj p0 p1)

@[simp] theorem State.peatUpd_mem (s : State) (u : PeatUpd) : (s.peatUpd u).mem = s.mem := by
  unfold State.peatUpd
  exact (foldl_mem _ (fun s o => State.raise_mem s _ _ _ _) _ _).trans (State.peatDo_mem s u)

@[simp] theorem State.faultBit_mem (s : State) (b : Nat) : (s.faultBit b).mem = s.mem := by
  unfold State.faultBit; simp only []; split <;> rfl

@[simp] theorem State.reqUsed_mem (s : State) (req : Nat) : (s.reqUsed req).mem = s.mem := by
  unfold State.reqUsed; split <;> rfl

@[simp] theorem State.oor_mem (s : State) (req a : Nat) : (s.oor req a).mem = s.mem := by
  unfold State.oor; rw [State.reqUsed_mem, State.raise_mem]; rfl

@[simp] theorem State.eccRead_mem (s : State) (req grp : Nat) : (s.eccRead req grp).mem = s.mem := by
  unfold State.eccRead
  split
  · rfl
  · rw [State.reqUsed_mem, State.faultBit_mem, State.raise_mem]; rfl
  · rfl

@[simp] theorem State.eccWrite_mem (s : State) (req a n grp : Nat) : (s.eccWrite req a n grp).mem = s.mem := by
  unfold State.eccWrite
  split
  · rfl
  · simp only []
    split
    · show ((s.eccRead req grp).setEcc grp 0).mem = s.mem
      exact State.eccRead_mem s req grp
    · exact State.eccRead_mem s req grp

/-- A requester's burst leaves every byte outside it. -/
theorem State.burstWrite_byte_outside {s : State} {req a x : Nat} {bs : List Byte} (h : x < a ∨ a + bs.length ≤ x) :
    (s.burstWrite req a bs).byte x = s.byte x := by
  unfold State.burstWrite
  split
  · rw [State.putBytes_byte_outside h]
    unfold State.byte
    rw [foldl_mem _ fun s g => State.eccWrite_mem s req a bs.length g]
  · unfold State.byte; rw [State.oor_mem]

/-- The bursts of an access lie within it. -/
theorem burstsOf_within {a n : Nat} {b : Nat × Nat} (h : b ∈ burstsOf a n) : a ≤ b.1 ∧ b.1 + b.2 ≤ a + n := by
  unfold burstsOf at h
  split at h
  · cases h
  · obtain ⟨i, hi, rfl⟩ := List.mem_map.mp h
    have := List.mem_range.mp hi
    dsimp only
    omega

/-- A requester's write leaves every byte outside it. -/
theorem State.dramWrite_byte_outside {s : State} {req a x : Nat} {bs : List Byte} (h : x < a ∨ a + bs.length ≤ x) :
    (s.dramWrite req a bs).byte x = s.byte x := by
  unfold State.dramWrite
  split
  · exact State.burstWrite_byte_outside h
  · have key : ∀ l : List (Nat × Nat), (∀ b ∈ l, a ≤ b.1 ∧ b.1 + b.2 ≤ a + bs.length) → ∀ s : State,
        (l.foldl (fun (s : State) b => s.burstWrite req b.1 ((bs.drop (b.1 - a)).take b.2)) s).byte x = s.byte x := by
      intro l
      induction l with
      | nil => intro _ s; rfl
      | cons b t ih =>
        intro hb s
        have hb' := hb b (List.mem_cons_self ..)
        rw [List.foldl_cons, ih (fun c hc => hb c (List.mem_cons_of_mem _ hc)), State.burstWrite_byte_outside]
        rw [List.length_take]
        omega
    exact key _ (fun b hb => burstsOf_within hb) s

/-- What a requester's write inside device DRAM stores. -/
theorem State.dramWrite_byte {s : State} {req a x : Nat} {bs : List Byte} (hd : inDram a bs.length = true) :
    (s.dramWrite req a bs).byte x = if a ≤ x ∧ x < a + bs.length then bs.getD (x - a) 0 else s.byte x := by
  unfold State.dramWrite
  rw [if_pos hd, State.burstWrite, if_pos hd, State.putBytes_byte]
  congr 1
  unfold State.byte
  rw [foldl_mem _ fun s g => State.eccWrite_mem s req a bs.length g]

theorem State.burstWrite_wf {s : State} (req a : Nat) (bs : List Byte) (h : Memory.wf s.mem = true) :
    Memory.wf (s.burstWrite req a bs).mem = true := by
  unfold State.burstWrite
  split
  · apply State.putBytes_wf
    rw [foldl_mem _ fun s g => State.eccWrite_mem s req a bs.length g]; exact h
  · rw [State.oor_mem]; exact h

theorem State.dramWrite_wf {s : State} (req a : Nat) (bs : List Byte) (h : Memory.wf s.mem = true) :
    Memory.wf (s.dramWrite req a bs).mem = true := by
  unfold State.dramWrite
  split
  · exact State.burstWrite_wf _ _ _ h
  · generalize burstsOf a bs.length = l
    induction l generalizing s with
    | nil => exact h
    | cons b t ih => exact ih (State.burstWrite_wf _ _ _ h)

/-- A requester's read leaves memory as it is. -/
theorem State.dramRead_mem (s : State) (req a n : Nat) : (s.dramRead req a n).2.2.mem = s.mem := by
  have one : ∀ (s : State) (a n : Nat), (s.burstRead req a n).2.2.mem = s.mem := by
    intro s a n
    unfold State.burstRead
    split
    · exact foldl_mem _ (fun s g => State.eccRead_mem s req g) _ _
    · exact State.oor_mem s req a
  unfold State.dramRead
  split
  · exact one s a n
  · have key : ∀ (l : List (Nat × Nat)) (p : List Byte × RdKind × State),
        (l.foldl (fun (p : List Byte × RdKind × State) b =>
          let r := p.2.2.burstRead req b.1 b.2
          (p.1 ++ r.1, .refused, r.2.2)) p).2.2.mem = p.2.2.mem := by
      intro l
      induction l with
      | nil => intro p; rfl
      | cons b t ih => intro p; exact (ih _).trans (one _ _ _)
    exact key _ _

theorem State.markPoison_mem (s : State) (a : Nat) (bs : List DByte) : (s.markPoison a bs).mem = s.mem := by
  unfold State.markPoison
  refine foldl_mem _ (fun s g => ?_) _ _
  dsimp only
  split
  · rfl
  · split <;> rfl

theorem State.hostPut_wf {s : State} (a : Nat) (bs : List Byte) (h : Memory.wf s.mem = true) :
    Memory.wf (s.hostPut a bs).mem = true := by
  unfold State.hostPut
  split
  · rw [State.markPoison_mem]; exact State.putBytes_wf _ _ _ h
  · exact h

/-- What a write to host memory over a link that is up stores. -/
theorem State.hostPut_byte {s : State} {a x : Nat} {bs : List Byte} (up : s.host.linkUp = true) :
    (s.hostPut a bs).byte x = if a ≤ x ∧ x < a + bs.length then bs.getD (x - a) 0 else s.byte x := by
  unfold State.hostPut
  rw [if_pos up, ← State.putBytes_byte]
  unfold State.byte
  rw [State.markPoison_mem]

end Sys2Proof.Machine
end

