-- ==== Sys2Proof/Laws/Engine.lean ====
section
/-!
SUPPORT. The engines' memories: what a store, a correction and the start of an instruction do, and that with no error in them
(R160) they do no more than the memory itself.
-/
namespace Sys2Proof.Machine

/-- A store changes the bytes it names, and of the error states only groups it covers. -/
theorem State.engStore_eq (s : State) (a : Nat) (bs : List Byte) :
    s.engStore a bs = { s with mem := (s.putBytes a bs).mem, arr := { s.arr with ecc := (s.engStore a bs).arr.ecc } } := by
  unfold State.engStore State.modArr
  rw [State.putBytes_eq]

theorem State.engStore_wf {s : State} (a : Nat) (bs : List Byte) (h : Memory.wf s.mem = true) :
    Memory.wf (s.engStore a bs).mem = true := State.putBytes_wf bs s a h

/-- With no error in the engines' memories a store is a write of its bytes. -/
theorem State.engStore_clean {s : State} (h : s.arr.ecc = []) (a : Nat) (bs : List Byte) :
    s.engStore a bs = s.putBytes a bs := by
  have k : (s.putBytes a bs).arr = { s.arr with ecc := [] } := by rw [State.putBytes_eq, ← h]
  unfold State.engStore State.modArr
  rw [k]
  show ({ s.putBytes a bs with arr := { s.arr with ecc := [] } } : State) = _
  rw [← k]

theorem State.engMet_clean {s : State} (h : s.arr.ecc = []) (v a n : Nat) : s.engMet v a n = [] := by simp [State.engMet, h]

/-- With no error met, a read corrects nothing. -/
theorem State.engCorrect_clean {s : State} (h : s.arr.ecc = []) (a n : Nat) : s.engCorrect a n = s := by
  simp [State.engCorrect, State.engMet_clean h]

theorem State.engSource_clean {s : State} (h : s.arr.ecc = []) (a n : Nat) : s.engSource a n = some s := by
  simp [State.engSource, State.engMet_clean h, State.engCorrect_clean h]

/-- Stores that become visible bring no error. -/
theorem State.applyStores_clean (l : List (Nat × List Byte)) : ∀ {s : State}, s.arr.ecc = [] → (s.applyStores l).arr.ecc = [] := by
  induction l with
  | nil => exact fun h => h
  | cons x t ih =>
    intro s h
    refine ih (s := s.engStore x.1 x.2) ?_
    rw [State.engStore_clean h, State.putBytes_eq]
    exact h

theorem State.drainStores_clean {s : State} (h : s.arr.ecc = []) (e n : Nat) : (s.drainStores e n).arr.ecc = [] :=
  State.applyStores_clean _ h

/-- With no error in the engines' memories an instruction that issues is its own effect, after some of the engine's earlier
stores (R160, R167). -/
theorem engRun_of {s : State} {e op : Nat} (f : Nat → State → State) (h : s.arr.ecc = []) (i : s.engIssues e = true)
    (o : iOp (s.engWord e) = op) (l : insLegal (s.engWord e) = true) :
    engRun e op f s = f (s.engWord e) (s.drainStores e (Config.drain s.freeCtr)) := by
  have d := State.drainStores_clean h e (Config.drain s.freeCtr)
  have b : (s.drainStores e (Config.drain s.freeCtr)).engBad e = false := by
    simp [State.engBad, State.engMet_clean d]
  have c : ∀ (rs : List (Nat × Nat)) (t : State), t.arr.ecc = [] → rs.foldl (fun s r => s.engCorrect r.1 r.2) t = t := by
    intro rs
    induction rs with
    | nil => exact fun t _ => rfl
    | cons r rs ih =>
      intro t ht
      show rs.foldl _ (t.engCorrect r.1 r.2) = t
      rw [State.engCorrect_clean ht]; exact ih t ht
  simp [engRun, i, o, l, b, c _ _ d]

theorem foldl_wf {α : Type} {f : State → α → State}
    (hf : ∀ s x, Memory.wf s.mem = true → Memory.wf (f s x).mem = true) (l : List α) :
    ∀ s : State, Memory.wf s.mem = true → Memory.wf (l.foldl f s).mem = true := by
  induction l with
  | nil => exact fun _ h => h
  | cons x t ih => exact fun s h => ih _ (hf s x h)

@[simp] theorem State.engCorrect_mem (s : State) (a n : Nat) : (s.engCorrect a n).mem = s.mem := by
  unfold State.engCorrect
  refine foldl_mem _ (fun s g => ?_) _ _
  rfl

@[simp] theorem State.engFault_mem (s : State) (e cause code : Nat) : (s.engFault e cause code).mem = s.mem := rfl

theorem State.engSource_mem {s t : State} {a n : Nat} (h : s.engSource a n = some t) : t.mem = s.mem := by
  unfold State.engSource at h
  split at h
  · cases h; exact State.engCorrect_mem ..
  · cases h

@[simp] theorem State.xferUe_mem (s : State) (e tag : Nat) : (s.xferUe e tag).mem = s.mem := by
  unfold State.xferUe; dsimp only; split <;> rfl

/-- A block transfer keeps the canonical form of memory. -/
theorem State.xferMove_wf {s : State} (e : Nat) (t : Xfer) (p n : Nat) (h : Memory.wf s.mem = true) :
    Memory.wf (s.xferMove e t p n).mem = true := by
  unfold State.xferMove
  dsimp only
  refine foldl_wf (fun s b h => ?_) _ _ ?_
  · split
    · split
      · exact h
      · exact State.engStore_wf _ _ h
    · split
      · split
        · exact h
        · next hs =>
          have h := State.engSource_mem hs ▸ h
          split
          · exact State.dramWrite_wf _ _ _ h
          · exact State.engStore_wf _ _ h
      · split
        · exact h
        · split
          · have h := State.engStore_wf (localDev e (t.loc + 16 * b)) ((((s.dramRead (mireReq (mireOf e))
                (t.farOf (t.loc + 16 * b)) 16).1.zipIdx).map fun (v, i) =>
                  if s.eccOf (t.farOf (t.loc + 16 * b) + i) = 2 then (0 : Byte) else v))
              ((State.dramRead_mem s (mireReq (mireOf e)) (t.farOf (t.loc + 16 * b)) 16).symm ▸ h)
            split
            · exact h
            · rw [State.xferUe_mem]; exact h
          · split
            · exact h
            · next hs => exact State.engStore_wf _ _ (State.engSource_mem hs ▸ h)
  · split <;> split <;> simpa using h

/-- What a burst carries keeps the canonical form of memory. -/
theorem State.carry_wf {s : State} (b : Burst) (q : Nat) (h : Memory.wf s.mem = true) :
    Memory.wf (s.carry b q).1.mem = true := by
  unfold State.carry
  dsimp only
  split
  · exact h
  · split
    · dsimp only
      split
      · exact State.xferMove_wf _ _ _ _ h
      · exact h
    · split
      · exact State.dramWrite_wf _ _ _ h
      · dsimp only; rw [State.dramRead_mem]; exact h

@[simp] theorem State.setRun_mem (s : State) (ch : Nat) (b : Option Burst) : (s.setRun ch b).mem = s.mem := rfl
@[simp] theorem State.answer_mem (s : State) (req kind : Nat) (data : List Byte) : (s.answer req kind data).mem = s.mem := rfl
@[simp] theorem State.fresh_mem (s : State) : s.fresh.mem = s.mem := rfl

theorem State.runBurst_wf {s : State} (ch : Nat) (b : Burst) (cut : Option Nat) (h : Memory.wf s.mem = true) :
    Memory.wf (s.runBurst ch b cut).mem = true := by
  unfold State.runBurst
  dsimp only
  generalize (if inDram b.addr b.len then (cut.map fun k => b.upTo (b.units + k)).getD b.len else b.len) = q
  split
  · rw [State.setRun_mem]; exact State.carry_wf b q h
  · split <;> split <;> simpa using State.carry_wf b q h

theorem State.runsEnded_wf {s : State} (h : Memory.wf s.mem = true) : Memory.wf s.runsEnded.mem = true := by
  unfold State.runsEnded
  refine foldl_wf (fun s ch h => ?_) _ _ h
  split
  · exact State.runBurst_wf _ _ _ h
  · exact h

theorem State.resumed_wf {s : State} (h : Memory.wf s.mem = true) : Memory.wf s.resumed.mem = true := by
  unfold State.resumed
  split
  · exact State.runsEnded_wf h
  · exact h

theorem State.hostWrite_wf {s : State} (a : Nat) (bs : List Byte) (h : Memory.wf s.mem = true) :
    Memory.wf (s.hostWrite a bs).mem = true := by
  unfold State.hostWrite
  split
  · exact State.hostPut_wf _ _ h
  · exact State.dramWrite_wf _ _ _ (State.resumed_wf h)

end Sys2Proof.Machine
end

