-- ==== Sys2Proof/Laws/Peat.lean ====
section
/-!
SUPPORT. The device's own updates of the peat store: where the groups they read are free of errors (R337), an update is its
effect on the array, and an event is its entry in the queue and in the log.
-/
namespace Sys2Proof.Machine

theorem State.peatMet_good {s : State} {o : Nat} (h : tget (fun _ => 0) s.peat.ecc (o / 4) = 0) : s.peatMet o = (false, s) := by
  simp [State.peatMet, h]

/-- An update whose words are free of errors meets none and takes its effect, or waits or is lost while a store runs (R341). -/
theorem State.peatDo_good {s : State} {u : PeatUpd} (h : ∀ o ∈ peatReadsOf u, tget (fun _ => 0) s.peat.ecc (o / 4) = 0) :
    s.peatDo u = ([], if s.peat.storing = true then
        (if s.peat.queue.length < 64 then { s with peat := { s.peat with queue := s.peat.queue ++ [u] } }
         else s.bump R.peatLogLost)
      else { s with peat := peatApply s.peat u }) := by
  have k : ∀ l : List Nat, (∀ o ∈ l, tget (fun _ => 0) s.peat.ecc (o / 4) = 0) →
      l.foldl (fun (p : List Nat × State) o =>
        let m := p.2.peatMet o
        (if m.1 then p.1 ++ [o] else p.1, m.2)) ([], s) = ([], s) := by
    intro l
    induction l with
    | nil => exact fun _ => rfl
    | cons o l ih =>
      intro hl
      rw [List.foldl_cons, State.peatMet_good (hl o List.mem_cons_self)]
      exact ih fun x hx => hl x (List.mem_cons_of_mem _ hx)
  unfold State.peatDo
  rw [k _ h]
  split
  · split <;> rfl
  · rfl

/-- Where the words that a log entry reads are free of errors, an event raises no other (R337, R348). -/
theorem State.raise_of_logReads {s : State} (h : s.logReads = true) (code obj p0 p1 : Nat) :
    s.raise code obj p0 p1 = (s.raiseOne code obj p0 p1).2 := by
  have g : ∀ o ∈ peatReadsOf (.log 0 0 0 0 0 0), tget (fun _ => 0) s.peat.ecc (o / 4) = 0 := by
    simpa [State.logReads, peatReadsOf] using h
  have r : (s.raiseOne code obj p0 p1).1 = [] := by
    unfold State.raiseOne
    dsimp only
    rw [State.peatDo_good]
    intro o ho
    have := g o ho
    split <;> simpa using this
  simp [State.raise, r]

end Sys2Proof.Machine
end

