-- ==== Sys2Proof/Laws/PerInstr.lean ====
section
/-!
SUPPORT. One statement for every command: as the opcode table gives its rows no bits, no word spells it.
-/
namespace Sys2Proof.Laws.Spelled

/-- No word of the opcode table spells the command. -/
def Statement (i : Instr) : Prop := ∀ nbits w : Nat, decodeTableWord nbits w ≠ some i

theorem of_no_bits (i : Instr) : Statement i := fun _ _ h => nomatch h

theorem registerWrite (o : BitVec 24) (w : BitVec 32) (word : Bool) (fw : Bool) : Statement (.registerWrite o w word fw) := of_no_bits _
theorem baseHiWrite (o : BitVec 24) (w : BitVec 32) (fw : Bool) : Statement (.baseHiWrite o w fw) := of_no_bits _
theorem tickEnable : Statement (.tickEnable) := of_no_bits _
theorem timerTick : Statement (.timerTick) := of_no_bits _
theorem fsyncInPulse (t : Nat) : Statement (.fsyncInPulse t) := of_no_bits _
theorem fsyncWindowMiss : Statement (.fsyncWindowMiss) := of_no_bits _
theorem tickSourceLost : Statement (.tickSourceLost) := of_no_bits _
theorem fsyncOutPulseEnd : Statement (.fsyncOutPulseEnd) := of_no_bits _
theorem commitPoint : Statement (.commitPoint) := of_no_bits _
theorem engineBarrierRelease : Statement (.engineBarrierRelease) := of_no_bits _
theorem tsyncInEdge (t : Nat) : Statement (.tsyncInEdge t) := of_no_bits _
theorem tickPoweredNsLoRead : Statement (.tickPoweredNsLoRead) := of_no_bits _
theorem hdetNChange (h : Fin 4) (high : Bool) (t : Nat) : Statement (.hdetNChange h high t) := of_no_bits _
theorem presenceAccepted (h : Fin 4) : Statement (.presenceAccepted h) := of_no_bits _
theorem headPwrSettleElapsed (h : Fin 4) : Statement (.headPwrSettleElapsed h) := of_no_bits _
theorem biasRampDone (h : Fin 4) : Statement (.biasRampDone h) := of_no_bits _
theorem headTimingStart (h : Fin 4) : Statement (.headTimingStart h) := of_no_bits _
theorem headBiasWrite (h : Fin 4) (k : Fin 8) (code : BitVec 16) : Statement (.headBiasWrite h k code) := of_no_bits _
theorem biasFault (h : Fin 4) (k : Fin 8) : Statement (.biasFault h k) := of_no_bits _
theorem headClkStart (h : Fin 4) : Statement (.headClkStart h) := of_no_bits _
theorem headClkStop (h : Fin 4) : Statement (.headClkStop h) := of_no_bits _
theorem headCtlRunStart (h : Fin 4) : Statement (.headCtlRunStart h) := of_no_bits _
theorem headCtlRunDetach (h : Fin 4) : Statement (.headCtlRunDetach h) := of_no_bits _
theorem headStartCommit (h : Fin 4) : Statement (.headStartCommit h) := of_no_bits _
theorem detachCommit (h : Fin 4) : Statement (.detachCommit h) := of_no_bits _
theorem drainComplete (h : Fin 4) : Statement (.drainComplete h) := of_no_bits _
theorem detachComplete (h : Fin 4) : Statement (.detachComplete h) := of_no_bits _
theorem headFrameStart (h : Fin 4) : Statement (.headFrameStart h) := of_no_bits _
theorem referenceEvaluation (h : Fin 4) : Statement (.referenceEvaluation h) := of_no_bits _
theorem acodeLoad (h : Fin 4) (r : Nat) (c : Nat) : Statement (.acodeLoad h r c) := of_no_bits _
theorem pixelConversion (h : Fin 4) (r : Nat) (j : Nat) (k : Fin 36) (v : Int) (o : Int) (err : Bool) : Statement (.pixelConversion h r j k v o err) := of_no_bits _
theorem calRow (h : Fin 4) (r : Nat) (codes : List (Nat × List (Nat × Bool))) (stand : List (Nat × Nat × List Nat)) : Statement (.calRow h r codes stand) := of_no_bits _
theorem calResult (h : Fin 4) (l : Fin 38) : Statement (.calResult h l) := of_no_bits _
theorem sliceFailing (h : Fin 4) (l : Fin 38) : Statement (.sliceFailing h l) := of_no_bits _
theorem spareCalResult (h : Fin 4) (l : Fin 38) (cs es : List Nat) : Statement (.spareCalResult h l cs es) := of_no_bits _
theorem hardFaultDetected (h : Fin 4) (l : Fin 38) : Statement (.hardFaultDetected h l) := of_no_bits _
theorem stuckDetected (h : Fin 4) (l : Fin 38) : Statement (.stuckDetected h l) := of_no_bits _
theorem takeover (h : Fin 4) : Statement (.takeover h) := of_no_bits _
theorem spareTakesTap (h : Fin 4) (l : Fin 38) (r : Nat) : Statement (.spareTakesTap h l r) := of_no_bits _
theorem requalifyDone (h : Fin 4) (l : Fin 38) (t : Nat) : Statement (.requalifyDone h l t) := of_no_bits _
theorem trainingStart (h : Fin 4) : Statement (.trainingStart h) := of_no_bits _
theorem thresholdTrainingResult (h : Fin 4) (l : Fin 38) (errs : List (List Bool)) (lost : Bool) : Statement (.thresholdTrainingResult h l errs lost) := of_no_bits _
theorem phaseTrainingResult (h : Fin 4) (tap : Fin 36) (steps : List (List (Nat × Nat))) (lost : Bool) : Statement (.phaseTrainingResult h tap steps lost) := of_no_bits _
theorem trainingDone (h : Fin 4) : Statement (.trainingDone h) := of_no_bits _
theorem afeCmdTrain (g : Fin 4) : Statement (.afeCmdTrain g) := of_no_bits _
theorem afeCmdSwap (g : Fin 4) (l : Fin 64) : Statement (.afeCmdSwap g l) := of_no_bits _
theorem afeCmdRequalify (g : Fin 4) (l : Fin 64) : Statement (.afeCmdRequalify g l) := of_no_bits _
theorem rowFetchIssue (h : Fin 4) (no : Nat) (q : Nat) : Statement (.rowFetchIssue h no q) := of_no_bits _
theorem rowFetchDone (h : Fin 4) (q : Nat) : Statement (.rowFetchDone h q) := of_no_bits _
theorem pixelCorrection (h : Fin 4) (r : Nat) (c : Nat) : Statement (.pixelCorrection h r c) := of_no_bits _
theorem lateFillDone (h : Fin 4) (r : Nat) (c : Nat) : Statement (.lateFillDone h r c) := of_no_bits _
theorem rowComplete (h : Fin 4) (r : Nat) : Statement (.rowComplete h r) := of_no_bits _
theorem frameLanded (h : Fin 4) : Statement (.frameLanded h) := of_no_bits _
theorem corrLoffWrite (h : Fin 4) (v : BitVec 32) : Statement (.corrLoffWrite h v) := of_no_bits _
theorem corrBankGenWrite (h : Fin 4) (b : Fin 2) (gen : BitVec 16) : Statement (.corrBankGenWrite h b gen) := of_no_bits _
theorem calCmdRequest (h : Fin 4) : Statement (.calCmdRequest h) := of_no_bits _
theorem calCmdAbort (h : Fin 4) : Statement (.calCmdAbort h) := of_no_bits _
theorem calCmdLoadOpen (h : Fin 4) (b : Fin 2) : Statement (.calCmdLoadOpen h b) := of_no_bits _
theorem calCmdLoadClose (h : Fin 4) (b : Fin 2) : Statement (.calCmdLoadClose h b) := of_no_bits _
theorem calCmdActivate (h : Fin 4) (b : Fin 2) (gen : BitVec 16) : Statement (.calCmdActivate h b gen) := of_no_bits _
theorem lutRefillDone (h : Fin 4) : Statement (.lutRefillDone h) := of_no_bits _
theorem activationCommit (h : Fin 4) : Statement (.activationCommit h) := of_no_bits _
theorem calIntervalTrigger (h : Fin 4) : Statement (.calIntervalTrigger h) := of_no_bits _
theorem calRequestCommit (h : Fin 4) : Statement (.calRequestCommit h) := of_no_bits _
theorem calClosingStart (h : Fin 4) : Statement (.calClosingStart h) := of_no_bits _
theorem calClosingEnd (h : Fin 4) : Statement (.calClosingEnd h) := of_no_bits _
theorem calPositionTimeout (h : Fin 4) : Statement (.calPositionTimeout h) := of_no_bits _
theorem calSettleDone (h : Fin 4) : Statement (.calSettleDone h) := of_no_bits _
theorem calAverageFrame (h : Fin 4) (r : Nat) (c : Nat) : Statement (.calAverageFrame h r c) := of_no_bits _
theorem calBuildFrameStart (h : Fin 4) : Statement (.calBuildFrameStart h) := of_no_bits _
theorem calVerdict (h : Fin 4) : Statement (.calVerdict h) := of_no_bits _
theorem calOpeningEnd (h : Fin 4) : Statement (.calOpeningEnd h) := of_no_bits _
theorem calOpenSettleDone (h : Fin 4) : Statement (.calOpenSettleDone h) := of_no_bits _
theorem calLiveFrame (h : Fin 4) : Statement (.calLiveFrame h) := of_no_bits _
theorem abandonHoldExpired (h : Fin 4) : Statement (.abandonHoldExpired h) := of_no_bits _
theorem tableRepair (h : Fin 4) (b : Fin 2) (idx : Nat) : Statement (.tableRepair h b idx) := of_no_bits _
theorem radiometricRepair (h : Fin 4) (b : Fin 2) : Statement (.radiometricRepair h b) := of_no_bits _
theorem actCmdStart (c : Fin 8) (slot : Fin 4) (atTick : Bool) : Statement (.actCmdStart c slot atTick) := of_no_bits _
theorem actCmdStop (c : Fin 8) : Statement (.actCmdStop c) := of_no_bits _
theorem actCmdClear (c : Fin 8) : Statement (.actCmdClear c) := of_no_bits _
theorem actStartAtTick (c : Fin 8) : Statement (.actStartAtTick c) := of_no_bits _
theorem actMinoffElapsed (c : Fin 8) : Statement (.actMinoffElapsed c) := of_no_bits _
theorem actQueueRelease : Statement (.actQueueRelease) := of_no_bits _
theorem actPhaseEnd (r : Fin 8 × (Int × Int) × Nat) : Statement (.actPhaseEnd r) := of_no_bits _
theorem actProfileEnd (c : Fin 8) (i : (Int × Int) × Nat) (q : Nat) : Statement (.actProfileEnd c i q) := of_no_bits _
theorem actuatorFault (c : Fin 8) (m : List (Bool × Int × Int) × Nat × List Nat × Nat) : Statement (.actuatorFault c m) := of_no_bits _
theorem aposChange (c : Fin 8) (x : Bool × Nat) : Statement (.aposChange c x) := of_no_bits _
theorem senseZeroCal (c : Fin 8) (v : Int) : Statement (.senseZeroCal c v) := of_no_bits _
theorem chargeBinAdvance (c : Fin 8) (q : Nat) (i : Int × Int) : Statement (.chargeBinAdvance c q i) := of_no_bits _
theorem actPhaseWrite (c : Fin 8) (slot : Fin 4) (p : Fin 8) (w : BitVec 32) : Statement (.actPhaseWrite c slot p w) := of_no_bits _
theorem engNop (e : Fin 192) : Statement (.engNop e) := of_no_bits _
theorem engAdd (e : Fin 192) : Statement (.engAdd e) := of_no_bits _
theorem engSub (e : Fin 192) : Statement (.engSub e) := of_no_bits _
theorem engMul (e : Fin 192) : Statement (.engMul e) := of_no_bits _
theorem engAnd (e : Fin 192) : Statement (.engAnd e) := of_no_bits _
theorem engOr (e : Fin 192) : Statement (.engOr e) := of_no_bits _
theorem engXor (e : Fin 192) : Statement (.engXor e) := of_no_bits _
theorem engShl (e : Fin 192) : Statement (.engShl e) := of_no_bits _
theorem engShr (e : Fin 192) : Statement (.engShr e) := of_no_bits _
theorem engSra (e : Fin 192) : Statement (.engSra e) := of_no_bits _
theorem engSlt (e : Fin 192) : Statement (.engSlt e) := of_no_bits _
theorem engLi (e : Fin 192) : Statement (.engLi e) := of_no_bits _
theorem engRshr (e : Fin 192) : Statement (.engRshr e) := of_no_bits _
theorem engSat (e : Fin 192) : Statement (.engSat e) := of_no_bits _
theorem engLd (e : Fin 192) : Statement (.engLd e) := of_no_bits _
theorem engSt (e : Fin 192) : Statement (.engSt e) := of_no_bits _
theorem engAmo (e : Fin 192) : Statement (.engAmo e) := of_no_bits _
theorem engFence (e : Fin 192) : Statement (.engFence e) := of_no_bits _
theorem engBr (e : Fin 192) : Statement (.engBr e) := of_no_bits _
theorem engCall (e : Fin 192) : Statement (.engCall e) := of_no_bits _
theorem engJr (e : Fin 192) : Statement (.engJr e) := of_no_bits _
theorem engLoop (e : Fin 192) : Statement (.engLoop e) := of_no_bits _
theorem engCsr (e : Fin 192) : Statement (.engCsr e) := of_no_bits _
theorem engDone (e : Fin 192) : Statement (.engDone e) := of_no_bits _
theorem engTrap (e : Fin 192) : Statement (.engTrap e) := of_no_bits _
theorem engBlkget (e : Fin 192) : Statement (.engBlkget e) := of_no_bits _
theorem engBlkput (e : Fin 192) : Statement (.engBlkput e) := of_no_bits _
theorem engWait (e : Fin 192) : Statement (.engWait e) := of_no_bits _
theorem engVld (e : Fin 192) : Statement (.engVld e) := of_no_bits _
theorem engVst (e : Fin 192) : Statement (.engVst e) := of_no_bits _
theorem engVadd (e : Fin 192) : Statement (.engVadd e) := of_no_bits _
theorem engVsub (e : Fin 192) : Statement (.engVsub e) := of_no_bits _
theorem engVmulr (e : Fin 192) : Statement (.engVmulr e) := of_no_bits _
theorem engVmac (e : Fin 192) : Statement (.engVmac e) := of_no_bits _
theorem engVacc (e : Fin 192) : Statement (.engVacc e) := of_no_bits _
theorem engVminmax (e : Fin 192) : Statement (.engVminmax e) := of_no_bits _
theorem engVlogic (e : Fin 192) : Statement (.engVlogic e) := of_no_bits _
theorem engVcmp (e : Fin 192) : Statement (.engVcmp e) := of_no_bits _
theorem engVsh (e : Fin 192) : Statement (.engVsh e) := of_no_bits _
theorem engVsplat (e : Fin 192) : Statement (.engVsplat e) := of_no_bits _
theorem engVred (e : Fin 192) : Statement (.engVred e) := of_no_bits _
theorem engVperm (e : Fin 192) : Statement (.engVperm e) := of_no_bits _
theorem engVlut (e : Fin 192) : Statement (.engVlut e) := of_no_bits _
theorem engVhist (e : Fin 192) : Statement (.engVhist e) := of_no_bits _
theorem engVext (e : Fin 192) : Statement (.engVext e) := of_no_bits _
theorem illegalInstruction (e : Fin 192) : Statement (.illegalInstruction e) := of_no_bits _
theorem tileStart (e : Fin 192) : Statement (.tileStart e) := of_no_bits _
theorem blockTransferDone (e : Fin 192) (tag : Nat) : Statement (.blockTransferDone e tag) := of_no_bits _
theorem engineFault (e : Fin 192) (cause : Fin 16) : Statement (.engineFault e cause) := of_no_bits _
theorem taskDropped (i : Fin 64) : Statement (.taskDropped i) := of_no_bits _
theorem engineRestart (e : Fin 192) : Statement (.engineRestart e) := of_no_bits _
theorem governorBundle : Statement (.governorBundle) := of_no_bits _
theorem taskDeclare (n : Fin 128) : Statement (.taskDeclare n) := of_no_bits _
theorem taskDeclareCommit : Statement (.taskDeclareCommit) := of_no_bits _
theorem engCmdReload (m : Fin 8) : Statement (.engCmdReload m) := of_no_bits _
theorem engCmdRequalify (m : Fin 8) (j : Fin 32) : Statement (.engCmdRequalify m j) := of_no_bits _
theorem imageStaged (m : Fin 8) : Statement (.imageStaged m) := of_no_bits _
theorem reloadCommit (m : Fin 8) : Statement (.reloadCommit m) := of_no_bits _
theorem engineRequalifyDone (e : Fin 192) (pass : Bool) : Statement (.engineRequalifyDone e pass) := of_no_bits _
theorem engBcastGo (mask : BitVec 8) : Statement (.engBcastGo mask) := of_no_bits _
theorem broadcastCommit : Statement (.broadcastCommit) := of_no_bits _
theorem memoryPathFrame (h : Fin 4) : Statement (.memoryPathFrame h) := of_no_bits _
theorem compositeDone (h : Fin 4) : Statement (.compositeDone h) := of_no_bits _
theorem inlineLine : Statement (.inlineLine) := of_no_bits _
theorem vidInlineWrite (h : Fin 4) (en : Bool) : Statement (.vidInlineWrite h en) := of_no_bits _
theorem inlineChangeApply : Statement (.inlineChangeApply) := of_no_bits _
theorem inlineFallback : Statement (.inlineFallback) := of_no_bits _
theorem vidHeadCtlWrite (h : Fin 4) (w : BitVec 32) : Statement (.vidHeadCtlWrite h w) := of_no_bits _
theorem paletteWrite (p : Fin 8) (i : Fin 256) (v : BitVec 32) : Statement (.paletteWrite p i v) := of_no_bits _
theorem rxPacket (dt : Nat) (vc : Nat) (ecc : Nat) (crcOk : Bool) (data : List Nat) : Statement (.rxPacket dt vc ecc crcOk data) := of_no_bits _
theorem rxFrameEnd : Statement (.rxFrameEnd) := of_no_bits _
theorem visibleTimeout : Statement (.visibleTimeout) := of_no_bits _
theorem l3Commit (h : Fin 4) (hi : BitVec 32) : Statement (.l3Commit h hi) := of_no_bits _
theorem l3CopyDone (h : Fin 4) : Statement (.l3CopyDone h) := of_no_bits _
theorem txFrame (h : Fin 4) : Statement (.txFrame h) := of_no_bits _
theorem dramBurst (ch : Fin 2) (arr : List (Fin 8 × Bool × Nat × Nat × List (Byte))) (cut : Option Nat) (t : Nat) :
    Statement (.dramBurst ch arr cut t) := of_no_bits _
theorem refresh : Statement (.refresh) := of_no_bits _
theorem debugAccess (wr : Bool) (a : Nat) (n : Nat) (data : List (Byte)) : Statement (.debugAccess wr a n data) := of_no_bits _
theorem starvation (i : Fin 16) (t : Nat) : Statement (.starvation i t) := of_no_bits _
theorem rebalance (i : Fin 16) : Statement (.rebalance i) := of_no_bits _
theorem ticketWrite (i : Fin 16) (v : BitVec 8) : Statement (.ticketWrite i v) := of_no_bits _
theorem inheritWrite (b : Bool) : Statement (.inheritWrite b) := of_no_bits _
theorem etktWrite (v : BitVec 4) : Statement (.etktWrite v) := of_no_bits _
theorem requesterReset (mask : BitVec 16) : Statement (.requesterReset mask) := of_no_bits _
theorem scrubBlock (table : Bool) : Statement (.scrubBlock table) := of_no_bits _
theorem memRgnKindWrite (k : Fin 32) (v : BitVec 32) : Statement (.memRgnKindWrite k v) := of_no_bits _
theorem dmaDoorbell (c : Fin 16) (fw : Bool) : Statement (.dmaDoorbell c fw) := of_no_bits _
theorem dmaHeadWrite (c : Fin 16) (hi : BitVec 32) (fw : Bool) : Statement (.dmaHeadWrite c hi fw) := of_no_bits _
theorem dmaCmdAbort (c : Fin 16) (fw : Bool) : Statement (.dmaCmdAbort c fw) := of_no_bits _
theorem dmaHaltClr : Statement (.dmaHaltClr) := of_no_bits _
theorem channelSelect : Statement (.channelSelect) := of_no_bits _
theorem descriptorCheck : Statement (.descriptorCheck) := of_no_bits _
theorem dmaChunk : Statement (.dmaChunk) := of_no_bits _
theorem descriptorComplete : Statement (.descriptorComplete) := of_no_bits _
theorem busError (cause : Fin 4) (a : Nat) : Statement (.busError cause a) := of_no_bits _
theorem sqTailDoorbell (q : Fin 8) (w : BitVec 32) (word : Bool) : Statement (.sqTailDoorbell q w word) := of_no_bits _
theorem cqHeadDoorbell (c : Fin 8) (w : BitVec 32) (word : Bool) : Statement (.cqHeadDoorbell c w word) := of_no_bits _
theorem bqTailDoorbell (b : Fin 8) (w : BitVec 32) (word : Bool) : Statement (.bqTailDoorbell b w word) := of_no_bits _
theorem dqHeadDoorbell (d : Fin 8) (w : BitVec 32) (word : Bool) : Statement (.dqHeadDoorbell d w word) := of_no_bits _
theorem ringEnable (k : Fin 32) : Statement (.ringEnable k) := of_no_bits _
theorem commandFetch (q : Fin 8) : Statement (.commandFetch q) := of_no_bits _
theorem unknownOpcode (src : Fin 10) : Statement (.unknownOpcode src) := of_no_bits _
theorem completionWrite (c : Fin 8) (src : Fin 11) : Statement (.completionWrite c src) := of_no_bits _
theorem msixCoalesceTimeout (k : Fin 16) : Statement (.msixCoalesceTimeout k) := of_no_bits _
theorem cqStall (c : Fin 8) : Statement (.cqStall c) := of_no_bits _
theorem eventWrite : Statement (.eventWrite) := of_no_bits _
theorem frameDelivery (i : Nat) (torn : Bool) : Statement (.frameDelivery i torn) := of_no_bits _
theorem nodataHeader (i : Nat) : Statement (.nodataHeader i) := of_no_bits _
theorem streamBindCommit (h : Fin 4) : Statement (.streamBindCommit h) := of_no_bits _
theorem pcieReset : Statement (.pcieReset) := of_no_bits _
theorem linkRestored (width : BitVec 4) (rate : BitVec 4) : Statement (.linkRestored width rate) := of_no_bits _
theorem bar4Access (wr : Bool) (x : Fin 4 × BitVec 28) (n : Nat) (data : List (Byte)) : Statement (.bar4Access wr x n data) := of_no_bits _
theorem hostMbxGo : Statement (.hostMbxGo) := of_no_bits _
theorem hostMbxCpl3Read : Statement (.hostMbxCpl3Read) := of_no_bits _
theorem hostMbxEvt3Read : Statement (.hostMbxEvt3Read) := of_no_bits _
theorem cmdNop (src : Fin 10) : Statement (.cmdNop src) := of_no_bits _
theorem identify (src : Fin 10) : Statement (.identify src) := of_no_bits _
theorem regRead (src : Fin 10) : Statement (.regRead src) := of_no_bits _
theorem regWrite (src : Fin 10) : Statement (.regWrite src) := of_no_bits _
theorem tickSet (src : Fin 10) : Statement (.tickSet src) := of_no_bits _
theorem headConfig (src : Fin 10) : Statement (.headConfig src) := of_no_bits _
theorem headAttach (src : Fin 10) : Statement (.headAttach src) := of_no_bits _
theorem headStart (src : Fin 10) : Statement (.headStart src) := of_no_bits _
theorem headDetach (src : Fin 10) : Statement (.headDetach src) := of_no_bits _
theorem headLink (src : Fin 10) : Statement (.headLink src) := of_no_bits _
theorem afeTrain (src : Fin 10) : Statement (.afeTrain src) := of_no_bits _
theorem afeSwap (src : Fin 10) : Statement (.afeSwap src) := of_no_bits _
theorem afeRequalify (src : Fin 10) : Statement (.afeRequalify src) := of_no_bits _
theorem tableOpen (src : Fin 10) : Statement (.tableOpen src) := of_no_bits _
theorem tableClose (src : Fin 10) : Statement (.tableClose src) := of_no_bits _
theorem tableActivate (src : Fin 10) : Statement (.tableActivate src) := of_no_bits _
theorem shutter (src : Fin 10) : Statement (.shutter src) := of_no_bits _
theorem shutterAbort (src : Fin 10) : Statement (.shutterAbort src) := of_no_bits _
theorem outputSet (src : Fin 10) : Statement (.outputSet src) := of_no_bits _
theorem emissivity (src : Fin 10) : Statement (.emissivity src) := of_no_bits _
theorem actSetup (src : Fin 10) : Statement (.actSetup src) := of_no_bits _
theorem actStart (src : Fin 10) : Statement (.actStart src) := of_no_bits _
theorem actStop (src : Fin 10) : Statement (.actStop src) := of_no_bits _
theorem actClear (src : Fin 10) : Statement (.actClear src) := of_no_bits _
theorem engReload (src : Fin 10) : Statement (.engReload src) := of_no_bits _
theorem engDeclare (src : Fin 10) : Statement (.engDeclare src) := of_no_bits _
theorem engRequalify (src : Fin 10) : Statement (.engRequalify src) := of_no_bits _
theorem engBroadcast (src : Fin 10) : Statement (.engBroadcast src) := of_no_bits _
theorem taskWisoa (src : Fin 10) : Statement (.taskWisoa src) := of_no_bits _
theorem vidInline (src : Fin 10) : Statement (.vidInline src) := of_no_bits _
theorem vidTone (src : Fin 10) : Statement (.vidTone src) := of_no_bits _
theorem vidLayers (src : Fin 10) : Statement (.vidLayers src) := of_no_bits _
theorem vidL3 (src : Fin 10) : Statement (.vidL3 src) := of_no_bits _
theorem vidOut (src : Fin 10) : Statement (.vidOut src) := of_no_bits _
theorem vidRx (src : Fin 10) : Statement (.vidRx src) := of_no_bits _
theorem memTickets (src : Fin 10) : Statement (.memTickets src) := of_no_bits _
theorem dmaCopy (src : Fin 10) : Statement (.dmaCopy src) := of_no_bits _
theorem dmaAbort (src : Fin 10) : Statement (.dmaAbort src) := of_no_bits _
theorem streamBind (src : Fin 10) : Statement (.streamBind src) := of_no_bits _
theorem streamUnbind (src : Fin 10) : Statement (.streamUnbind src) := of_no_bits _
theorem thermCap (src : Fin 10) : Statement (.thermCap src) := of_no_bits _
theorem peatRead (src : Fin 10) : Statement (.peatRead src) := of_no_bits _
theorem peatWrite (src : Fin 10) : Statement (.peatWrite src) := of_no_bits _
theorem fwStage (src : Fin 10) (fail : Bool) : Statement (.fwStage src fail) := of_no_bits _
theorem fwSwitch (src : Fin 10) : Statement (.fwSwitch src) := of_no_bits _
theorem freeze (src : Fin 10) : Statement (.freeze src) := of_no_bits _
theorem thaw (src : Fin 10) : Statement (.thaw src) := of_no_bits _
theorem mgmtRead (idx : Fin 64) (f : Nat × List Nat × Bool × Nat) : Statement (.mgmtRead idx f) := of_no_bits _
theorem mgmtWrite (idx : Fin 64) (data : List (Byte) × Bool) : Statement (.mgmtWrite idx data) := of_no_bits _
theorem mgmtPageSet (idx : Fin 64) (data : List (Byte) × Bool) : Statement (.mgmtPageSet idx data) := of_no_bits _
theorem mgmtAoRead (w : Fin 32) (f : Nat × List Nat × Bool × Nat) : Statement (.mgmtAoRead w f) := of_no_bits _
theorem mgmtAoWrite (w : Fin 32) (data : List (Byte)) : Statement (.mgmtAoWrite w data) := of_no_bits _
theorem mgmtTimeout : Statement (.mgmtTimeout) := of_no_bits _
theorem mgmtSellowClear : Statement (.mgmtSellowClear) := of_no_bits _
theorem spiHlQgo (n : Fin 4) (w : BitVec 2) : Statement (.spiHlQgo n w) := of_no_bits _
theorem hlEntry (n : Fin 4) (rx : List (BitVec 32) × Option (Nat × Bool)) : Statement (.hlEntry n rx) := of_no_bits _
theorem hlQueueDone (n : Fin 4) : Statement (.hlQueueDone n) := of_no_bits _
theorem flashGo (w : BitVec 2) (rx : List (Byte) × Nat × Option Nat) : Statement (.flashGo w rx) := of_no_bits _
theorem flashPoll (status : BitVec 8) : Statement (.flashPoll status) := of_no_bits _
theorem flashPollTimeout : Statement (.flashPollTimeout) := of_no_bits _
theorem xipRead (ctrl : Bool) (a : Nat) (n : Nat) : Statement (.xipRead ctrl a n) := of_no_bits _
theorem thermSample (k : Fin 16) (v : Int) (t : Nat) : Statement (.thermSample k v t) := of_no_bits _
theorem sensorRecovered (k : Fin 16) : Statement (.sensorRecovered k) := of_no_bits _
theorem throttleStep : Statement (.throttleStep) := of_no_bits _
theorem capRecoverStep : Statement (.capRecoverStep) := of_no_bits _
theorem riseEpisodeEnd : Statement (.riseEpisodeEnd) := of_no_bits _
theorem thermCapHostWrite (v : BitVec 14) : Statement (.thermCapHostWrite v) := of_no_bits _
theorem hwShutdown : Statement (.hwShutdown) := of_no_bits _
theorem shutdownRestart : Statement (.shutdownRestart) := of_no_bits _
theorem compUpdate (osc : Bool) : Statement (.compUpdate osc) := of_no_bits _
theorem thermCmpGo (w : BitVec 6) : Statement (.thermCmpGo w) := of_no_bits _
theorem oscLearn (e : Int) : Statement (.oscLearn e) := of_no_bits _
theorem peatCmdStore : Statement (.peatCmdStore) := of_no_bits _
theorem peatCmdSetPassword (p : Fin 4) (write : Bool) : Statement (.peatCmdSetPassword p write) := of_no_bits _
theorem peatCmdClearLog : Statement (.peatCmdClearLog) := of_no_bits _
theorem peatCmdUnlock (p : Fin 4) (write : Bool) : Statement (.peatCmdUnlock p write) := of_no_bits _
theorem peatCmdLock (p : Fin 4) (write : Bool) : Statement (.peatCmdLock p write) := of_no_bits _
theorem storeComplete (t : Nat) : Statement (.storeComplete t) := of_no_bits _
theorem autostoreTimer : Statement (.autostoreTimer) := of_no_bits _
theorem pfailNFall (t : Nat) : Statement (.pfailNFall t) := of_no_bits _
theorem pfailUnlock (t : Nat × Bool) : Statement (.pfailUnlock t) := of_no_bits _
theorem pfailHeld : Statement (.pfailHeld) := of_no_bits _
theorem peatDataAccess (wr : Bool) (v : BitVec 32) : Statement (.peatDataAccess wr v) := of_no_bits _
theorem peatLockoutEnd (p : Fin 4) : Statement (.peatLockoutEnd p) := of_no_bits _
theorem lifeSecond : Statement (.lifeSecond) := of_no_bits _
theorem vio33Rise : Statement (.vio33Rise) := of_no_bits _
theorem vio33Por : Statement (.vio33Por) := of_no_bits _
theorem pgoodRise (g : Fin 4) (t : Nat) : Statement (.pgoodRise g t) := of_no_bits _
theorem penSettleElapsed : Statement (.penSettleElapsed) := of_no_bits _
theorem pgoodTimeout : Statement (.pgoodTimeout) := of_no_bits _
theorem backoffElapsed : Statement (.backoffElapsed) := of_no_bits _
theorem crystalWindow (n : Nat) : Statement (.crystalWindow n) := of_no_bits _
theorem xtalTimeout : Statement (.xtalTimeout) := of_no_bits _
theorem boot (errD : Bool) (errA : Bool) (errB : Bool) (sfdp : List (Byte)) : Statement (.boot errD errA errB sfdp) := of_no_bits _
theorem resetNLow (t : Nat) : Statement (.resetNLow t) := of_no_bits _
theorem resetNRelease (t : Nat) : Statement (.resetNRelease t) := of_no_bits _
theorem aoCmdRestart : Statement (.aoCmdRestart) := of_no_bits _
theorem aoCmdFreeze : Statement (.aoCmdFreeze) := of_no_bits _
theorem aoCmdThaw : Statement (.aoCmdThaw) := of_no_bits _
theorem pgoodLost (mask : BitVec 4) : Statement (.pgoodLost mask) := of_no_bits _
theorem fwSwitchReady : Statement (.fwSwitchReady) := of_no_bits _
theorem fwSwitchTimeout : Statement (.fwSwitchTimeout) := of_no_bits _
theorem lockstepMismatch (t : Nat) : Statement (.lockstepMismatch t) := of_no_bits _
theorem lockstepRestartDone (t : Nat) : Statement (.lockstepRestartDone t) := of_no_bits _
theorem crystalLoss : Statement (.crystalLoss) := of_no_bits _
theorem crystalReturn : Statement (.crystalReturn) := of_no_bits _
theorem faultPinSample (high : Bool) : Statement (.faultPinSample high) := of_no_bits _
theorem freezeNLow : Statement (.freezeNLow) := of_no_bits _
theorem freezeNHigh : Statement (.freezeNHigh) := of_no_bits _
theorem thawHeadResume (h : Fin 4) : Statement (.thawHeadResume h) := of_no_bits _
theorem sysFreezeReq : Statement (.sysFreezeReq) := of_no_bits _
theorem sysFreezeThaw : Statement (.sysFreezeThaw) := of_no_bits _
theorem extest : Statement (.extest) := of_no_bits _
theorem samplePreload (bits : Nat) : Statement (.samplePreload bits) := of_no_bits _
theorem idcode : Statement (.idcode) := of_no_bits _
theorem snapshot (n : Nat) : Statement (.snapshot n) := of_no_bits _
theorem debugReadWord (a : BitVec 64 × Option (BitVec 32 × Bool)) : Statement (.debugReadWord a) := of_no_bits _
theorem debugWriteWord (a : BitVec 64) (v : BitVec 32) : Statement (.debugWriteWord a v) := of_no_bits _
theorem bypass : Statement (.bypass) := of_no_bits _
theorem aoSnapDataRead : Statement (.aoSnapDataRead) := of_no_bits _
theorem aoPoweredNsLoRead : Statement (.aoPoweredNsLoRead) := of_no_bits _
theorem testLogicReset : Statement (.testLogicReset) := of_no_bits _
theorem vholdMeasurement (mv : Nat) : Statement (.vholdMeasurement mv) := of_no_bits _
theorem vactMeasurement (mv : Nat) : Statement (.vactMeasurement mv) := of_no_bits _

end Sys2Proof.Laws.Spelled
end

