-- ==== Sys2Proof/Tests/Slice0.lean ====
section
/-!
SUPPORT. The model's own tests: small states on which commands run, ill-formed commands refused by `Instr.wf`, and for
each statement with hypotheses a state and operands that meet them.
-/
namespace Sys2Proof.Tests
open Sys2Proof Sys2Proof.Machine

/-- A chip that is powered, booted and neither frozen nor shut down. -/
def booted : State := { ao := { up := true, step := .running, stat := 0 } }


/-! ### Ill-formed commands are refused: one per check -/

theorem test_wf_pixels :
    (Instr.acodeLoad 0 1088 0).wf = false ∧ (Instr.pixelCorrection 0 0 1344).wf = false ∧
    (Instr.lateFillDone 0 1088 0).wf = false ∧ (Instr.calAverageFrame 0 0 1344).wf = false ∧
    (Instr.pixelCorrection 0 1087 1343).wf = true := by decide

theorem test_wf_rows :
    (Instr.pixelConversion 0 1089 0 0 0 0 false).wf = false ∧ (Instr.pixelConversion 0 0 168 0 0 0 false).wf = false ∧
    (Instr.calRow 0 1089 [] []).wf = false ∧ (Instr.calRow 0 0 [(38, [])] []).wf = false ∧
    (Instr.calRow 0 0 [] [(0, 38, [])]).wf = false ∧ (Instr.spareTakesTap 0 0 1089).wf = false ∧
    (Instr.rowFetchIssue 0 0 1088).wf = false ∧ (Instr.rowFetchDone 0 1088).wf = false ∧
    (Instr.rowComplete 0 1088).wf = false ∧ (Instr.tableRepair 0 0 1462272).wf = false ∧
    (Instr.calRow 0 1088 [(37, [])] [(1, 2, [])]).wf = true := by decide

theorem test_wf_packets :
    (Instr.rxPacket 64 0 0 true []).wf = false ∧ (Instr.rxPacket 0 16 0 true []).wf = false ∧
    (Instr.rxPacket 0 0 3 true []).wf = false ∧ (Instr.rxPacket 0 0 0 true [256]).wf = false ∧
    (Instr.rxPacket 63 15 2 false [255]).wf = true := by decide

theorem test_wf_memory :
    (Instr.dramBurst 0 [(0, false, 250, 16, [])] none 0).wf = false ∧ (Instr.dramBurst 0 [(0, true, 0, 16, [0])] none 0).wf = false ∧
    (Instr.debugAccess false (2 ^ 40) 4 []).wf = false ∧ (Instr.debugAccess true 0 4 [0]).wf = false ∧
    (Instr.busError 0 (2 ^ 64)).wf = false ∧ (Instr.bar4Access true (0, 0) 2 [0]).wf = false ∧
    (Instr.bar4Access false (0, 0xFFFFFFF) 2 []).wf = false ∧ (Instr.xipRead true 0 0).wf = false ∧
    (Instr.xipRead true 255 2).wf = false ∧ (Instr.thermSample 0 4096 0).wf = false ∧
    (Instr.dramBurst 1 [(0, false, 240, 16, [])] none 0).wf = true := by decide

theorem test_wf_link_words (rx : List (BitVec 32)) (h : 65535 < rx.length) : (Instr.hlEntry 0 (rx, none)).wf = false := by
  simp [Instr.wf]; omega

/-! ### Worked examples of the specification -/

/-- The bytes the management port sends for a read of TICK_COUNT at page 0x0100, index 7 (the example after R301). -/
theorem test_mgmt_read :
    (mgmtFrame 0x07 (List.replicate 8 0) ([], false, 0) ((booted.setFld R.spiMgmtPage 0x0100).setFld R.tickCount 0x2A3F)).mgmt.miso =
      [0x88, 0, 0, 0, 0, 0, 0, 0x2A, 0x3F] := by decide

/-- R120's example: with 0xFFFF active and 0xFFFE held, 0x0000 is accepted and 0x000F is not. -/
theorem test_generation :
    ((booted.setFld (R.corrBankGen 2 1) 0xFFFF).setFld (R.corrBankGen 2 0) 0xFFFE).genRefused 2 0 = false ∧
    ((booted.setFld (R.corrBankGen 2 1) 0xFFFF).setFld (R.corrBankGen 2 0) 0xFFFE).genRefused 2 0xF = true := by decide

theorem witness_StepRunsFront : booted.pending = [] := by decide

theorem witness_StepKeepsCanonicalForm :
    booted.canonical = true ∧ Sys2Proof.Machine.step booted = .next booted := ⟨by decide, rfl⟩

theorem witness_TimeNeverRunsBack :
    (∀ r, booted.pending ≠ .vio33Rise :: r) ∧ Sys2Proof.Machine.step booted = .next booted ∧
    ({ booted with pending := [.vio33Rise] } : State).pending = .vio33Rise :: [] :=
  ⟨by intro r; simp [booted], rfl, rfl⟩

theorem witness_RegisterWriteSetsFields :
    booted.ao.up = true ∧ booted.ao.frozen = false ∧ (0x80000000#32).getLsbD 31 = true ∧ badAccess 0x20000 = false ∧
    locate 0x20000 = some ⟨.fault, 0, 0x20000⟩ ∧ booted.wordRefused ⟨.fault, 0, 0x20000⟩ 0 5 = false ∧
    (rowsAt (blkRows .fault) 0).all (fun r => decide (r.acc ≠ .err)) = true ∧
    0x40000 ≤ (0x4FFFF#24).toNat ∧ (0x4FFFF#24).toNat < 0x50000 ∧ 0x40000 ≤ (0x40000#24).toNat := by decide

theorem witness_EnabledFieldRefused :
    (booted.setFld (R.headCtlClk 3) 1).ao.up = true ∧ (booted.setFld (R.headCtlClk 3) 1).flag (R.headCtlClk 3) = true ∧
    nbits (0#32).toNat 0 11 ≠ (booted.setFld (R.headCtlClk 3) 1).fld (R.headColsCols 3) := by decide

theorem witness_BaseTakesEffectOnHiWrite :
    booted.ao.up = true ∧ booted.ao.frozen = false ∧
    (booted.setFld R.engTaskBaseLo 33).fld R.engTaskBaseLo % 64 ≠ 0 ∧ (booted.setFld R.engTaskBaseLo 33).ao.up = true := by
  decide

theorem witness_PoweredTimeReadLatchesUpperHalf : booted.ao.up = true := by decide

theorem witness_TimeCapture :
    (booted.setFld R.tsyncCtl 1).ao.up = true ∧ (booted.setFld R.tsyncCtl 1).ballsTaken = false ∧ nbits ((booted.setFld R.tsyncCtl 1).fld R.tsyncCtl) 0 1 = 1 ∧
    (booted.setFld R.tsyncCtl 1).events.length < 256 ∧ booted.logReads = true ∧ (booted.setFld R.tsyncCtl 1).tick.captT = none ∧
    2559999 < 0 + 2560000 ∧ 0 + 2560000 ≤ 2560000 := by decide

/-- Running on source 0, or on source 1 (`src`). -/
def ticking (src : Nat) : State :=
  let s := (booted.setFld R.tickStatus 1).setFld R.tickCtlEn 1
  { s with tick := { s.tick with ctl := 1 + 2 * src, period := 4266666795 } }

theorem witness_TickEdgesFall :
    nbits (booted.fld R.tickStatus) 0 1 = 0 ∧ booted.tick.armed = false ∧ booted.fld R.tickCtlSrc ≠ 1 ∧
    (booted.setFld R.tickCtlSrc 1).fld R.tickCtlSrc = 1 ∧ (ticking 0).ao.up = true ∧
    nbits ((ticking 0).fld R.tickStatus) 0 1 = 1 ∧ (ticking 0).tickSrc ≠ 1 ∧ (ticking 1).tickSrc = 1 ∧
    (ticking 1).flag R.tickCtlEn = true ∧ (ticking 1).ballsTaken = false ∧ (ticking 1).tick.armed = false ∧ (ticking 1).tick.committed = false ∧
    (ticking 1).tick.edge + (ticking 1).tick.period ≤ 4241066795 + (ticking 1).tick.tol * 256000 ∧
    4241066794 + (ticking 1).tick.tol * 256000 < (ticking 1).tick.edge + (ticking 1).tick.period := by decide

theorem witness_TickCountAdvances :
    (ticking 0).ao.up = true ∧ nbits ((ticking 0).fld R.tickStatus) 0 1 = 1 ∧ (ticking 0).tickSrc ≠ 1 ∧
    (ticking 2).tickSrc ≠ 1 := by decide

def missed : State := { booted with tick := { missRun := 16, fsyncOut := true } }
theorem witness_FsyncOutAndSourceLost :
    missed.logReads = true ∧
    missed.ao.up = true ∧ missed.tick.fsyncOut = true ∧ 16 ≤ missed.tick.missRun ∧ missed.tick.lostSent = false ∧
    missed.events.length < 256 := by decide

/-- Head `h` with its record and STATE given. -/
def headAt (h : Nat) (x : Head) (st : Nat) : State := (booted.setHead h x).setFld (R.headStatusState h) st

/-- Head 2 is plugged in: absent so far, configured, AUTO as at reset. -/
def arriving : State := headAt 2 { hdet := false, configured := true } 0
/-- The powered head 2 is unplugged. -/
def leaving : State := (headAt 2 { hpen := true } 2).setFld (R.headStatusPresent 2) 1

theorem witness_HeadPresence :
    arriving.ao.up = true ∧ arriving.ao.frozen = false ∧ (arriving.head 2).hdet = false ∧
    arriving.flag (R.headStatusPresent 2) = false ∧ arriving.hState 2 = 0 ∧ arriving.attaches 2 = true ∧
    arriving.fwRuns = true ∧ arriving.events.length < 240 ∧ arriving.ballsTaken = false ∧
    (headAt 2 { hdet := false } 0).attaches 2 = false ∧
    ((headAt 2 { hdet := false } 0).setFld (R.headCtlPwr 2) 1).flag (R.headCtlPwr 2) = true ∧
    (leaving.head 2).hdet = true ∧ leaving.flag (R.headStatusPresent 2) = true ∧ (leaving.head 2).hpen = true ∧
    leaving.hState 2 < 4 ∧
    (headAt 2 { hdet := false } 5).hState 2 ≠ 0 ∧ (headAt 2 { hdet := false } 5).flag (R.headStatusPresent 2) = false ∧
    ((headAt 2 {} 1).head 2).hdet = true ∧ ((headAt 2 {} 1).setFld (R.headStatusPresent 2) 1).flag (R.headStatusPresent 2) = true ∧
    ((headAt 2 {} 1).head 2).hpen = false ∧ (headAt 2 {} 1).logReads = true := by decide

def powering : State :=
  let s := (headAt 1 { hpen := true, settled := true, ramped := true } 2).setFld R.tickStatus 1
  s.setFld (R.headCtlClk 1) 1

theorem witness_HeadPowerUp :
    (headAt 0 { hpen := true } 2).fwRuns = true ∧
    (headAt 0 { hpen := true } 2).ao.up = true ∧ (headAt 0 { hpen := true } 2).hState 0 = 2 ∧
    ((headAt 0 { hpen := true } 2).head 0).hpen = true ∧ ((headAt 0 { hpen := true } 2).head 0).settled = false ∧
    ((headAt 0 { settled := true, attach := 3 } 2).head 0).settled = true ∧
    ((headAt 0 { settled := true, attach := 3 } 2).head 0).ramped = false ∧
    powering.calm = true ∧ powering.hState 1 = 2 ∧ powering.flag (R.headCtlClk 1) = true ∧
    (powering.head 1).timing = false ∧ (powering.head 1).ramped = true ∧ (powering.head 1).resume = false ∧
    nbits (powering.fld R.tickStatus) 0 1 = 1 ∧
    powering.fld R.tickCount % powering.divN 1 = powering.fld (R.headCadPhase 1) := by decide

theorem witness_BiasCodeWrite :
    (booted.setFld (R.headBiasMax 3 7) 100).fld (R.headBiasMax 3 7) < (101#16).toNat ∧
    (100#16).toNat ≤ (booted.setFld (R.headBiasMax 3 7) 100).fld (R.headBiasMax 3 7) ∧
    (100#16).toNat ≤ (powering.setFld (R.headBiasMax 3 7) 100).fld (R.headBiasMax 3 7) ∧
    nbits ((powering.setFld (R.headBiasMax 3 7) 100).fld R.tickStatus) 0 1 = 1 ∧
    nbits ((headAt 0 { hpen := true, settled := true } 2).fld R.tickStatus) 0 1 = 0 ∧
    ((headAt 0 { hpen := true, settled := true } 2).head 0).biases.length = 8 := by decide

theorem witness_HeadClockAndRun :
    booted.ao.up = true ∧ booted.ao.frozen = false ∧ (booted.head 0).hpen = false ∧
    ((headAt 0 { hpen := true } 2).head 0).hpen = true ∧ (powering.setFld (R.headStatusState 1) 3).hState 1 = 3 ∧
    (powering.setFld (R.headStatusState 1) 3).flag (R.headCtlClk 1) = true := by decide

/-- Head 1 with one committed request. -/
def bound (k : ReqKind) (st : Nat) : State :=
  { headAt 1 {} st with reqs := [{ kind := k, obj := 1, committed := true }] }

/-- An idle head 1 whose start passes every check. -/
def starting : State :=
  let s := headAt 1 { refOk := true, periods := 2, timing := true } 3
  let s : State := { s with reqs := [{ kind := .headStart, obj := 1, committed := true }] }
  s.modPipe 1 fun p => { p with active := some 0 }

theorem test_start_passes : (starting.dropReq { kind := .headStart, obj := 1, committed := true }).startRefused 1 = none := by
  decide

theorem witness_HeadStartAndDetachAtTick :
    (bound .headStart 1).calm = true ∧
    (bound .headStart 1).committedReq .headStart 1 = some { kind := .headStart, obj := 1, committed := true } ∧
    ((bound .headStart 1).dropReq { kind := .headStart, obj := 1, committed := true }).startRefused 1 = some (1, 0) ∧
    starting.calm = true ∧
    starting.committedReq .headStart 1 = some { kind := .headStart, obj := 1, committed := true } ∧
    (bound .headDetach 4).committedReq .headDetach 1 = some { kind := .headDetach, obj := 1, committed := true } ∧
    (bound .headDetach 4).hState 1 = 4 ∧ (bound .headDetach 3).hState 1 = 3 ∧
    (headAt 1 { drain := .stop } 5).hState 1 = 5 ∧ (headAt 1 { drain := .stop } 5).drained 1 = true ∧
    ((headAt 1 { drain := .removal } 5).head 1).ramp0 = false ∧ ((headAt 1 { drain := .removal } 5).head 1).rampDue = false ∧
    ((headAt 1 { drain := .removal } 5).head 1).edgeDue = false ∧
    (headAt 1 { drain := .removal } 5).flag (R.headStatusPresent 1) = false ∧
    ((headAt 1 { drain := .detach } 5).head 1).drain = .detach ∧ ((headAt 1 { ramp0 := true } 5).head 1).ramp0 = true ∧
    (headAt 1 { resume := true } 4).calm = true ∧ (headAt 1 { resume := true } 4).ao.edgeWait = false ∧ ((headAt 1 { resume := true } 4).head 1).resume = true ∧
    (headAt 1 { resume := true } 4).fld R.tickCount % (headAt 1 { resume := true } 4).divN 1 =
      (headAt 1 { resume := true } 4).fld (R.headCadPhase 1) := by decide

theorem witness_FrameStart :
    (headAt 3 { due := true, timing := true } 4).calm = true ∧ (headAt 3 { due := true, timing := true } 4).hState 3 = 4 ∧
    ((headAt 3 { due := true, timing := true } 4).head 3).due = true ∧
    ((headAt 3 { due := true, timing := true } 4).head 3).timing = true ∧
    (headAt 3 { due := true, timing := true } 3).hState 3 ≠ 4 := by decide

theorem witness_ReferenceEvaluated :
    (headAt 3 { periods := 1, timing := true } 3).calm = true ∧
    ((headAt 3 { periods := 1, timing := true } 3).head 3).timing = true ∧
    0 < ((headAt 3 { periods := 1, timing := true } 3).head 3).periods ∧
    ((headAt 3 { periods := 1, timing := true } 3).head 3).refN = 0 := by decide

theorem witness_ConversionIsMonotone :
    (0 : Int) ≤ 5 ∧ 255 < 256 ∧ ((2500000000 : Int) - 2000000000) * 16384 = 2000000000 * (((12288 : Nat) : Int) - 8192) := by
  decide
/-- R68, worked pixel of the bench configuration: x4, code 14,180, 2.733 V; the ideal DAC of 122.07 uV leaves 268 LSB. -/
theorem test_conversion_worked : convCode 2 128 32 14180 2733000000 0 = 33036 := by decide

/-- Head 0 running and reading row 8 of its first frame. -/
def reading : State := headAt 0 { timing := true, frames := [{ rows := 8 }] } 4

theorem witness_PixelConversionDelivers :
    reading.calm = true ∧ (reading.head 0).timing = true ∧ reading.curFrame 0 = some { rows := 8 } ∧ 8 + 0 < reading.nRows 0 ∧
    reading.isCalRow 0 8 = false ∧ 41 < reading.nPer 0 ∧ 31 < reading.nTaps 0 ∧ reading.sliceOn 0 31 = some 31 ∧
    (reading.setFld (R.afeSliceCtlInput 31) 63).sliceOn 0 31 = none ∧
    32 = 32 + reading.fld (R.headRefCtlRefA 0) ∧ reading.flag (R.headRefCtlDiff 0) = false ∧
    (reading.setFld (R.headRefWin 0) (16 * 2048)).inRefWin 0 8 = true ∧ reading.sliceOn 0 32 = some 32 ∧
    (reading.group 0).trainThr.contains 32 = false := by decide

theorem witness_SliceCalibration :
    reading.calm = true ∧
    reading.isCalRow 0 1063 = true ∧ ((reading.periodFor 0 1063).all fun f => 1063 + f.cut < reading.nRows 0) = true ∧ reading.fld (R.afeSliceCtlRole 31) = 0 ∧ reading.fld (R.afeSliceCtlInput 31) < 32 ∧
    (reading.group 0).takes.any (·.failing == 31) = false ∧ reading.flag (R.afeSliceCtlBgcalEn 31) = true ∧
    2 ^ (reading.setSlice 31 { rows := 16 }).fld (R.afeGrpCalCalAvg 0) ≤ ((reading.setSlice 31 { rows := 16 }).slice 31).rows ∧
    (reading.setFld (R.afeSliceStatFailrun 31) 4).fld (R.afeGrpCalFailLim 0) ≤
      (reading.setFld (R.afeSliceStatFailrun 31) 4).fld (R.afeSliceStatFailrun 31) ∧
    (reading.setFld (R.afeSliceStatFailrun 31) 4).flag (R.afeSliceStatFailing 31) = false ∧
    (reading.setFld (R.afeSliceCtlRole 37) 1).fld (R.afeSliceCtlRole 37) = 1 ∧ (reading.slice 37).train = false ∧
    (reading.group 0).takes.any (·.spare == 37) = false ∧ 1 ≤ reading.fld (R.afeGrpCalFailLim 0) ∧
    reading.flag (R.afeSliceCtlBgcalEn 37) = true ∧
    2 ^ (reading.setFld (R.afeGrpCalCalAvg 0) 0).fld (R.afeGrpCalCalAvg 0) * (reading.setFld (R.afeGrpCalCalAvg 0) 0).nPer 0 ≤
      (List.replicate 42 ((32768 : Nat), false)).length := by decide

/-- `reading` with spares 36 and 37 or without, and slice 5 in trouble. -/
def ailing (spare : Nat) (g : Group) : State :=
  let s := (reading.setFld (R.afeSliceCtlRole 36) spare).setFld (R.afeSliceCtlRole 37) spare
  (s.setGroup 0 g).setSlice 5 { rowErr := 25, stuckN := 4096 }

theorem witness_SliceTakeover :
    (ailing 1 {}).logReads = true ∧
    (ailing 1 {}).calm = true ∧ (ailing 1 {}).ao.faults = [] ∧ (ailing 1 {}).fld (R.afeSliceCtlRole 5) = 0 ∧
    (ailing 1 {}).fld (R.afeGrpHardHardLim 0) < ((ailing 1 {}).slice 5).rowErr ∧
    ((ailing 1 {}).setFld (R.afeGrpHardStuckEn 0) 1).flag (R.afeGrpHardStuckEn 0) = true ∧
    4096 ≤ ((ailing 1 {}).slice 5).stuckN ∧ (ailing 1 {}).flag (R.afeGrpCtlAutoSwap 0) = true ∧
    ((ailing 1 {}).group 0).decl.any (·.1 == 5) = false ∧ ((ailing 1 {}).group 0).takes.any (·.failing == 5) = false ∧
    ((ailing 1 { decl := [(5, 2, none)] }).afeSpares 0).head? = some 36 ∧
    ((ailing 1 { decl := [(5, 2, none)] }).group 0).decl = (5, 2, none) :: [] ∧
    (ailing 1 { decl := [(5, 2, none)] }).calState 0 ≠ 3 ∧ (ailing 2 { decl := [(5, 2, none)] }).afeSpares 0 = [] ∧
    ((ailing 1 { takes := [⟨5, 36, 5, 2, none, 0⟩] }).group 0).takes.find? (·.failing == 5) = some ⟨5, 36, 5, 2, none, 0⟩ ∧
    ((ailing 1 { requal := [(5, none)], rqBad := [5] }).group 0).requal.find? (·.1 == 5) = some (5, none) ∧
    ((ailing 1 { requal := [(5, none)], rqBad := [5] }).group 0).rqBad.contains 5 = true ∧
    (((ailing 1 { requal := [(5, none)] }).setSlice 5 { rqThr := true, rqN := 9 }).slice 5).rqThr = true := by decide

theorem witness_TrainingRuns :
    (ailing 1 { trainReq := 2 }).calm = true ∧
    ((ailing 1 { trainReq := 2 }).group 0).trainReq ≠ 0 ∧ (ailing 1 { trainReq := 2 }).hState 0 = 4 ∧
    ((ailing 1 { trainReq := 2 }).group 0).trainKind = 0 ∧
    ((ailing 1 { trainThr := [36] }).group 0).trainThr.contains 36 = true ∧
    ((ailing 1 { trainPh := [5] }).group 0).trainPh.contains 5 = true ∧ (ailing 1 { trainPh := [5] }).sliceOn 0 5 = some 5 ∧
    ((ailing 1 { trainKind := 2 }).group 0).trainKind ≠ 0 ∧ ((ailing 1 { trainKind := 2 }).group 0).trainPh = [] := by decide

theorem witness_AfeGroupCommands :
    (ailing 1 {}).ao.frozen = false ∧ (ailing 1 {}).ao.up = true ∧ (ailing 1 {}).afeSpares 0 ≠ [] ∧
    (ailing 1 {}).hState 0 = 4 ∧ ((ailing 1 {}).group 0).trainReq = 0 ∧ (ailing 2 {}).fld (R.afeSliceCtlRole 37) = 2 ∧
    ((ailing 2 {}).group 0).requal.any (·.1 == 37) = false ∧ (ailing 2 {}).afeSpares 0 = [] ∧
    booted.hState 0 ≠ 3 ∧ booted.hState 0 ≠ 4 := by decide

theorem witness_EmissivityPairCommits :
    booted.ao.up = true ∧ booted.ao.frozen = false ∧ (headAt 3 { due := true, timing := true } 4).calm = true ∧
    (headAt 3 { due := true, timing := true } 4).hState 3 = 4 := by decide

/-- `reading` with an open slot for row 8. -/
def fetching (x : Slot) : State := reading.modPipe 0 fun p => { p with slots := tset (fun _ => {}) 0 x p.slots }

theorem witness_RecordFetchAndRepair :
    reading.ao.faults = [] ∧
    8 < reading.nRows 0 ∧ reading.fetchDue 0 0 9 = true ∧
    (tget (fun _ => ({} : Slot)) (reading.pipe 0).slots (9 % 8)).issued = false ∧ 9 < reading.nRows 0 ∧
    (fetching { row := 8, issued := true }).calm = true ∧
    tget (fun _ => ({} : Slot)) ((fetching { row := 8, issued := true }).pipe 0).slots (8 % 8) = { row := 8, issued := true } ∧
    (fetching {}).frameAt 0 8 = some { rows := 8 } ∧ (fetching {}).frameAt 0 9 = some { rows := 8 } ∧ 1343 < (fetching {}).nCols 0 ∧
    (fetching {}).sliceOn 0 ((fetching {}).tapOf 0 1343) = some 31 ∧
    reading.genRefused 0 (0x10#16).toNat = true ∧ reading.genRefused 0 (0x11#16).toNat = false ∧
    ((booted.modCal 2 fun c => { c with repairs := [(1, 7)] }).cal 2).repairs.contains (1, 7) = true ∧
    (booted.modCal 2 fun c => { c with repairs := [(1, 7)] }).goldWaits 2 = false ∧
    inDram ((booted.modCal 2 fun c => { c with repairs := [(1, 7)] }).recBase 2 1 + 16 * 7) 16 = true ∧
    (booted.pipe 0).active ≠ some 0 ∧
    ((booted.modPipe 0 fun p => { p with active := some 0 }).pipe 0).active = some 0 := by decide

theorem witness_radiometric_error : (booted.setEcc 4 2).ueIn ((booted.setEcc 4 2).lutBase 0 0) 0x8800 = true := by
  have hb : (booted.setEcc 4 2).lutBase 0 0 = 0 := by decide
  rw [hb, State.ueIn, List.any_eq_true]
  exact ⟨4, by simp [groupsOf], by decide⟩

/-- `reading` with pixel (8, 5) converted and one set of formats on. -/
def converted (fmts : Nat) : State :=
  (reading.setFld (R.corrFmtEn 0) fmts).setPix 0 8 5 { have_ := true, d := 33000, late := false }

theorem witness_PixelCorrectionWrites :
    (converted 1).calm = true ∧ (converted 1).curFrame 0 = some { rows := 8 } ∧ 5 < (converted 1).nCols 0 ∧
    ((converted 1).pix 0 8 5).have_ = true ∧ ((converted 1).pix 0 8 5).done = false ∧
    (converted 1).fld (R.corrFmtEn 0) = 1 ∧ (converted 4).fld (R.corrFmtEn 0) = 4 ∧ ((converted 4).pix 0 8 5).late = false ∧
    inDram ((converted 1).outAddr 0 0 0 8 5) 2 = true ∧ (converted 2).fld (R.corrFmtEn 0) = 2 ^ 1 ∧
    inDram ((converted 2).outAddr 0 1 0 8 5) (fmtWidth 1) = true ∧ inDram ((converted 4).outAddr 0 2 0 8 5) 2 = true ∧
    (converted 16).fld (R.corrFmtEn 0) = 2 ^ 4 ∧ inDram ((converted 16).outAddr 0 4 0 8 5) (fmtWidth 4) = true ∧
    ((converted 4).head 0).frames.find? (·.no == 0) = some { rows := 8 } ∧
    ((converted 4).setPix 0 8 4 { have_ := true, late := false, d := 33000 }).neighbour 0 { rows := 8 }
      ((converted 4).isBlind 0 5) 8 (5 - 1) = some (pixC22 { rows := 8 } { have_ := true, late := false, d := 33000 }) ∧
    ((converted 4).setPix 0 8 6 { have_ := true, late := false, d := 33000 }).neighbour 0 { rows := 8 }
      ((converted 4).isBlind 0 5) 8 (5 + 1) = some (pixC22 { rows := 8 } { have_ := true, late := false, d := 33000 }) ∧
    (converted 4).neighbour 0 { rows := 8 } ((converted 4).isBlind 0 5) 8 (5 - 1) = none := by decide

def averaged : State :=
  (headAt 0 { timing := true, frames := [{ rows := 8, avg := 1 }] } 4).setPix 0 8 5
    { have_ := true, done := true, late := false, d := 33000 }

theorem witness_RowsAndFramesComplete :
    (((reading.modPipe 0 fun p => { p with lateFill := [(0, 8, 5, 7)] }).pipe 0).lateFill.find? (fun e => e.2.1 == 8 && e.2.2.1 == 5)) = some (0, 8, 5, 7) ∧
    (reading.head 0).frames.find? (·.no == 0) = some { rows := 8 } ∧ (reading.pipe 0).lateFill.any (·.1 == 0) = false ∧
    (reading.head 0).frames.find? (!·.landed) = some { rows := 8 } ∧
    averaged.calm = true ∧ averaged.curFrame 0 = some { rows := 8, avg := 1 } ∧ 5 < averaged.nCols 0 ∧
    (averaged.pix 0 8 5).done = true ∧ (averaged.pix 0 8 5).late = false ∧ (averaged.pix 0 8 5).st = 0 ∧
    averaged.isCalRow 0 8 = false ∧ inDram (averaged.accAddr 0 (8 * averaged.nCols 0 + 5)) 4 = true ∧
    (converted 4).derivedFmts 0 = [2] ∧ inDram ((converted 4).outAddr 0 2 (0) 8 5) 2 = true ∧
    (converted 4).ueIn ((converted 4).outAddr 0 2 (0) 8 5) 2 = false ∧ 8 + 0 < reading.nRows 0 ∧ inDram (reading.lstatAddr 0 0 8) 2 = true ∧
    (headAt 0 { frames := [{ rows := 1064 }] } 4).nRows 0 ≤ 1064 := by decide

/-- Head 0 in calibration state `st` with its sequencer, pipeline and newest frame given. -/
def shuttering (st : Nat) (c : Cal) (p : Pipe) (f : Frame) : State :=
  ((((headAt 0 { timing := true, frames := [f] } 4).setFld (R.calStatusState 0) st).setCal 0 c).setPipe 0 p)

theorem witness_BankLoadAndCalCommands :
    booted.ao.up = true ∧ booted.ao.frozen = false ∧ booted.openRefused 3 1 = false ∧
    (shuttering 2 {} {} {}).openRefused 0 1 = true ∧ (shuttering 2 {} {} {}).calRuns 0 = true ∧
    ((shuttering 2 {} {} {}).cal 0).lDone = false ∧ ((shuttering 2 {} {} {}).cal 0).abandoned = false ∧
    (booted.setFld (R.calStatusLock 2) 1).flag (R.calStatusLock 2) = true ∧ booted.calRuns 1 = false := by decide
/-- A bank opened for a load is refused to a second load-open (R119). -/
theorem test_load_open_locks :
    (match Sys2Proof.Machine.exec (.calCmdLoadOpen 0 1) booted with
      | .next t => t.openRefused 0 1 && t.openRefused 0 0
      | _ => false) = true := by decide

/-- Head 0 running with bank 0 active at generation 5 and an activation of bank 1 to generation `g` at its commit point. -/
def activating (g : Nat) : State :=
  let s := ((shuttering 0 {} { active := some 0, filled := [1] } {}).setFlag (bankValid 0 1) true).setFld (R.corrActiveGen 0) 5
  { s.setFld (R.corrBankGen 0 1) g with reqs := [{ kind := .activation, obj := 0, p0 := 1, p1 := g, committed := true }] }

/-- A host request for a shutter event at its commit point, its pixel format enabled or not, the shutter channel ready. -/
def requesting (fmt : Nat) : State :=
  let s := (shuttering 0 { reqSrc := 3 } { active := some 0 } {}).setFld (R.corrFmtEn 0) fmt
  let s := ((s.setFld (R.actChCtlEn 0) 1).setFld (R.actChStatState 0) 1).setFld (R.actChSlotlen 0) 0x1111
  { s with reqs := [{ kind := .shutter, obj := 0, committed := true }] }

def timed : State := ((shuttering 0 { lastEnd := some 9 } {} {}).setFld (R.calTrigInterval 0) 60).setFld (R.calCtlAuto 0) 1

theorem witness_ActivationAndRequests :
    (activating 6).calm = true ∧ (activating 6).activationCause 0 1 6 false = none ∧
    (activating 5).activationCause 0 1 5 false = some 13 ∧ ((activating 6).pipe 0).filled.contains 1 = true ∧
    ((activating 6).pipe 0).active.isSome = true ∧ (activating 6).fld (R.corrActiveGen 0) = 5 ∧
    (activating 6).reqs.find? (fun q => q.committed && q.kind == .activation && q.obj == 0) =
      some { kind := .activation, obj := 0, p0 := 1, p1 := 6, committed := true } ∧
    ((booted.setPipe 2 { refill := some (1, 7) }).pipe 2).refill = some (1, 7) ∧
    timed.calm = true ∧ timed.fld (R.calTrigInterval 0) ≠ 0 ∧ timed.flag (R.calCtlAuto 0) = true ∧ timed.hState 0 = 4 ∧
    timed.calRuns 0 = false ∧ (timed.cal 0).lastEnd = some 9 ∧
    (requesting 0).calm = true ∧ (requesting 4).flag (R.calCtlMode 0) = false ∧ ((requesting 0).cal 0).reqSrc = 3 ∧
    (requesting 0).committedReq .shutter 0 = some { kind := .shutter, obj := 0, committed := true } := by decide
theorem witness_ActivationAndRequests_causes :
    (((requesting 0).dropReq { kind := .shutter, obj := 0, committed := true }).setFlag (R.calStatusPending 0) false).requestCause 0
      = some 4 ∧
    (((requesting 4).dropReq { kind := .shutter, obj := 0, committed := true }).setFlag (R.calStatusPending 0) false).requestCause 0
      = none := by decide

/-- An accepted request at F0, in MODE 0 or 1. -/
def opening (mode : Nat) : State := (shuttering 0 { accepted := true } { active := some 0 } {}).setFld (R.calCtlMode 0) mode

theorem witness_ShutterEventOpens :
    (opening 1).calm = true ∧ (opening 1).freshFrame 0 = some {} ∧ ((opening 1).cal 0).accepted = true ∧
    (opening 1).calState 0 = 0 ∧ (opening 1).flag (R.calCtlMode 0) = true ∧ (opening 0).flag (R.calCtlMode 0) = false ∧
    (shuttering 1 { closeDone := true } {} {}).calState 0 = 1 ∧
    ((shuttering 1 { closeDone := true } {} {}).cal 0).closeDone = true ∧
    ((shuttering 1 { closeDone := true } {} {}).setFld (R.calCtlAposReq 0) 1).flag (R.calCtlAposReq 0) = true ∧
    (shuttering 1 { closeDone := true } {} {}).flag (R.actChStatPos 0) = false ∧
    (shuttering 2 { cnt := 2 } {} {}).fld (R.calFramesSettle 0) ≤ 2 ∧ (shuttering 2 { cnt := 2 } {} {}).calState 0 = 2 ∧
    (shuttering 3 { cnt := 16 } { active := some 0 } {}).fld (R.calFramesNavg 0) ≤ 16 ∧
    (shuttering 3 { cnt := 16 } { active := some 0 } {}).inactive 0 < 2 := by decide

theorem witness_ShutterEventCloses :
    (shuttering 4 { building := true, bank := 1 } { active := some 0 } { build := true, rows := 2048 }).calm = true ∧
    ((shuttering 4 { building := true, bank := 1 } { active := some 0 } { build := true, rows := 2048 }).head 0).frames.find?
      (·.build) = some { build := true, rows := 2048 } ∧
    (shuttering 4 { building := true, bank := 1 } { active := some 0 } { build := true, rows := 2048 }).nRows 0 ≤ 2048 ∧
    ((shuttering 4 { building := true, bank := 1 } { active := some 0 } {}).cal 0).building = true ∧
    ((shuttering 4 { building := true, bank := 1 } { active := some 0 } {}).cal 0).builds = [] ∧
    (shuttering 5 { openDone := true } {} {}).calState 0 = 5 ∧ ((shuttering 5 { openDone := true } {} {}).cal 0).openDone = true ∧
    (shuttering 5 { openDone := true } {} {}).flag (R.actChStatPos 0) = false ∧
    (shuttering 6 { cnt := 4, osDone := true, verdict := 2 } {} {}).calState 0 = 6 ∧
    (shuttering 6 { cnt := 4 } {} {}).fld (R.calFramesOpenSettle 0) ≤ 4 ∧
    (shuttering 6 { cnt := 4, osDone := true, verdict := 2 } {} {}).freshFrame 0 = some {} ∧
    (shuttering 6 { cnt := 4 } {} {}).fld (R.calFramesOpenSettle 0) < 4 ∧
    ((shuttering 6 { cnt := 4, osDone := true, verdict := 2 } {} {}).cal 0).verdict = 2 ∧
    (shuttering 7 { cnt := 15 } {} {}).calState 0 = 7 ∧ (shuttering 7 { cnt := 15 } {} {}).fld (R.calFramesAbandonHold 0) < 15 := by
  decide
/-- The verdict's limits (R131): the reset limit of 328 / 65536 lets 1 of 328 pixels fail the residual, not 2. -/
theorem test_verdict_limit :
    (booted.setCal 0 { nCount := 328, nFail := 1 }).verdictOf 0 = 0 ∧
    (booted.setCal 0 { nCount := 328, nFail := 2 }).verdictOf 0 = 3 := by decide

/-- Channel 3 enabled in state `st` with a one-phase profile of 200 mA in slot 0, VACT at 12 V. -/
def driving (st : Nat) (x : Act) (q : List Nat) : State :=
  let s := (((booted.setFld (R.actChCtlEn 3) 1).setActState 3 st).setFld (R.actChSlotlen 3) 1).setFld (R.actChPhase 3 0 0)
    (phaseWord 200 1000 1)
  { (s.setFld R.actVact 12000).setAct 3 x with actQ := q }

theorem witness_ActuatorStarts :
    (driving 1 {} []).calm = true ∧ (driving 1 {} []).startCause 3 1 .host = some 2 ∧
    (driving 1 {} []).startCause 3 0 .host = none ∧ (driving 1 {} []).offPassed 3 = true ∧
    (driving 1 {} []).peakSum + (driving 1 {} []).peak 3 0 ≤ (driving 1 {} []).fld R.actTotalLim ∧
    (driving 1 { lastEnd := some 0 } []).offPassed 3 = false ∧ (driving 2 { lastEnd := some 0 } []).actState 3 = 2 ∧
    ({ driving 1 {} [] with reqs := [{ kind := .actStart, obj := 3, committed := true }] } : State).committedReq .actStart 3 =
      some { kind := .actStart, obj := 3, committed := true } ∧
    ((List.range 4).any fun h => decide (shutCh h < 3) && (driving 1 {} []).seqStartDue h) = false ∧
    (driving 3 {} [3]).actQ = [3] ∧ (driving 3 {} [3]).peak 3 ((driving 3 {} [3]).fld (R.actChStatSlot 3)) = 200 ∧
    (driving 3 {} [3]).peakSum = 0 ∧ 200 ≤ (driving 3 {} [3]).fld R.actTotalLim ∧
    (driving 5 {} []).actState 3 = 5 ∧ (driving 5 {} []).faultPersists 3 = false := by decide

theorem witness_ActuatorProfiles :
    (driving 4 {} []).calm = true ∧ (driving 4 {} []).actState 3 = 4 ∧ ((driving 4 {} []).act 3).last = false ∧
    ((driving 4 {} []).act 3).stopping = false ∧ (driving 4 {} []).slotLen 3 ((driving 4 {} []).fld (R.actChStatSlot 3)) ≤ 8 ∧
    8 * ((driving 4 {} []).charge 3 + 5) ≤ 9 * (driving 4 {} []).fld (R.actChBudget 3) ∧
    9 * ((driving 4 {} []).setFld (R.actChBudget 3) 8).fld (R.actChBudget 3) <
      8 * (((driving 4 {} []).setFld (R.actChBudget 3) 8).charge 3 + 10) ∧
    ((driving 4 { last := true } []).act 3).last = true ∧ ((9 : Int) + 10).natAbs < 20 ∧
    (driving 4 {} []).faultCause 3 [(false, 1001, -20)] 12000 [] = some 1 ∧
    (driving 1 {} []).faultCause 3 [(false, 1000, -1000)] 12000 [] = none ∧
    (driving 4 {} []).overBudget 3 = false ∧ (driving 1 {} []).ballsTaken = false ∧ 17500 < 17501 ∧ (driving 1 {} []).actState 3 ≠ 5 ∧
    ((driving 1 {} []).setFld (R.actChCtlPosEn 3) 1).flag (R.actChStatPos 3) =
      ((driving 1 {} []).setFld (R.actChCtlPosEn 3) 1).posOf 3 ∧
    ((driving 1 {} []).setFld (R.actChCtlPosEn 3) 1).fld (R.actChPosdeb 3) ≤ 10 * 1000 ∧
    10 * ((driving 1 {} []).act 3).posRun + 10 * 1 < (driving 1 {} []).fld (R.actChPosdeb 3) ∧
    ((driving 1 {} []).setFld (R.actChCtlPosEn 3) 1).flag (R.actChCtlPosEn 3) = true ∧ (driving 1 {} []).actState 3 = 1 ∧
    (driving 1 {} []).phaseOk 3 1 (phaseWord (-200) 50 2) = true ∧ (driving 1 {} []).phaseOk 3 1 0 = false := by decide
/-- The planned charge of R149: 200 mA over 1000 units of 10 us is 2 mA s = 2000 mA ms. -/
theorem test_planned_charge : (driving 1 {} []).planned 3 0 = 2000 := by decide

/-- An engine instruction word: opcode, D, A, B, I, W, X, IMM (R163). -/
def ins (op d a b i w x imm : Nat) : Nat :=
  ((((((op * 32 + d) * 32 + a) * 32 + b) * 2 + i) * 4 + w) * 256 + x) * 2 ^ 32 + imm

/-- Engine 30 runs tile 0 of task 0 with the word at its PC. -/
def computing (w : Nat) (x : Eng) : State := (booted.wr (progDev 30 0) 8 w).setEng 30 { x with cur := some {} }

/-- No group of the engines' memories has an error there (R160). -/
theorem computing_clean (w : Nat) (x : Eng) : (computing w x).arr.ecc = [] := rfl

theorem witness_EngineScalarResults :
    (computing (ins 1 3 1 2 0 0 0 0) {}).calm = true ∧ (computing (ins 1 3 1 2 0 0 0 0) {}).engIssues 30 = true ∧
    iOp ((computing (ins 1 3 1 2 0 0 0 0) {}).engWord 30) = 1 ∧ insLegal ((computing (ins 1 3 1 2 0 0 0 0) {}).engWord 30) = true ∧
    ((computing (ins 1 3 1 2 0 0 0 0) {}).eng 30).cur = some {} := by decide
/-- Every opcode of the table has a legal word (the operands' least values). -/
theorem witness_opcodes_legal :
    ([0x00, 0x01, 0x02, 0x03, 0x04, 0x05, 0x06, 0x07, 0x08, 0x09, 0x0A, 0x0B, 0x0C, 0x0D, 0x10, 0x11, 0x12, 0x13, 0x18, 0x19,
      0x1A, 0x1C, 0x1D, 0x1E, 0x22, 0x28, 0x29, 0x2A, 0x2B, 0x2C, 0x2D, 0x2E, 0x2F, 0x30, 0x32, 0x33, 0x34, 0x35, 0x36, 0x37,
      0x38].all fun op => insLegal (ins op 0 0 0 0 0 0 0)) = true ∧
    insLegal (ins 0x1B 0 1 0 0 0 1 0) = true ∧ insLegal (ins 0x20 0 1 2 0 0 0 16) = true ∧
    insLegal (ins 0x21 0 1 2 0 0 0 16) = true ∧ insLegal (ins 0x31 0 1 2 0 0 1 0) = true := by decide
/-- `ins` by hand: ADDI-like `s3 = s1 + 7` is opcode 1, D 3, A 1, I 1, IMM 7 (R163's bit positions). -/
theorem test_word_by_bits : ins 1 3 1 0 1 0 0 7 = 0x0461040000000007 ∧ insLegal 0x0461040000000007 = true := by decide

theorem witness_EngineMemoryAccess :
    (computing (ins 0x10 3 0 0 0 0 2 0x40) {}).calm = true ∧
    areaOf 0x8004 4 = .local_ ∧ areaOf 0xFF00 4 = .desc ∧ areaOf 0x1000010 16 = .shared ∧ areaOf 2 4 = .bad ∧
    (computing (ins 0x10 3 0 0 0 0 2 0x40) {}).engIssues 30 = true ∧
    (computing (ins 0x10 3 0 0 0 0 2 0x40) {}).engAddr 30 (ins 0x10 3 0 0 0 0 2 0x40) = 0x40 ∧
    insLegal (ins 0x12 3 0 2 0 0 1 0x1000000) = true ∧ areaOf 0x1000000 4 = .shared ∧
    (computing (ins 0x13 0 0 0 0 0 0 0) { stores := [(sharedDev 1 0, [1, 2])] }).engIssues 30 = true ∧
    4 * (progDev 30 0 / 4) < progDev 30 ((computing (ins 0x10 3 0 0 0 0 2 0x40) {}).eng 30).pc + 8 ∧
    progDev 30 0 < 4 * (progDev 30 0 / 4) + 4 ∧ ((computing (ins 0x10 3 0 0 0 0 2 0x40) {}).eng 30).stores = [] ∧
    (∀ w ∈ [ins 0 0 0 0 0 0 0 0, ins 0x10 3 0 0 0 0 2 0x40, ins 0x2A 1 2 3 0 1 1 0],
      ({ computing w {} with arr := { ecc := [(progDev 30 0 / 4, 2)] } } : State).engIssues 30 = true ∧
      insLegal (({ computing w {} with arr := { ecc := [(progDev 30 0 / 4, 2)] } } : State).engWord 30) = true) := by decide
/-- A correctable error in a local word is corrected when LD reads it, and counts as an absorbed fault of row 3 (R160, R365). -/
theorem test_engine_ecc :
    let s : State := { computing (ins 0x10 3 0 0 0 0 2 0x40) {} with arr := { ecc := [(localDev 30 0x40 / 4, 1)] } }
    (localDev 30 0x40, 4) ∈ s.engReads 30 ∧ (s.engCorrect (localDev 30 0x40) 4).arr.ecc = [] ∧
    (s.engCorrect (localDev 30 0x40) 4).fld R.faultLastKind = 3 := by decide

theorem witness_EngineControlAndTransfers :
    (computing (ins 0x18 0 1 2 0 0 6 0x7FF) {}).calm = true ∧
    (computing (ins 0x18 0 1 2 0 0 6 0x7FF) {}).engIssues 30 = true ∧ insLegal (ins 0x18 0 1 2 0 0 6 0x7FF) = true ∧
    ((computing (ins 0x19 5 0 0 0 0 0 9) { pc := 0 }).eng 30).pc < 2048 ∧ insLegal (ins 0x19 5 0 0 0 0 0 9) = true ∧
    insLegal (ins 0x1B 0 0 0 1 0 3 0) = true ∧ insLegal (ins 0x1E 0 0 0 0 0 0 255) = true ∧
    ((computing (ins 0x1D 0 0 0 0 0 0 0) {}).eng 30).xfers = [] ∧
    ((computing (ins 0x1D 0 0 0 0 0 0 0) {}).eng 30).cur = some {} ∧
    (computing (ins 0x1D 0 0 0 0 0 0 0) { xfers := [{ tag := 3 }] }).engIssues 30 = true ∧
    ((computing (ins 0x1D 0 0 0 0 0 0 0) { xfers := [{ tag := 3 }] }).eng 30).xfers ≠ [] ∧ insLegal (ins 0x22 0 0 0 0 0 15 0) = true ∧
    (computing (ins 0x14 0 0 0 0 0 0 0) {}).engIssues 30 = true ∧
    insLegal ((computing (ins 0x14 0 0 0 0 0 0 0) {}).engWord 30) = false ∧
    (computing (ins 0x14 0 0 0 0 0 0 0) {}).arr.ecc = [] := by decide
/-- The last instruction of the inner body repeats it, then the outer one (R165). -/
theorem test_seqPc : seqPc 7 [(5, 7, 2), (3, 7, 9)] = (5, [(5, 7, 1), (3, 7, 9)]) ∧
    seqPc 7 [(5, 7, 1), (3, 7, 9)] = (3, [(3, 7, 8)]) ∧ seqPc 2047 [] = (0, []) := by decide

theorem witness_EngineVectorResults :
    (computing (ins 0x2A 1 2 3 0 1 1 0) {}).engIssues 30 = true ∧ insLegal (ins 0x2A 1 2 3 0 1 1 0) = true ∧
    insLegal (ins 0x32 1 2 0 0 0 0x7F 0) = true ∧ insLegal (ins 0x33 1 2 0 0 0 0 0) = true ∧
    insLegal (ins 0x34 1 2 0 0 0 2 0) = true ∧ insLegal (ins 0x35 1 2 3 0 0 0 0) = true ∧
    insLegal (ins 0x38 1 2 0 0 0 7 0) = true ∧ (lanes (ins 0x38 1 2 0 0 0 7 0) 0)[7]? = some 0 ∧
    insLegal (ins 0x2D 3 2 1 0 1 0 0) = true ∧ insLegal (ins 0x2E 3 2 0 0 1 0x7F 0) = true ∧
    (tget (fun _ => ({} : EAcc)) [(3, { form := 1, lanes := [1, 2, 3, 4] })] 3).lanes.length = laneN (ins 0x2D 3 2 1 0 1 0 0) ∧
    insLegal (ins 0x36 1 2 3 0 0 4 0) = true ∧ insLegal (ins 0x37 0 2 3 0 0 4 0) = true := by decide

/-- Engine 30 with its record, task 2 declared for head 0 on mire 1. -/
def tiling (x : Eng) (a : Array_) : State := { booted.setEng 30 x with arr := a }

theorem witness_TilesFaultsAndSpares :
    (tiling {} {}).calm = true ∧ (tiling {} {}).logReads = true ∧ (tiling {} {}).ao.faults = [] ∧ (tiling {} {}).arr.ecc = [] ∧
    ((tiling { queue := [{ task := 2 }] } { tasks := [{ idx := 2, ws := [1] }] }).eng 30).queue = [{ task := 2 }] ∧
    (tiling { queue := [{ task := 2 }] } {}).engRole 30 ≠ 2 ∧ (tiling { queue := [{ task := 2 }] } {}).engRole 30 ≠ 3 ∧
    (tiling {} { tasks := [{ idx := 2, ws := [1] }] }).task 2 = some { idx := 2, ws := [1] } ∧
    ({ tag := 3, far := 0x1000000000, len := 32 } : Xfer).request = none ∧
    ({ far := 0x1000, len := 32, done := 32 } : Xfer).request = none ∧ booted.msys.run0 = none ∧ booted.msys.run1 = none ∧
    ((tiling { xfers := [{ tag := 3, far := 0x1000000000, len := 32 }] } {}).eng 30).xfers.find? (·.tag == 3) =
      some { tag := 3, far := 0x1000000000, len := 32 } ∧ 0x1000000000 + 32 ≤ localDev 30 0 ∧
    ((tiling { fault := some (4, 1), cur := some {} } {}).eng 30).fault = some (4, 1) ∧
    (tiling {} { tasks := [{ idx := 2, faultRun := 16 }] }).task 2 = some { idx := 2, faultRun := 16 } ∧
    (tiling {} { restarts := [{ eng := 30, spare := 40, tile := some {} }] }).arr.restarts.find? (·.eng == 30) =
      some { eng := 30, spare := 40, tile := some {} } ∧
    (booted.setEngRole 30 2).engRole (24 * 1 + 6) = 2 ∧ booted.engRole 30 ≠ 2 ∧
    ((booted.setMire 1 { requal := [(6, none)] }).mire 1).requal.find? (·.1 == 6) = some (6, none) ∧
    (tiling {} { released := false, stopped := true }).arr.released = false ∧ (tiling {} { released := false }).arr.restarts = [] ∧
    ({ tiling {} { tasks := [{ idx := 2, ws := [1], runs := true, no := 5, resNo := some 5 }] } with
        streams := [{ kind := 7, task := 2, bound := true }] } : State).streams.find?
      (fun u => u.head == 0 && u.kind == 7 && u.task == 2 && u.bound && !u.ending) =
      some { kind := 7, task := 2, bound := true } ∧
    tickFrom (booted.frameOf 0 5).tick 0 = true ∧ (booted.backlogOf 0).length < 64 := by decide

/-- A request at its commit point. -/
def committing (q : Req) : State := { booted with reqs := [{ q with committed := true }] }

theorem witness_TasksImagesAndBroadcasts :
    booted.calm = true ∧
    booted.ao.up = true ∧ (64 : Fin 128).val ≤ 64 ∧ ¬ (65 : Fin 128).val ≤ 64 ∧
    (committing { kind := .taskDeclare }).reqs.find? (fun q => q.committed && q.kind == .taskDeclare) =
      some { kind := .taskDeclare, committed := true } ∧
    (committing { kind := .reload, obj := 5 }).committedReq .reload 5 = some { kind := .reload, obj := 5, committed := true } ∧
    ((booted.setMire 5 { staging := some (64, none) }).mire 5).staging = some (64, none) ∧ booted.xipWaits 64 = false ∧
    ((booted.setMire 5 { staged := some (true, [1, 2]) }).mire 5).staged = some (true, [1, 2]) ∧
    (([1, 2] : List Byte).drop 64).length ≤ 0x4000 ∧
    (committing { kind := .broadcast, p2 := 256 * 64 + 3 }).committedReq .broadcast 0 =
      some { kind := .broadcast, p2 := 256 * 64 + 3, committed := true } ∧
    ¬ booted.tick.guard * 1000 < bcastNs 2 64 + 10640 ∧ booted.tick.guard * 1000 < bcastNs 2 0x400000 + 10640 := by decide
theorem witness_declareCause_none : booted.declareCause [] = none := by decide
/-- The broadcast time of R185: 8 receivers of 1 MiB take 1000 + 120 ns and 1048576 / 6.4 ns. -/
theorem test_broadcast_time : bcastNs 8 1048576 = 1120 + 163840 := by decide

/-- Head 0 running with display frames, one landed frame and its video record and the shared one given. -/
def showing (x : VidHead) (v : Vid) : State :=
  let s := headAt 0 { timing := true, due := true, frames := [{ no := 3, slot := 1, landed := true, rows := 1100 }] } 4
  let s := ((s.setFld (R.vidHeadCtlEn 0) 1).setFld R.vidCtlEn 1).setFld R.tickCount 2
  { s.setVidH 0 x with vid := v }

/-- A frame on the memory path with L1 not ready, started or not. -/
def onPath (started : Bool) : Comp := { no := 3, slot := 1, layers := {}, map := ToneMap.window 0 9, stale := 1, started }

/-- `showing` with the transmitter on and another head in-line. -/
def sending (x : VidHead) : State :=
  ((showing x { inline := some 1 }).setFld R.vidTxCtlEn 1).setFld (R.vidHeadCtlTxEn 0) 1

theorem witness_VideoPaths :
    (showing {} {}).logReads = true ∧
    (showing {} {}).calm = true ∧ (showing {} {}).flag R.vidCtlEn = true ∧
    ((showing { work := [onPath false] } {}).vidH 0).work = [onPath false] ∧ (onPath false).started = false ∧
    (showing {} {}).events.length + 4 ≤ 256 ∧ ((showing { work := [onPath true] } {}).vidH 0).work = [onPath true] ∧
    (showing {} {}).sends 0 3 = false ∧ (sending { work := [onPath true] }).sends 0 3 = true ∧ (onPath true).row = 0 ∧
    (onPath true).lines = [] ∧ ((sending { txq := [[]] }).vidH 0).txq = [[]] ∧
    (showing {} { inls := [{ head := 0, no := 3, layers := {}, map := ToneMap.window 0 9, layerNo := 2, rows := [[7]] }] }).vid.inls.find?
      (fun x => !x.rows.isEmpty) =
      some { head := 0, no := 3, layers := {}, map := ToneMap.window 0 9, layerNo := 2, rows := [[7]] } ∧
    (showing {} {}).inlineAsks 1 true = true ∧ (showing {} {}).inlineAsks 0 true = false ∧
    (showing {} { pend := some (0, true, none), inline := none }).vid.pend = some (0, true, none) ∧
    ((showing {} {}).head 0).due = true ∧ (showing {} {}).hState 0 = 4 ∧ (showing {} {}).inPeriod 0 = false ∧
    (showing {} { lost := 3 }).vid.lost = 3 ∧ booted.hState 0 ≠ 4 ∧ booted.hState 3 ≠ 4 ∧
    ((showing {} { lost := 3 }).setFld R.vidCtlLostFallback 1).flag R.vidCtlLostFallback = true ∧
    ((showing {} { lost := 3 }).setFld R.vidCtlLostFallback 0).flag R.vidCtlLostFallback = false := by decide

theorem witness_VideoRegistersAndCamera :
    booted.logReads = true ∧
    booted.ao.up = true ∧ booted.ao.frozen = false ∧ booted.calm = true ∧
    (booted.setFld R.vidRxCtlEn 1).flag R.vidRxCtlEn = true ∧ (booted.setFld R.vidCtlEn 1).flag R.vidCtlEn = true ∧
    (showing {} { rx := some { ended := true } }).vid.rx = some { ended := true } ∧
    (showing {} { rx := some { doubt := true } }).vid.rx = some { doubt := true } ∧
    ((booted.setFld R.vidRxCtlEn 1).setFld R.vidRxFusTimeout 0).fld R.vidRxFusTimeout ≤ booted.vid.visAge ∧
    booted.fld R.vidRxStat < 2 ∧
    ((showing { l3copy := some (1, 64, false) } {}).vidH 0).l3copy = some (1, 64, false) ∧ isHost 64 = false := by decide
/-- RAW10 packing: four samples and their low bits. -/
theorem test_rx_raw10 : rxSamples 1 [0xFF, 0x00, 0x80, 0x01, 0xE4] = [1020, 1, 514, 7] := by decide
/-- Blending (R207): alpha 255 gives the layer, alpha 0 what is below, alpha 128 rounds to nearest. -/
theorem test_blend : blend 255 200 10 = 200 ∧ blend 0 200 10 = 10 ∧ blend 128 255 0 = 128 := by decide

/-- Requester 5 waits with a 16-byte write at 0x100. -/
def waiting : State :=
  { booted with msys := { waits := [{ req := 5, wr := true, addr := 0x100, len := 16, data := List.replicate 16 7 }] } }

theorem witness_MemoryArbitration :
    functional (.scrubBlock false) = true ∧ waiting.alive = true ∧ waiting.host.d3 = false ∧ 4 ≤ 128 * 2 ^ waiting.host.mps ∧ waiting.calm = true ∧ (waiting.lottery 0).1 = some 5 ∧ waiting.contenders 0 ≠ [] ∧ waiting.runOn 0 = none ∧
    (waiting.msys.waits.find? fun b => b.req == 5 && chanOf b.addr == 0) =
      some { req := 5, wr := true, addr := 0x100, len := 16, data := List.replicate 16 7 } ∧ 64 * 1 - 0x1F8 % 64 < 16 ∧
    booted.contenders 0 = [] ∧ waiting.waitsSince 5 = some 0 ∧
    ({ waiting with msys := { run1 := some { wr := true, addr := 0x700, len := 16, data := List.replicate 16 1 } } } : State).runOn 1 =
      some { wr := true, addr := 0x700, len := 16, data := List.replicate 16 1 } ∧
    waiting.msys.lfsr0 < 2 ^ 32 ∧ waiting.msys.lfsr1 < 2 ^ 32 ∧
    waiting.msys.timed.contains (5, 0) = false ∧ booted.fwRuns = true ∧
    (waiting.setFld (R.memArbStarveLim 5) 10).fld (R.memArbStarveLim 5) = 10 ∧ booted.msys.waits = [] ∧
    ((booted.setFld R.memArbStarveStat 32).setFld R.memCtlRebal 1).flag R.memCtlRebal = true ∧
    (booted.setFld R.memArbStarveStat 32).fld R.memArbStarveStat / 2 ^ 5 % 2 = 1 ∧ booted.ao.up = true ∧
    booted.ao.frozen = false := by decide
/-- Engine 30 asks its mire's port for 32 bytes. -/
def fetchingPort : State := booted.setEng 30 { xfers := [{ tag := 3, far := 0x1000, len := 32 }] }

theorem witness_mire_port :
    (fetchingPort.lottery 0).1 = some 9 ∧ fetchingPort.portNext 1 0 = some 30 ∧
    fetchingPort.engRequest 30 = some ({ tag := 3, far := 0x1000, len := 32 }, 0x1000, 32) := by decide
/-- The first step of channel 0's generator from its seed 0xACE12469 (R225): the low bit is 1, so the mask enters. -/
theorem test_lfsr : lfsrStep 0xACE12469 = 0x56709234 ^^^ 0x80200003 := by decide

theorem witness_MemoryIntegrity :
    booted.alive = true ∧ booted.calm = true ∧ booted.ao.up = true ∧ booted.flag R.memCtlScrubEn = true ∧
    (booted.setFld R.memCtlScrubEn 0).flag R.memCtlScrubEn = false ∧ booted.tableBlock 0 = none ∧
    (booted.setBase (R.corrBankRecLo 0 0) (R.corrBankRecHi 0 0) 0x100000).tableBlock 1 = some 0x100100 ∧
    booted.ao.frozen = false := by decide

/-- Channel 3 enabled in state `st` with its record; the engine runs it. -/
def moving (st : Nat) (x : Chan) (run : Option Nat) : State :=
  let s := ((booted.setFld (R.dmaChCfgEn 3) 1).setChState 3 st).setFld R.dmaCtlEn 1
  (s.setChan 3 x).modDma fun d => { d with run }

theorem witness_SluiceChannelControl :
    (moving 0 {} none).ao.up = true ∧ (moving 0 {} none).ao.frozen = false ∧ (moving 0 {} none).calm = true ∧ (moving 0 {} none).host.d3 = false ∧ (moving 3 {} none).msys.run0 = none ∧
    (moving 3 {} none).msys.run1 = none ∧
    (moving 0 {} none).chOwned 3 = false ∧ ((moving 2 { mid := some false } none).chan 3).mid.isSome = true ∧ (moving 0 {} none).flag (R.dmaChCfgEn 3) = true ∧ (moving 0 {} none).chState 3 = 0 ∧
    (moving 2 {} none).chState 3 = 2 ∧ booted.flag (R.dmaChCfgEn 3) = false ∧ (moving 3 {} none).chState 3 = 3 ∧
    (moving 3 {} none).chCur 3 + 56 ≤ 0x70000000 ∧
    (moving 1 {} none).flag R.dmaStatHalt = false ∧ (booted.setFld R.dmaStatHalt 1).flag R.dmaStatHalt = true ∧
    (moving 1 {} none).dma.run = none ∧ (moving 1 {} none).flag R.dmaCtlEn = true ∧ (moving 1 {} none).chState 3 = 1 := by decide

/-- A copy of 100 bytes from 0x1000 to 0x2000. -/
def copyWords : List Nat := [0, 0, 0x1000, 0, 0x2000, 0, 100, 0, 0x10001, 100, 0, 0, 1, 0, 0, 0]

theorem witness_SluiceDescriptors :
    (moving 2 {} (some 3)).calm = true ∧ (moving 2 {} (some 3)).dma.run = some 3 ∧
    ((moving 2 {} (some 3)).chan 3).desc = none ∧ (moving 2 {} (some 3)).noteWaits 3 = false ∧
    isHost ((moving 2 {} (some 3)).chan 3).next = false ∧ ((moving 2 {} (some 3)).chan 3).next + 64 ≤ 0x70000000 ∧
    0x70000000 < ((moving 2 { next := 0x6FFFFFF8 } (some 3)).chan 3).next + 64 ∧
    ((moving 2 { desc := some { ws := copyWords } } (some 3)).chan 3).desc = some { ws := copyWords } ∧
    0 < descN copyWords ∧ dOp copyWords < 2 ∧ booted.regionOf (dstSide copyWords).extent 0 = some .dram ∧
    booted.regionOf (srcSide copyWords).extent 0 = some .dram ∧ 0 < (dstSide copyWords).len ∧ 0 < (srcSide copyWords).len ∧
    (dstSide copyWords).addr (nextChunk copyWords 0).1 + (nextChunk copyWords 0).2 ≤ 0x70000000 ∧
    (srcSide copyWords).addr (nextChunk copyWords 0).1 + (nextChunk copyWords 0).2 ≤ 0x70000000 ∧
    booted.descCause copyWords = none ∧ descN copyWords ≤ 100 ∧
    (moving 2 {} (some 3)).flag R.dmaStatHalt = false := by decide
/-- Each check of R250 refuses with its cause. -/
theorem test_descriptor_causes :
    booted.descCause (copyWords.set 0 3) = some 1 ∧ booted.descCause (copyWords.set 6 0) = some 2 ∧
    booted.descCause (copyWords.set 9 99) = some 3 ∧ booted.descCause (copyWords.set 5 1) = some 4 ∧
    booted.descCause ((copyWords.set 4 0).set 5 0x30) = some 6 ∧ booted.descCause (copyWords.set 12 3) = some 7 := by decide

/-- A booted chip with ring `k` enabled for 16 entries at host address 2^63, the link up. -/
def ringing (k : Nat) : State :=
  let s := (booted.setReg (ringOff k 8) (BitVec.ofNat 32 (1 + 2 * 4))).setBase ⟨ringOff k 0, 0, 32⟩ ⟨ringOff k 4, 0, 32⟩ (2 ^ 63)
  ({ s with host := { linkUp := true } } : State).setFld R.hostCtlEn 1

/-- One finished command of submission ring 1, whose completions go to ring 0, and one event. -/
def finishing : State :=
  { ringing 8 with cmds := [{ uid := 9, src := 1, cid := 77, phase := 2, r0 := 5 }], events := [{ code := 0x0201, seq := 3 }],
                   dma := { notes := [{ chan := 3, tag := 7, code := 1 }] } }

theorem witness_RingsAndCompletions :
    (ringing 1).ao.up = true ∧ (ringing 1).host.d3 = false ∧ (ringing 1).msys.run0 = none ∧ (ringing 1).msys.run1 = none ∧
    finishing.msys.run0 = none ∧ finishing.msys.run1 = none ∧ (ringing 1).ringEn 1 = true ∧ (ringing 1).ringSize 1 = 16 ∧
    ((ringing 1).setFld (ringTailF 1) 3).nextSq = some 1 ∧ (ringing 1).nextSq ≠ some 1 ∧
    finishing.memReady (finishing.ringBase 8) = true ∧
    (((ringing 1).hostRead ((ringing 1).ringBase 1) 64).1).isSome = true ∧
    booted.ringOk 5 (booted.ringBase 5) = true ∧ finishing.hostWrites = true ∧
    (finishing.cmds.find? (·.src == 1)).isSome = true ∧ finishing.fld (R.hostSqCfgCq 1) = 0 ∧ finishing.ringEn 8 = true ∧
    finishing.ringRoom 8 = true ∧ (finishing.dma.notes.find? (·.cq == 0)).isSome = true ∧ finishing.evtLost = 0 ∧ isHost (finishing.ringBase 8) = true ∧
    ((finishing.setRing 8 { times := [4], full := some 4 }).ring 8).times.head? = some 4 ∧
    ((finishing.setRing 8 { times := [4], full := some 4 }).ring 8).stalled = false := by decide

/-- A stream of head 0's formats on ring pair 2, bound, with one offer of 128 bytes at 0x4000. -/
def delivering : State :=
  { ringing 18 with
    streams := [{ head := 0, kind := 2, dq := 2, bq := 2, bound := true }],
    offers := [{ head := 0, kind := 2, bytes := 128, addr := 0x4000 }] }

theorem witness_DeliveryLinkAndMailbox :
    delivering.logReads = true ∧
    delivering.calm = true ∧ (delivering.firstOffer 0).isSome = true ∧
    (delivering.streamOf { head := 0, kind := 2, bytes := 128, addr := 0x4000 }).isSome = true ∧ delivering.fwRuns = true ∧ delivering.copyReady = true ∧ delivering.headerRoom 2 = true ∧ inDram 0x4000 128 = true ∧
    ({ delivering with dma := { delivering.dma with run := some 1 } } : State).copyReady = false ∧ delivering.host.d3 = false ∧ delivering.msys.run0 = none ∧ delivering.msys.run1 = none ∧
    ({ booted with host := { booted.host with d3 := true } } : State).host.d3 = true ∧ (3 : Fin 4) ≠ 2 ∧
    128 ≤ 128 * 2 ^ delivering.host.mps ∧ ({ delivering with host := { delivering.host with msixEn := true } } : State).host.msixEn = true ∧
    delivering.host.msixMask = false ∧ ({ booted with ao := { booted.ao with frozen := true } } : State).alive = false ∧
    delivering.ringEn 18 = true ∧ delivering.fld ⟨ringOff 18 0xC, 16, 1⟩ = 0 ∧
    (delivering.setFld (ringTailF 18) 1).ringHead 18 ≠ (delivering.setFld (ringTailF 18) 1).ringTail 18 ∧
    ((delivering.hostRead (delivering.ringBase 18) 32).1).isSome = true ∧ delivering.ringHead 18 = delivering.ringTail 18 ∧
    (committing { kind := .bind, obj := 2, p0 := 5 }).committedReq .bind 2 = some { kind := .bind, obj := 2, p0 := 5, committed := true } ∧
    booted.host.linkUp = false ∧ booted.host.mbxBusy = false ∧ booted.ringEn 8 = false ∧
    ({ booted with events := [{ code := 1 }] } : State).events = [{ code := 1 }] ∧ booted.evtLost = 0 := by decide

/-- Ring 0 starts a command of an opcode for an object. -/
def order (opc obj : Nat) (ps : List Nat) : Cmd := { uid := 3, opc := opc, obj := obj, ps := ps }
def ordered (s : State) (opc obj : Nat) (ps : List Nat) : State := { s with cmds := [order opc obj ps] }

theorem ordered_starts (s : State) (opc obj : Nat) (ps : List Nat) (up : s.ao.up = true) (fw : s.cmdsOn = true)
    (none : s.reqs = []) (calm : s.msys.run0 = .none ∧ s.msys.run1 = .none) : (ordered s opc obj ps).starts 0 opc (order opc obj ps) := by
  refine ⟨up, calm.1, calm.2, fw, ?_, ?_, ?_⟩
  · simp [State.toStart, State.front, State.fenced, ordered, order]
  · intro d hd _; simpa [ordered] using hd
  · intro q hq; simp [ordered, none] at hq

theorem witness_SystemCommands :
    (∀ opc ps, (ordered booted opc 0 ps).starts 0 opc (order opc 0 ps)) ∧
    (∀ opc ps, (ordered (ticking 0) opc 0 ps).starts 0 opc (order opc 0 ps)) ∧
    (∀ ps, (ordered ({ booted with ao := { booted.ao with frozen := true } } : State) 0x79 0 ps).starts 0 0x79 (order 0x79 0 ps)) ∧
    (opShape 0xFF).isNone = true ∧
    (ordered booted 0x01 0 [0x1000]).memReady ((order 0x01 0 [0x1000]).addr 0) = true ∧
    (order 0x02 0 [0x1001C]).p 0 = 0x1001C ∧
    (order 0x03 0 [0x20000, 5, 0xFFFFFFFF]).p 2 = 2 ^ 32 - 1 ∧ (order 0x03 0 [2]).p 0 % 4 ≠ 0 ∧
    nbits ((ticking 0).fld R.tickStatus) 0 1 = 1 ∧ nbits 8 3 1 = 1 ∧ nbits 8 0 2 ≤ 2 ∧
    (∀ h : Fin 4, (ticking 0).flag (R.headCtlClk h) = false) ∧ periodOk (16666666 * 256 + 171) 300 = true ∧
    2 ^ 30 ≤ (order 0x04 0 [8, 2 ^ 30]).p 1 ∧ (order 0x04 0 [8, 0, 256]).p 1 < 2 ^ 30 ∧ 256 ≤ (order 0x04 0 [8, 0, 256]).p 2 ∧
    (ordered ({ booted with ao := { booted.ao with frozen := true } } : State) 0x79 0 []).ao.frozen = true ∧ booted.ao.pin = false ∧
    booted.ao.shut = false ∧ (ordered booted 0x79 0 []).ao.frozen = false :=
  ⟨fun _ _ => ordered_starts _ _ _ _ (by decide) (by decide) (by decide) (by decide),
    fun _ _ => ordered_starts _ _ _ _ (by decide) (by decide) (by decide) (by decide),
    fun _ => ordered_starts _ _ _ _ (by decide) (by decide) (by decide) (by decide), by decide⟩

theorem witness_StageAndHeadCommands :
    (∀ opc h ps, (ordered booted opc h ps).starts 0 opc (order opc h ps)) ∧
    booted.calm = true ∧ booted.flash.polling = false ∧ booted.ao.stage = none ∧ booted.ao.slot ≤ 1 ∧
    (((ordered booted 0x70 0 [0x1000, 0, 256]).started 3).hostRead 0x1000 256).1.isSome = true ∧
    256 = 256 + leNat (((((ordered booted 0x70 0 [0x1000, 0, 256]).started 3).hostRead 0x1000 256).1.getD []).drop 12 |>.take 4) ∧
    (((ordered booted 0x10 1 []).started 3).hostRead 0 68).1.isSome = true ∧ (booted.hl 1).run = false ∧
    (booted.head 1).attachCmd = none ∧
    (headAt 1 {} 1).hState 1 = 1 ∧ ((headAt 1 {} 1).head 1).attach = 0 ∧
    (ordered booted 0x14 1 [64, 0, 2]).hostGone ((order 0x14 1 [64, 0, 2]).addr 0) = false ∧
    ((headAt 1 {} 3).setFld (R.spiHlCfgEn 1) 1).flag (R.spiHlCfgEn 1) = true ∧
    ((headAt 1 {} 3).setFld (R.spiHlCfgEn 1) 1).hlHeadOk 1 = true ∧ booted.hlHeadOk 1 = false :=
  ⟨fun _ _ _ => ordered_starts _ _ _ _ (by decide) (by decide) (by decide) (by decide), by decide⟩

theorem witness_FrontEndToEngineCommands :
    (∀ opc k ps, (ordered booted opc k ps).starts 0 opc (order opc k ps)) ∧ booted.calm = true ∧ (booted.cal 2).lockBank < 2 ∧
    booted.calRuns 2 = false ∧ booted.flag (R.calStatusPending 2) = false ∧
    (let lim := booted.fld (R.actChIlim 5); (order 0x30 5 [100, 9, 50, 7, 8]).p 0 ≤ lim ∧ (order 0x30 5 [100, 9, 50, 7, 8]).p 2 ≤ lim ∧
      booted.slotHeld 5 0 = false ∧ booted.slotHeld 5 1 = false ∧ lim < 5000) ∧
    nbits 0x103 8 1 = 1 ∧ nbits 0x003 8 1 = 0 :=
  ⟨fun _ _ _ => ordered_starts _ _ _ _ (by decide) (by decide) (by decide) (by decide), by decide⟩

theorem witness_VideoToPeatCommands :
    (∀ opc k ps, (ordered booted opc k ps).starts 0 opc (order opc k ps)) ∧ booted.calm = true ∧
    (ordered booted 0x68 0 [0, 0, 4, 0x1000]).memReady ((order 0x68 0 [0, 0, 4, 0x1000]).addr 3) = true ∧
    (ordered booted 0x68 0 [0, 0, 4, 0x1000]).hostGone ((order 0x68 0 [0, 0, 4, 0x1000]).addr 3) = false ∧
    (((ordered booted 0x69 0 [9]).started 3).peatRingCause 9 0 0 0 true).1 = some 1 ∧
    (((ordered booted 0x69 0 [0, 256, 4, 0x1000]).started 3).peatRingCause 0 256 4 0 true).1 = none ∧
    ((((ordered booted 0x69 0 [0, 256, 4, 0x1000]).started 3).peatRingCause 0 256 4 0 true).2.hostRead 0x1000 4).1.isSome = true ∧
    booted.peat.storing = false :=
  ⟨fun _ _ _ => ordered_starts _ _ _ _ (by decide) (by decide) (by decide) (by decide), by decide⟩

/-- A running chip whose management page is 0x200. -/
def managed : State :=
  booted.setFld R.spiMgmtPage 0x200
theorem witness_ManagementPortAndDebug :
    managed.logReads = true ∧
    managed.ao.step ≠ .off ∧ managed.mgmtDeaf = false ∧ managed.mgmtReady = true ∧ managed.fld R.spiMgmtPage = 0x200 ∧
    managed.fld R.spiMgmtCfgRelmode = 0 ∧ managed.ballsTaken = false ∧ (locate (0x0C00 * 256)).any (·.blk.freezes) = true ∧
    ({ managed with ao := { managed.ao with frozen := true } } : State).mgmtReady = false ∧ (managed.modMgmt fun x => { x with deaf := true }).mgmtDeaf = true ∧
    ({ ao := { step := .boot } } : State).mgmtReady = false ∧ ({ ao := { step := .boot } } : State).ao.step ≠ .off ∧
    ({ ao := { step := .boot } } : State).ao.up = false ∧ managed.events.length < 256 ∧ 4 ∣ (0x1000#64).toNat ∧
    ¬ 4 ∣ (0x1001#64).toNat ∧ 0x2000000000 ≤ (0x2000000008#64).toNat := by decide

/-- Head 1 idle, its link on, its queue of two entries running at DRAM address 0. -/
def linked : State := { (headAt 1 {} 3).setFld (R.spiHlCfgEn 1) 1 with hls := [(1, { run := true, go := true, cnt := 2 })] }
/-- A queue entry of two received words of 16 bits, to host address 2^63. -/
def linkEntry (rx : Nat) : List Byte := bytesOf [0x20010 + rx * 512, 0, 0, 0, 0, 2 ^ 31, 0, 0]
def linkedAt (rx : Nat) : State := { linked.putBytes 0 (linkEntry rx) with host := { linkUp := true } }

theorem witness_SerialMasters :
    linked.calm = true ∧ (linked.hl 1).run = true ∧ (linked.hl 1).go = true ∧ (linked.hl 1).idx < (linked.hl 1).cnt ∧
    linked.hlHeadOk 1 = true ∧ linked.flash.waits = [] ∧ linked.flash.polling = false ∧ linked.ao.stage = none ∧
    (booted.pollStart).flash.polling = true ∧ ((linkedAt 1).hostRead 0 32).1 = some (linkEntry 1) ∧
    hlEntryOk (wordsOf 8 (linkEntry 1)) = true ∧ hlEntryOk (wordsOf 8 (linkEntry 0)) = true ∧
    nbits ((wordsOf 8 (linkEntry 1)).getD 0 0) 9 1 = 1 ∧ nbits ((wordsOf 8 (linkEntry 1)).getD 0 0) 16 16 = 2 ∧
    isHost ((wordsOf 8 (linkEntry 1)).getD 4 0 + 2 ^ 32 * (wordsOf 8 (linkEntry 1)).getD 5 0) = true ∧
    hlEntryOk (wordsOf 8 (bytesOf [0, 0, 0, 0, 0, 0, 0, 0])) = false ∧ booted.ao.up = true ∧ booted.ao.frozen = false ∧
    booted.fwRuns = true ∧ (∀ h, h < 4 → (booted.cal h).builds = []) ∧
    ({ booted with ao := { booted.ao with stage := some (3, 1, false, []), failed := true } } : State).fwRuns = false ∧ flFmtOk 0 = true ∧ flFmtOk (2 ^ 7 * 3) = false := by decide

/-- A running chip whose sensor 3 last read v (1/16 degree C). -/
def warmed (v : Int) : State := { booted with therm := { raw := [(3, v)], coolT := some 5, riseOk := some 5, stepT := some 5, belowT := some 5 } }

theorem witness_ThermalManagement :
    (warmed 400).logReads = true ∧
    (warmed 400).ao.up = true ∧ (warmed 400).rawOf 3 = some 400 ∧ (warmed 400).tsFailed 3 = false ∧
    ¬ ((410 : Int) < -960 ∨ 3200 < (410 : Int)) ∧
    ((warmed 400).setFld R.thermFail 8).tsFailed 3 = true ∧
    tget (fun _ => 0) ({ (warmed 400) with therm := { okT := [(3, 9)] } } : State).therm.okT 3 ≠ 0 ∧
    ((warmed 400).setFld R.thermStat 2).throttles = true ∧ (warmed 400).throttles = false ∧
    ((warmed 400).setFld R.thermCap 1000).fld R.thermCap < ((warmed 400).setFld R.thermCap 1000).fld R.thermCapHost ∧
    ((warmed 400).setFld R.thermStat 4).thermFlag 2 = true ∧ 500 ∣ (8000#14).toNat ∧ ¬ 500 ∣ (8001#14).toNat ∧
    (∃ e ∈ (warmed 2400).therm.raw, 2400 ≤ e.2) ∧ (∀ e ∈ (warmed 2399).therm.raw, e.2 < 2400) ∧
    ({ booted with ao := { booted.ao with shut := true } } : State).ao.shut = true ∧
    ({ booted with ao := { booted.ao with xtal := true } } : State).ao.xtal = true ∧
    booted.fwRuns = true ∧ (booted.setFld R.thermCtlLearn 1).flag R.thermCtlLearn = true ∧
    (∀ e ∈ booted.cmpWritten 2, -4096 ≤ e ∧ e ≤ 4095) ∧
    (∃ e ∈ (booted.setFld (R.thermCmpOsc 4) 0x7000).cmpWritten 5, e < -4096 ∨ 4095 < e) := by decide

/-- A running chip with VHOLD at mv and PFAIL_N enabled. -/
def holding (mv : Nat) : State := { booted.setFld R.peatCtlPfailEn 1 with peat := { vhold := mv } }

theorem witness_PeatStore :
    (holding 6000).ao.up = true ∧ (holding 6000).ao.step ≠ .off ∧ (holding 6000).ballsTaken = false ∧ (holding 6000).peat.storing = false ∧
    (holding 6000).fld R.peatHoldMin ≤ (holding 6000).peat.vhold ∧ (holding 6000).logReads = true ∧ (holding 100).peat.vhold < (holding 100).fld R.peatHoldMin ∧
    ((holding 6000).present 1 1 (holding 6000).peatKey).1 = none ∧
    (({ holding 6000 with peat := { pws := [(3, 77)] } } : State).present 1 1 5).1 = some 2 ∧
    ({ holding 6000 with peat := { locks := [(1, 9)] } } : State).peatLocked 1 = true ∧
    ({ holding 6000 with peat := { locks := [(1, 9)] } } : State).peat.locks.find? (·.1 == 1) = some (1, 9) ∧
    ({ holding 6000 with peat := { store := some {}, storing := true } } : State).peat.store = some {} ∧
    ({ holding 6000 with peat := { store := some {}, storing := true } } : State).peat.storing = true ∧
    ({ holding 6000 with peat := { store := some {}, storing := true } } : State).peat.pend = none ∧
    ({ holding 6000 with peat := { store := some {}, storing := true } } : State).peat.waits = [] ∧
    ((holding 6000).setFld R.peatAuto 3).fld R.peatAuto ≠ 0 ∧ (holding 6000).peat.pfailLow = false ∧
    (holding 6000).flag R.peatCtlPfailEn = true ∧ nbits ((holding 6000).fld R.peatStat) 2 1 = 0 ∧
    ({ (holding 6000).setFld R.peatStat 4 with peat := { pfailLow := true } } : State).peat.heldSent = false ∧
    nbits ((((holding 6000).setFld R.peatStat 4).fld R.peatStat)) 2 1 = 1 ∧
    nbits (((holding 6000).setFld R.peatUnlock 0xFF).fld R.peatUnlock) (partOf 0xD000 + 4) 1 = 1 ∧
    hostMayWrite 0xD000 4 = true ∧ hostMayWrite 0x4000 4 = false ∧
    tget (fun _ => 0) (holding 6000).peat.ecc 0 ≠ 2 := by decide

/-- The always-on domain at a step of the power-up. -/
def powerAt (p : PwrStep) : State := { ao := { step := p } }

theorem witness_PowerUpAndBoot :
    (powerAt .boot).logReads = true ∧
    (powerAt .off).ao.step = .off ∧ (powerAt (.waitPg 2)).ao.step = .waitPg 2 ∧ (powerAt (.settle 3)).ao.step = .settle 3 ∧
    (powerAt .backoff).ao.step = .backoff ∧ (powerAt .crystal).ao.step = .crystal ∧ (powerAt .boot).ao.step = .boot ∧
    (powerAt .boot).ao.step ≠ .off ∧ booted.ao.up = true ∧
    ({ booted with ao := { booted.ao with sw := some (some 7), staged := some 1 } } : State).ao.sw = some (some 7) ∧
    ({ booted with ao := { booted.ao with sw := some (some 7), staged := some 1 } } : State).ao.staged = some 1 := by decide

/-- A running chip with changes in its always-on domain. -/
def aoWith (f : AO → AO) : State := { booted with ao := f booted.ao }

theorem witness_FaultsFreezeAndJtag :
    booted.calm = true ∧ booted.ao.faults = [] ∧ booted.logReads = true ∧
    booted.ao.up = true ∧ booted.ao.failed = false ∧ (aoWith fun a => { a with lsStop := some 4 }).ao.lsStop = some 4 ∧
    (aoWith fun a => { a with xtal := true }).ao.xtal = true ∧ booted.ao.xtal = false ∧
    (aoWith fun a => { a with ran := true, pinRun := 9, pinWas := (false, false) }).drivesFault = false ∧
    (aoWith fun a => { a with ran := false, pinRun := 9, pinWas := (true, true) }).drivesFault = true ∧
    (aoWith fun a => { a with lsStop := some 4, faults := [(6, 0)] }).faultTurn 2 7 = false ∧
    (aoWith fun a => { a with lsStop := some 4, faults := [(6, 0)] }).faultTurn 4 7 = false ∧
    (aoWith fun a => { a with lsStop := some 4, faults := [(6, 0)] }).faultTurn 6 0 = true ∧
    lsFourth 60 [3, 2, 1] = true ∧ lsFourth 60 [3, 2] = false ∧ booted.ao.step ≠ .off ∧ booted.ballsTaken = false ∧
    (aoWith fun a => { a with ir := 0 }).ballsTaken = true ∧ (aoWith fun a => { a with snapAddr := 0x17A8000 }).ao.snapAddr < 0x17A8400 ∧
    snapImages[0]? = some (0x40000, 0x160) ∧
    (aoWith fun a => { a with frozen := true, pin := true }).ao.frozen = true ∧ booted.ao.latch = false := by decide

end Sys2Proof.Tests
end

section
/-!
PROOFS. The read of TICK_POWERED_NS_LO (02_tick_and_time.md, R34, R35).
-/
namespace Sys2Proof.Machine

/-- A field write leaves every other register as it was. -/
theorem State.setFld_reg_other (s : State) (f : Fld) (v : Nat) {o : Nat} (h : o ≠ f.off) :
    (s.setFld f v).reg o = s.reg o := by
  simp [State.setFld, h]

/-- POWERED_NS is a 64-bit count, so its upper half fits one register (R34). -/
theorem State.poweredNs_upperHalf_lt (s : State) : s.poweredNs / 2 ^ 32 < 2 ^ 32 := by
  have h64 : s.poweredNs < 2 ^ 64 := Nat.mod_lt _ (Nat.two_pow_pos _)
  omega

/-- While the core is up the command TICK_POWERED_NS_LO_READ has the effect `poweredNsLoRead`, which keeps the queue. -/
theorem exec_tickPoweredNsLoRead {s : State} (hup : s.ao.up = true) :
    exec .tickPoweredNsLoRead s = .next (poweredNsLoRead s) :=
  calc exec .tickPoweredNsLoRead s
    _ = .next { whenUp poweredNsLoRead s with pending := s.pending } := ok_next _ _
    _ = .next (poweredNsLoRead s) := by rw [whenUp_of hup]; rfl

/-- The upper half is latched whole: no bit is lost to the width of the field (R35). -/
theorem poweredNsLoRead_upperHalf (s : State) :
    (poweredNsLoRead s).fld R.tickPoweredNsHi = s.poweredNs / 2 ^ 32 :=
  calc (s.setFld R.tickPoweredNsHi (s.poweredNs / 2 ^ 32)).fld R.tickPoweredNsHi
    _ = s.poweredNs / 2 ^ 32 % 2 ^ 32 := State.setFld_fld _ _ _ (by decide)
    _ = s.poweredNs / 2 ^ 32 := Nat.mod_eq_of_lt s.poweredNs_upperHalf_lt

/-- The read changes no register but TICK_POWERED_NS_HI. -/
theorem poweredNsLoRead_reg_other (s : State) {o : Nat} (h : o ≠ R.tickPoweredNsHi.off) :
    (poweredNsLoRead s).reg o = s.reg o :=
  s.setFld_reg_other R.tickPoweredNsHi _ h

/-- The read changes the registers and the answer, and nothing else of the state. -/
theorem poweredNsLoRead_frame (s : State) :
    poweredNsLoRead s = { s with regs := (poweredNsLoRead s).regs, reply := (poweredNsLoRead s).reply } := rfl

/-- Settles O10: while the core is up the command is `poweredNsLoRead`, and the upper half of the 64-bit count fits
TICK_POWERED_NS_HI. -/
theorem poweredTimeReadLatchesUpperHalf : Obligations.PoweredTimeReadLatchesUpperHalf := by
  intro s hup
  have hreply : (poweredNsLoRead s).reply = [s.poweredNs % 2 ^ 32] := rfl
  exact ⟨poweredNsLoRead s, exec_tickPoweredNsLoRead hup, hreply, poweredNsLoRead_upperHalf s,
    fun _ h => poweredNsLoRead_reg_other s h, poweredNsLoRead_frame s⟩

end Sys2Proof.Machine
end

section
/-!
PROOFS. The emissivity pair (05_correction_and_radiometry.md, R113): what a write of CORR_INV_EPS and of CORR_LOFF leaves as it
was, and the pair that a frame takes at its start (R26).
-/
namespace Sys2Proof.Machine

/-! ### A write of CORR_INV_EPS changes registers alone -/

/-- The states differ in their registers alone. -/
def RegsOnly (s t : State) : Prop := t = { s with regs := t.regs }

theorem RegsOnly.refl (s : State) : RegsOnly s s := rfl

theorem RegsOnly.trans {s t u : State} (hst : RegsOnly s t) (htu : RegsOnly t u) : RegsOnly s u := by
  unfold RegsOnly at *
  rw [htu, hst]

theorem RegsOnly.setReg {s t : State} (hst : RegsOnly s t) (o : Nat) (w : Word) : RegsOnly s (t.setReg o w) :=
  hst.trans rfl

theorem State.latch_regsOnly (s : State) (err : Fld) (w rel extra : Nat) : RegsOnly s (s.latch err w rel extra) :=
  (RegsOnly.refl s).setReg _ _

/-- A refusal latches an error register, whichever block it is of (R384). -/
theorem State.refuse_regsOnly (s : State) (o cause : Nat) : RegsOnly s (s.refuse o cause) := by
  unfold State.refuse
  split
  · exact s.latch_regsOnly _ _ _ _
  · split <;> exact s.latch_regsOnly _ _ _ _

theorem State.setRow_regsOnly (s : State) (o w : Nat) (r : RegRow) : RegsOnly s (s.setRow o w r) := by
  unfold State.setRow
  cases r.acc <;> rfl

theorem State.setRows_regsOnly (s : State) (l : Loc) (rel w : Nat) : RegsOnly s (s.setRows l rel w) :=
  List.foldlRecOn _ _ (RegsOnly.refl s) fun t hst r _ => hst.trans (t.setRow_regsOnly _ w r)

/-- An ordinary register write with no effect of its own. -/
theorem State.fieldWrite_regsOnly (s : State) (l : Loc) (rel w : Nat) (good : State → Bool) :
    RegsOnly s (s.fieldWrite l rel w good) := by
  unfold State.fieldWrite
  split
  · exact s.refuse_regsOnly _ _
  · dsimp only
    split
    · exact s.setRows_regsOnly l rel w
    · exact s.refuse_regsOnly _ _

/-- What a register write does around the action of its block (R2, R6, R371, R384) changes registers alone. -/
theorem State.writeReg_regsOnly {s : State} {o w : Nat} {fw : Bool} {l : Loc} (hl : locate o = some l)
    (hact : ∀ u : State, RegsOnly u (u.regAct l (o - l.base) w fw)) : RegsOnly s (s.writeReg o w fw).2 := by
  unfold State.writeReg
  rw [hl]
  dsimp only
  have hdone := (RegsOnly.refl s).setReg (errOf o).1.off 0 |>.trans (hact _)
  split
  · exact s.refuse_regsOnly _ _
  · split
    · rfl
    · split
      · split <;> rfl
      · split
        · exact hdone
        · exact hdone.setReg _ _

/-- The offset of CORR_INV_EPS lies in the block of its head. -/
theorem locate_corrInvEps (h : Fin 4) :
    locate (R.corrInvEps h).off = some ⟨.corr, h, 0xC0000 + 0x10000 * h⟩ := by
  revert h; decide

/-- CORR_INV_EPS is no half of a base, and its write has no effect of its own. -/
theorem State.regAct_corrInvEps_regsOnly (s : State) (h base w : Nat) (fw : Bool) :
    RegsOnly s (s.regAct ⟨.corr, h, base⟩ 0x8C w fw) := by
  have hact : s.regAct ⟨.corr, h, base⟩ 0x8C w fw = s.corrWrite ⟨.corr, h, base⟩ 0x8C w := rfl
  rw [hact, State.corrWrite, if_neg (by decide), if_neg (by decide)]
  exact s.fieldWrite_regsOnly _ _ w _

theorem corrInvEps_off_toNat (h : Fin 4) :
    (BitVec.ofNat 24 (0xC008C + 0x10000 * h.val)).toNat = (R.corrInvEps h).off := by
  revert h; decide

theorem State.writeReg_corrInvEps_regsOnly (s : State) (h : Fin 4) (w : Nat) (fw : Bool) :
    RegsOnly s (s.writeReg (R.corrInvEps h).off w fw).2 := by
  have hrel : (R.corrInvEps h).off - (0xC0000 + 0x10000 * h.val) = 0x8C := by simp only [R.corrInvEps]; omega
  refine State.writeReg_regsOnly (locate_corrInvEps h) fun u => ?_
  rw [hrel]
  exact u.regAct_corrInvEps_regsOnly _ _ w fw

/-- While the core is up a register word written is `writeReg`. -/
theorem exec_registerWrite {s : State} (hup : s.ao.up = true) (o : BitVec 24) (w : BitVec 32) (fw : Bool) :
    exec (.registerWrite o w true fw) s = .next { (s.writeReg o.toNat w.toNat fw).2 with pending := s.pending } := by
  have hw : whenWritable o.toNat fw (registerWrite o.toNat w.toNat true fw) s = (s.writeReg o.toNat w.toNat fw).2 := by
    simp [whenWritable, hup, registerWrite]
  calc exec (.registerWrite o w true fw) s
    _ = .next { whenWritable o.toNat fw (registerWrite o.toNat w.toNat true fw) s with pending := s.pending } := ok_next _ _
    _ = _ := by rw [hw]

/-! ### A write of CORR_LOFF commits the pair -/

theorem exec_corrLoffWrite {s : State} (hup : s.ao.up = true) (hfr : s.ao.frozen = false) (h : Fin 4) (v : BitVec 32) :
    exec (.corrLoffWrite h v) s = .next (corrLoffWrite h v.toNat s) :=
  calc exec (.corrLoffWrite h v) s
    _ = .next { whenReg (R.corrLoff h).off (corrLoffWrite h v.toNat) s with pending := s.pending } := ok_next _ _
    _ = .next (corrLoffWrite h v.toNat s) := by rw [whenReg_of hup hfr]; rfl

theorem corrLoffWrite_fld (h v : Nat) (s : State) :
    (corrLoffWrite h v s).fld (R.corrLoff h) = v % 2 ^ (R.corrLoff h).len :=
  s.setFld_fld (R.corrLoff h) v (Nat.le_of_ble_eq_true rfl)

theorem corrInvEps_off_ne_corrLoff (h : Nat) : (R.corrInvEps h).off ≠ (R.corrLoff h).off := by
  simp [R.corrInvEps, R.corrLoff]

/-- The pair committed: LOFF as written, INV_EPS as it stands. -/
theorem corrLoffWrite_pipe (h v : Nat) (s : State) :
    (corrLoffWrite h v s).pipe h =
      { s.pipe h with loff := (corrLoffWrite h v s).fld (R.corrLoff h), inv := s.fld (R.corrInvEps h) } :=
  calc (corrLoffWrite h v s).pipe h
    _ = { s.pipe h with
          loff := (s.setFld (R.corrLoff h) v).fld (R.corrLoff h)
          inv := (s.setFld (R.corrLoff h) v).fld (R.corrInvEps h) } := tget_tset_same _ h _ _
    _ = _ := by rw [s.setFld_fld_off v (corrInvEps_off_ne_corrLoff h)]; rfl

theorem corrLoffWrite_pipe_other (v : Nat) (s : State) {h g : Nat} (hg : g ≠ h) :
    (corrLoffWrite h v s).pipe g = s.pipe g :=
  tget_tset_other _ hg _ _

theorem corrLoffWrite_reg_other (h v : Nat) (s : State) {o : Nat} (ho : o ≠ (R.corrLoff h).off) :
    (corrLoffWrite h v s).reg o = s.reg o :=
  s.setFld_reg_other (R.corrLoff h) v ho

theorem corrLoffWrite_frame (h v : Nat) (s : State) :
    corrLoffWrite h v s = { s with regs := (corrLoffWrite h v s).regs, pipes := (corrLoffWrite h v s).pipes } := rfl

/-! ### The work of a frame start before the frame is made -/

/-- No pipeline changes, and the head keeps its state. -/
def KeepsPipes (h : Fin 4) (s t : State) : Prop := t.pipes = s.pipes ∧ t.hState h = s.hState h

section
variable {h : Fin 4} {s t : State}

theorem KeepsPipes.refl (s : State) : KeepsPipes h s s := ⟨rfl, rfl⟩

theorem KeepsPipes.trans {u : State} (hst : KeepsPipes h s t) (htu : KeepsPipes h t u) : KeepsPipes h s u := by
  obtain ⟨hp, hs⟩ := hst
  obtain ⟨hp', hs'⟩ := htu
  exact ⟨hp'.trans hp, hs'.trans hs⟩

theorem KeepsPipes.of_regs (hp : t.pipes = s.pipes) (hr : t.regs = s.regs) : KeepsPipes h s t :=
  ⟨hp, by simp [State.hState, State.fld, State.reg, hr]⟩

/-- A field beyond the head blocks is none of a head's state (R383). -/
theorem KeepsPipes.setFld (hst : KeepsPipes h s t) {f : Fld} (hf : 0x80000 ≤ f.off) (v : Nat) :
    KeepsPipes h s (t.setFld f v) := by
  have hoff : (R.headStatusState h).off ≠ f.off := by simp only [R.headStatusState]; omega
  exact hst.trans ⟨rfl, t.setFld_fld_off v hoff⟩

theorem KeepsPipes.modSlice (hst : KeepsPipes h s t) (i : Nat) (f : Slice → Slice) : KeepsPipes h s (t.modSlice i f) :=
  hst.trans (.of_regs rfl rfl)

/-- Trims stand in registers of the slices (R79). -/
theorem applyTrims_keepsPipes (s : State) (g : Nat) : KeepsPipes h s (s.applyTrims g) := by
  refine List.foldlRecOn _ _ (.refl s) fun t hst l _ => ?_
  dsimp only
  split
  · exact hst
  · have hg : 0x80000 ≤ (R.afeSliceTrimGtrim (38 * g + l)).off := by simp only [R.afeSliceTrimGtrim]; omega
    have hc : 0x80000 ≤ (R.afeSliceTrimCtrim (38 * g + l)).off := by simp only [R.afeSliceTrimCtrim]; omega
    exact ((hst.setFld hg _).setFld hc _).modSlice _ _

/-- Trims, phases and weights are the slices' own (R79, R88). -/
theorem sliceFrame_keepsPipes (s : State) (g : Nat) : KeepsPipes h s (s.sliceFrame g) := by
  unfold State.sliceFrame
  refine List.foldlRecOn _ _ ?_ fun t hst l _ => ?_
  · split
    · exact applyTrims_keepsPipes s g
    · exact .refl s
  · extract_lets i x on t' w
    have hphase : KeepsPipes h s t' := by
      dsimp only [t']
      split
      · refine List.foldlRecOn _ _ hst fun u hsu j _ => ?_
        have hj : 0x80000 ≤ (R.afeSlicePhaseSphase j).off := by simp only [R.afeSlicePhaseSphase]; omega
        exact hsu.setFld hj _
      · exact hst
    split
    · exact hphase
    · exact hphase.modSlice _ _

/-- The compensation of an AFE group works on its tables and its trim (R332, R333). -/
theorem cmpPut_keepsPipes (s : State) (k : Nat) (l : List Int) : KeepsPipes h s (s.cmpPut k l) :=
  List.foldlRecOn _ _ (.refl s) fun _ hst _ _ => hst.trans (.of_regs rfl rfl)

theorem cmpTemp_keepsPipes (s : State) (k : Nat) : KeepsPipes h s (s.cmpTemp k).2 := by
  unfold State.cmpTemp
  split
  · dsimp only
    split <;> exact .of_regs rfl rfl
  · split <;> exact .refl s

theorem compUpdate_keepsPipes (s : State) (k : Nat) : KeepsPipes h s (s.compUpdate k) :=
  have hnamed : KeepsPipes h s
      ((s.cmpPut k (tget (fun _ => []) s.therm.pend k)).modTherm fun x => { x with pend := tdel k x.pend }) :=
    (cmpPut_keepsPipes s k _).trans (.of_regs rfl rfl)
  (hnamed.trans (cmpTemp_keepsPipes _ k)).trans (.of_regs rfl rfl)

theorem hlFrame_keepsPipes (s : State) (n : Nat) : KeepsPipes h s (s.hlFrame n) := .of_regs rfl rfl

end

/-! ### The frame takes the pair at its start -/

/-- The frame that a head started last carries the pair that a pipeline held. -/
def NewFrameCarries (h : Nat) (p : Pipe) (t : State) : Prop :=
  ∃ f, t.newFrame h = some f ∧ f.loff = p.loff ∧ f.inv = p.inv

/-- A change of a frame that leaves its pair leaves what the last frame carries. -/
theorem modFrame_carries {s : State} {h : Nat} {p : Pipe} (hs : NewFrameCarries h p s) (no : Nat) {f : Frame → Frame}
    (hf : ∀ g, (f g).loff = g.loff ∧ (f g).inv = g.inv) : NewFrameCarries h p (s.modFrame h no f) := by
  obtain ⟨g, hg, hl, hi⟩ := hs
  unfold State.newFrame at hg
  refine ⟨if g.no = no then f g else g, ?_, ?_⟩
  · simp [State.newFrame, State.modFrame, hg]
  · split
    · simp [hf, hl, hi]
    · exact ⟨hl, hi⟩

theorem inlineFrame_carries {s : State} {h : Nat} {p : Pipe} (hs : NewFrameCarries h p s) (no : Nat) :
    NewFrameCarries h p (s.inlineFrame h no) := by
  unfold State.inlineFrame
  split
  · exact modFrame_carries (s := s.fresh) hs no (f := fun g => { g with inl := true }) fun _ => ⟨rfl, rfl⟩
  · exact hs

/-- The list of frames keeps its last 20, the one just appended among them. -/
theorem pushFrame_carries {s : State} {h : Nat} {p : Pipe} {f : Frame} {g : Head → Head} (hl : f.loff = p.loff)
    (hi : f.inv = p.inv)
    (hg : (g (s.head h)).frames = ((s.head h).frames ++ [f]).drop ((s.head h).frames.length + 1 - 20)) :
    NewFrameCarries h p (s.modHead h g) := by
  refine ⟨f, ?_, hl, hi⟩
  have hkept : ¬ ((s.head h).frames ++ [f]).length ≤ (s.head h).frames.length + 1 - 20 := by
    simp only [List.length_append, List.length_singleton]; omega
  simp only [State.newFrame, State.modHead_head, if_true, hg, List.getLast?_drop, if_neg hkept, List.getLast?_concat]

/-- A running head's new frame carries the pair its pipeline held when the frame started (R113). -/
theorem headFrameStart_carries {s : State} (h : Fin 4) (hdue : (s.head h).due = true)
    (htiming : (s.head h).timing = true) (halive : s.alive = true) (hrun : s.hState h = 4) :
    NewFrameCarries h (s.pipe h) (headFrameStart h s) := by
  unfold headFrameStart
  extract_lets x edge tick refL s₁ s₂ s₃ p b st no
  have hprep : KeepsPipes h s s₃ :=
    (((KeepsPipes.of_regs rfl rfl).trans (sliceFrame_keepsPipes s₁ h)).trans (compUpdate_keepsPipes _ _)).trans
      (hlFrame_keepsPipes s₂ h)
  obtain ⟨hpipes, hstate⟩ := hprep
  have hp : p = s.pipe h := by simp only [p, State.pipe, hpipes]
  rw [if_neg (by simp [x, hdue, htiming, halive]), if_neg (by simp [hstate, hrun])]
  refine inlineFrame_carries (pushFrame_carries ?_ ?_ rfl) _
  · rw [← hp]
  · rw [← hp]

/-- Settles O28: the write of CORR_INV_EPS changes registers alone, that of CORR_LOFF is `corrLoffWrite`, and the frame takes the
pair of the pipeline, which no work of the frame start before it changes. -/
theorem emissivityPairCommits : Obligations.EmissivityPairCommits := by
  refine ⟨fun s h w fw hup _ => ?_, fun s h v hup hfr => ?_, fun s h hcalm hdue htiming hrun => ?_⟩
  · have hregs : RegsOnly s (s.writeReg (BitVec.ofNat 24 (0xC008C + 0x10000 * h.val)).toNat w.toNat fw).2 := by
      rw [corrInvEps_off_toNat]
      exact s.writeReg_corrInvEps_regsOnly h w.toNat fw
    exact ⟨_, exec_registerWrite hup _ w fw, by rw [hregs], by rw [hregs]⟩
  · have hpipe := corrLoffWrite_pipe h v.toNat s
    exact ⟨corrLoffWrite h v.toNat s, exec_corrLoffWrite hup hfr h v, corrLoffWrite_fld _ _ _, by rw [hpipe],
      by rw [hpipe], fun _ hg => corrLoffWrite_pipe_other _ _ hg, fun _ ho => corrLoffWrite_reg_other _ _ _ ho,
      corrLoffWrite_frame _ _ _⟩
  · obtain ⟨f, hf, hloff, hinv⟩ := headFrameStart_carries h hdue htiming (alive_of_calm hcalm) hrun
    exact ⟨_, f, ok_next _ _, hf, hloff, hinv⟩

end Sys2Proof.Machine
end
